-- ==== Sys2Proof/Word.lean ====
section
/-! DEFINITION. The word types of the cell link (R114, R179): bytes, the 4-bit node numbers of a frame header,
and the 32-bit quantities. -/

namespace Sys2Proof

/-- One byte of a frame on the cell link (R114). -/
abbrev Byte := BitVec 8

/-- A node number as a frame header carries it (R179): 0 the cell computer, 1 to 14 stations, 15 all. -/
abbrev Node := BitVec 4

/-- A 32-bit quantity that wraps: the position counter (R28) and the sample index (R75). -/
abbrev Word32 := BitVec 32

end Sys2Proof
end

