-- ==== Sys2Proof/Syntax.lean ====
section
/-! DEFINITION. The commands of the block: one constructor of `Instr` for each row of spec/opcode_table.json,
with what the event brings with it (a reading, a line's level, a received frame). -/

namespace Sys2Proof

/-- The levels of the field lines the part samples (section 2.1 of the scope, Table 10-4), as the sender of a
command reports them for that instant. -/
structure Lines where
  /-- The stop line is low as devices other than the station itself give it (R149). -/
  stopLow : Bool
  /-- The amplifier fault line is active (R50). -/
  ampFault : Bool
  /-- The grips-closed line is high (R7). -/
  grips : Bool
  /-- The arm-closed line is high (R95). -/
  armClosed : Bool
  /-- The arm-open line is high (R110). -/
  armOpen : Bool
  deriving DecidableEq, Repr

/-- A received frame that passed the checks of R115: its header fields (R179) and its payload bytes. The class
is the command's own row. -/
structure RxFrame where
  sender : Node
  dest : Node
  epoch : Byte
  inStep : Bool
  payload : List Byte
  deriving DecidableEq, Repr

/-- What the receiver took from the line for one frame (R115): the whole bytes, and whether the frame ended inside
a further byte. -/
structure Taken where
  bytes : List Byte
  partialByte : Bool
  deriving DecidableEq, Repr

/-- The commands. A command whose row is a timer or a count that reaches its value stands for the instant at which
the part acts on it. -/
inductive Instr where
  /-- R172: the strap word shifted in at the end of the reset. -/
  | powerOnReset (strap : BitVec 16)
  /-- R174: the levels of the lines at that instant. -/
  | startIntervalEnd (lines : Lines)
  /-- R70: the levels of the lines at the tick. -/
  | sampleTick (lines : Lines)
  /-- R30 -/
  | gateClose
  /-- R28: `up` is the direction of separation; `us` the microseconds of the 1 MHz reference that have passed since
  the period timer of the state was last brought up to date. -/
  | encoderCount (up : Bool) (us : Nat)
  /-- R32 -/
  | periodTimerStop
  /-- R73: the reading in ppm of the full scale of the range in force. -/
  | loadConversionEnd (reading : Int)
  /-- R71, R100: the strain reading in ppm of the gauge's travel. -/
  | strainConversionEnd (reading : Int)
  /-- R79 -/
  | rangeDown
  /-- R80 -/
  | rangeSettleEnd
  /-- R83 -/
  | tareAttemptJudged
  /-- R7 -/
  | gripsQualified
  /-- R17 -/
  | holdTimeout
  /-- R10, R21 -/
  | budgetTimeout
  /-- R19 -/
  | endingTimeout
  /-- R61 -/
  | partnerLoss
  /-- R67 -/
  | followLossTimeout
  /-- R53 -/
  | levelTimer
  /-- R130 -/
  | statusTimer
  /-- R129: the member whose age has passed the timeout. -/
  | presenceTimeout (node : Node)
  /-- R145 -/
  | coldStart
  /-- R99 -/
  | settlingComplete
  /-- R95 -/
  | armClosedHigh
  /-- R105 -/
  | armClosedLow
  /-- R110 -/
  | armOpenHigh
  /-- R97: the 32 bits shifted in. -/
  | identWord (word : BitVec 32)
  /-- R95 -/
  | extCloseTimeout
  /-- R96 -/
  | identTimeout
  /-- R110 -/
  | extOpenTimeout
  /-- R150: `othersLow` is the level that other devices give the line after the edge (R149). -/
  | stopLineFall (othersLow : Bool)
  /-- R119 -/
  | startBitSensed
  /-- R115, R116: what was taken of the frame that failed a check. -/
  | receiveError (taken : Taken)
  /-- R141 -/
  | grantFrame (f : RxFrame)
  /-- R55 -/
  | levelFrame (f : RxFrame)
  /-- R150 -/
  | stopFrame (f : RxFrame)
  /-- R143 -/
  | statusFrame (f : RxFrame)
  /-- R126; `cls` is the class code: 5, 6 or 7, or a code the station does not know (R125). -/
  | reportFrame (cls : Byte) (f : RxFrame)
  /-- R176 -/
  | config (f : RxFrame)
  /-- R2 -/
  | order (f : RxFrame)
  /-- R18 -/
  | abort (f : RxFrame)
  /-- R156: with the levels of the lines as the blocks find them (R156, R111, R51). -/
  | clear (f : RxFrame) (lines : Lines)
  /-- R128: with the levels of the lines as the blocks find them (R111, R51). -/
  | restart (f : RxFrame) (lines : Lines)
  /-- R142 -/
  | reclaim (f : RxFrame)
  /-- R117: `quiet` bit times of silence have passed since the quiet time of the state was last brought up to
  date. -/
  | frameStart (quiet : Nat)
  /-- R121 -/
  | frameComplete
  /-- R122 -/
  | frameAbandon
  /-- R114 -/
  | lineIdle
  /-- R96 -/
  | identStartBit
  deriving DecidableEq, Repr

end Sys2Proof
end

