-- ==== Sys2Proof/Decode.lean ====
section
/-! DEFINITION. The decoder over the rows of spec/opcode_table.json that give bits. No row gives any (every row's
list of fields is empty and none has fixed bits), so no word spells a command. -/

namespace Sys2Proof

/-- The command that the `nbits` bits of `w` spell by the table: none, since no row of the table gives bits. -/
def decodeTableWord (_nbits _w : Nat) : Option Instr := none

end Sys2Proof
end

