-- ==== Sys2Proof/Config.lean ====
section
/-! DEFINITION. The free values: what the manual leaves open and the part nevertheless decides. -/

namespace Sys2Proof

/-- The `n`-th open choice of an order between blocks that act on one instant. R101 lets the sequencer and the
extensometer unit take a sample in either order, R154 lets the reports of one instant be taken in any order, R8 and
R84 do so for a tare report and a low grips line, and no rule orders the partner checks of R62 and R63 against the
sequencer's handling of the sample. Nothing constrains a value of this function (assumption 1). -/
opaque Config.freeBit : Nat → Bool

end Sys2Proof
end

