-- ==== Sys2Proof/Machine/State.lean ====
section
/-! DEFINITION. The state of one NC-612, block by block (Table 1 of the scope), as plain data, with the value of every
piece right after power-on reset. Time is counted in bit times of the link (0.1 µs) unless a field says otherwise. -/

namespace Sys2Proof.Machine

/-! ## Names (Table 11-1) -/

/-- The role of the strap word (R172, R184). -/
inductive Role | solo | lead | follow
  deriving DecidableEq, Repr

/-- The states of the test sequencer (Table 1-3) and of the follow sequencer (section 3.6), which share one list of
codes (R179). -/
inductive SeqState
  | unconfigured | idle | armed | taring | attaching | claiming | running | held | ending | returning | done
  | stopped | faulted | followClaim | following
  deriving DecidableEq, Repr

/-- The movement kind a sequencer publishes (R6, R65). -/
inductive MoveKind | none | test | ret
  deriving DecidableEq, Repr

/-- The reason a GRANT carries (R136). -/
inductive GrantReason | phase | ret | follow | release
  deriving DecidableEq, Repr

/-- The causes of Table 8-1: the first four are cell-stop causes, the others local. -/
inductive FaultCause
  | overload | skewLimit | driveFault | travelUnmapped
  | zoneForbidden | budgetTimeout | budgetRevoked | holdTimeout | partnerFault | partnerRestarted
  | extCloseTimeout | extOpenTimeout | extIdFault | extGaugeMismatch | tareUnstable | duplicateNumber
  | configMismatch
  deriving DecidableEq, Repr

/-- The outcome of a test (R26). -/
inductive TestOutcome | ended | broken | aborted | stopped | faulted
  deriving DecidableEq, Repr

/-- The cause of a switchover (R106, R108). -/
inductive SwitchCause | removal | slip | travel | idFault | testEnd | stop | abort
  deriving DecidableEq, Repr

/-- The states of the extensometer unit (Table 5-1). -/
inductive ExtState | absent | parked | closing | ident | settling | measuring | opening | jammed
  deriving DecidableEq, Repr

/-- The kinds of the notice EXT_EVENT (R182). -/
inductive ExtEventKind | closeTimeout | idFault | gaugeMismatch | removal | slip | travel
  deriving DecidableEq, Repr

/-- The control mode of a phase (Table 1-2). -/
inductive PhaseMode | xhRate | loadRate | strainRate | hold
  deriving DecidableEq, Repr

/-- What a phase asks of the extensometer (Table 1-2). -/
inductive SourceDemand | extRequired | extPreferred | xh
  deriving DecidableEq, Repr

/-- The condition that ends a phase (R13). -/
inductive EndKind | strainAt | loadAt | positionAt | timeAt | yieldFound | brk
  deriving DecidableEq, Repr

/-- When the plan removes the extensometer (R104). -/
inductive RemovalKind | atStrain | atPeakDrop | atPhaseEnd
  deriving DecidableEq, Repr

/-- The load ranges of Table 4-2, range 1 the widest. -/
inductive LoadRange | r1 | r2 | r3 | r4
  deriving DecidableEq, Repr

/-- The range mode (R76). -/
inductive RangeMode
  | auto
  | fixed (r : LoadRange)
  deriving DecidableEq, Repr

/-! ## The order and the configuration -/

/-- One entry of the phase table (Table 1-2). -/
structure Phase where
  mode : PhaseMode
  target : Int
  step : Nat
  rateLimit : Nat
  source : SourceDemand
  endKind : EndKind
  endValue : Int
  share : Nat
  deriving DecidableEq, Repr

/-- The yield part of an order (Table 1-1). -/
structure YieldPlan where
  drop : Nat
  strainLimit : Nat
  deriving DecidableEq, Repr

/-- The extensometer plan of an order (Table 1-1). -/
structure ExtPlan where
  removal : RemovalKind
  value : Nat
  fallback : Bool
  slipTolerance : Nat
  gauge : Nat
  deriving DecidableEq, Repr

/-- The return part of an order (Table 1-1). -/
structure ReturnPlan where
  rate : Nat
  position : Nat
  share : Nat
  deriving DecidableEq, Repr

/-- A test order (Table 1-1). -/
structure Order where
  testId : Word32
  parallelLength : Nat
  /-- in seconds; absent counts as 10 s (R1) -/
  holdTimeout : Option Nat
  rangeMode : RangeMode
  decimation : Nat
  armFraction : Nat
  dropFraction : Nat
  yieldPlan : Option YieldPlan
  plan : Option ExtPlan
  returnPlan : Option ReturnPlan
  phases : List Phase
  deriving DecidableEq, Repr

/-- One zone of the travel map (Table 2-2). -/
structure Zone where
  valid : Bool
  k : Nat
  base : Nat
  permitsTest : Bool
  permitsReturn : Bool
  speedCap : Nat
  deriving DecidableEq, Repr

/-- The configuration set of Table 10-3. The sample period is in tenths of a millisecond. -/
structure Settings where
  period : Nat
  statusPeriod : Nat
  gateLength : Nat
  capacity : Nat
  loadCapacity : Nat
  extFitted : Bool
  startPosition : Nat
  trimLimit : Nat
  skewAlarm : Nat
  skewLimit : Nat
  zones : List Zone
  deriving DecidableEq, Repr

/-! ## Records -/

/-- A sample record (R74). On a FOLLOW station only the index and the position are the record's; the other fields
stand at zero and no block reads them. -/
structure SampleRec where
  index : Word32
  load : Int
  position : Int
  strain : Int
  phase : Nat
  ext : Bool
  held : Bool
  hold : Bool
  yieldFlag : Bool
  brk : Bool
  deriving DecidableEq, Repr

/-- The test record (R167). An optional part is absent while it is `none`; phase 0 is none. -/
structure TestRecord where
  testId : Word32
  outcome : Option TestOutcome
  endPhase : Nat
  maxLoad : Int
  posAtMax : Int
  strainAtMax : Int
  /-- upper yield load, strain at upper yield -/
  yieldPart : Option (Int × Int)
  /-- switch cause, strain at switch, position at switch -/
  switchPart : Option (SwitchCause × Int × Int)
  extOnAtBreak : Bool
  /-- strain at break, position at break -/
  breakPart : Option (Int × Int)
  holdCount : Nat
  offered : Nat
  stored : Nat
  lost : Nat
  faultCause : Option FaultCause
  deriving DecidableEq, Repr

/-- The locked part of the fault record (R152). -/
structure FaultRec where
  cause : FaultCause
  state : SeqState
  phase : Nat
  index : Word32
  position : Int
  load : Int
  deriving DecidableEq, Repr

/-- A set of hold causes (R15). -/
structure HoldCauses where
  budget : Bool
  partner : Bool
  extNotReady : Bool
  deriving DecidableEq, Repr

/-- Why an order is refused (R2). -/
inductive OrderRefusal | busy | badOrder | notLead
  deriving DecidableEq, Repr

/-- Why a CONFIG is refused (R176, R178): the field number of R183 with BAD_CONFIG. -/
inductive ConfigRefusal
  | badConfig (field : Nat)
  | alreadyConfigured
  deriving DecidableEq, Repr

/-- The kinds of notice with their fields (R182). -/
inductive NoticeKind
  | orderAccepted (testId : Word32)
  | orderRefused (reason : OrderRefusal)
  | phaseBegun (phase : Nat)
  | holdBegun (causes : HoldCauses)
  | holdEnded
  | extEvent (kind : ExtEventKind) (code : Nat)
  | yieldFound
  | breakFound
  | testEnded (outcome : TestOutcome)
  /-- the locked part is carried when this report locked the record -/
  | fault (cause : FaultCause) (locked : Option FaultRec)
  | configAccepted
  | configRefused (reason : ConfigRefusal)
  | clearRefused
  | skewAlarm (skew : Int)
  | noticesLost (count : Nat)
  deriving DecidableEq, Repr

/-- A notice with the sample index current when it was made (R75, R123). -/
structure Notice where
  kind : NoticeKind
  index : Word32
  deriving DecidableEq, Repr

/-! ## Outgoing frames -/

/-- A GRANT (R136); `raise` says that it was placed as a raise, which the claim lock guards (R118). -/
structure GrantFrame where
  units : Nat
  reason : GrantReason
  raise : Bool
  deriving DecidableEq, Repr

/-- The content of a LEVEL frame (R54). A follow's frame carries role, position and state; its other fields stand at
zero and are not sent. -/
structure Level where
  role : Role
  position : Int
  demand : Int
  state : SeqState
  phase : Nat
  kind : MoveKind
  share : Nat
  index : Word32
  deriving DecidableEq, Repr

/-- The content of a STATUS frame (R131, R181). `entries` is absent in the frame of a stale sender; `gauge` is absent
while the identification record is invalid. -/
structure Status where
  role : Role
  state : SeqState
  phase : Nat
  latch : Bool
  driving : Bool
  lineLow : Bool
  lockedCause : Option FaultCause
  further : Nat
  inStep : Bool
  standstill : Bool
  epoch : Byte
  capacity : Nat
  index : Word32
  position : Int
  velocity : Int
  load : Int
  range : LoadRange
  extState : ExtState
  gauge : Option (Nat × Nat)
  leadIndex : Word32
  mirrorAge : Nat
  errCheck : Nat
  errLength : Nat
  errShort : Nat
  lost : Nat
  presence : List Nat
  entries : Option (List Nat)
  deriving DecidableEq, Repr

/-- A CURVE frame (R164): the test id and up to 8 samples, oldest first. -/
structure Curve where
  testId : Word32
  samples : List SampleRec
  deriving DecidableEq, Repr

/-- A frame of the station's own, by class (Table 6-1). -/
inductive OutFrame
  | stop (cause : FaultCause)
  | grant (g : GrantFrame)
  | level (l : Level)
  | notice (n : Notice)
  | status (st : Status)
  | result (r : TestRecord)
  | curve (c : Curve)
  deriving DecidableEq, Repr

/-- The frame in flight (R120): its content, the epoch and in-step bit its header took when it started (R135), and
whether the block that placed it has since disowned it (R124, R166, R170, R171). -/
structure InFlight where
  frame : OutFrame
  epoch : Byte
  inStep : Bool
  disowned : Bool
  deriving DecidableEq, Repr

/-! ## The blocks -/

/-- The model's count of time between ticks: bit times into the current microsecond of the 1 MHz reference, and bit
times since the last sample tick. -/
structure Clock where
  usPhase : Nat
  sampleTimer : Nat
  deriving DecidableEq, Repr

/-- The start-up unit (R172 to R178). In STRAP_FAULT no number is fixed. -/
structure StartUp where
  strapWord : BitVec 16
  strapFault : Bool
  number : Nat
  role : Role
  partner : Nat
  /-- the start interval timer while the interval runs (R174) -/
  intervalTimer : Option Nat
  intervalEnded : Bool
  config : Option Settings
  deriving DecidableEq, Repr

/-- A timeout of the test sequencer that a sample has found reached and that is not yet acted on. -/
inductive DueTimeout | hold | budget | ending
  deriving DecidableEq, Repr

/-- The test sequencer (R1 to R27). -/
structure Seq where
  state : SeqState
  order : Option Order
  /-- the current phase, 0 for none -/
  phase : Nat
  /-- whether the current phase has begun (R11, R14) -/
  phaseBegun : Bool
  /-- in tenths of a millisecond -/
  phaseTime : Nat
  refValue : Int
  holdCount : Nat
  /-- samples handled in the state since its entry (R10) -/
  stateSamples : Nat
  /-- consecutive samples in RUNNING, that of the entry counted as the first (R15) -/
  runSamples : Nat
  gripsCount : Nat
  /-- a low grips line of this tick that the sequencer takes after the tare report of the same tick (R8) -/
  gripsLowWaits : Bool
  due : Option DueTimeout
  testZero : Int
  returnCancelled : Bool
  deriving DecidableEq, Repr

/-- The follow sequencer (R64 to R68). -/
structure Follow where
  state : SeqState
  share : Nat
  asked : Nat
  /-- consecutive samples in HELD with the mirror lost (R67) -/
  lossSamples : Nat
  deriving DecidableEq, Repr

/-- The mode of the measure unit (R30, R31). -/
inductive MeasureMode | gate | period
  deriving DecidableEq, Repr

/-- The modes of the regulator (Table 2-3). -/
inductive RegMode | zero | xhRate | loadRate | strainRate | hold | ret | direct
  deriving DecidableEq, Repr

/-- The travel unit (R28 to R51). -/
structure Travel where
  counter : Word32
  latched : Int
  /-- the demand applied when the sample in progress was taken (R36) -/
  appliedAtTick : Int
  measure : MeasureMode
  gateOpen : Bool
  gateTicks : Nat
  gateSum : Int
  /-- the sum of a gate that has closed on its G-th tick and from which no velocity has been taken yet -/
  gateDue : Option Int
  /-- in microseconds, stopped at 65,535 (R31) -/
  periodTimer : Nat
  velocity : Int
  standstill : Bool
  regValue : Int
  regMode : RegMode
  /-- the rate window, oldest first: value and sample index (R39) -/
  window : List (Int × Word32)
  holdPosition : Int
  applied : Int
  tripped : Bool
  deriving DecidableEq, Repr

/-- The pair unit (R52 to R63). -/
structure Pair where
  mirror : Option Level
  age : Nat
  /-- the LEVEL send timer starts on the next tick (R53) -/
  levelRun : Bool
  levelTimer : Option Nat
  skew : Int
  skewKnown : Bool
  trim : Int
  alarmed : Bool
  /-- the skew was beyond the limit on the last sample on which R60 ran -/
  overLimit : Bool
  joined : Bool
  runCount : Nat
  deriving DecidableEq, Repr

/-- The states of the converter (Table 4-1). -/
inductive Converter | idle | acquiringLoad | convertingLoad | acquiringStrain | convertingStrain
  deriving DecidableEq, Repr

/-- A tare in progress (R82): the number of the attempt and the gross loads it has collected, oldest first. -/
structure Tare where
  attempt : Nat
  loads : List Int
  deriving DecidableEq, Repr

/-- The peak with its position and strain (R87). -/
structure Peak where
  load : Int
  position : Int
  strain : Int
  deriving DecidableEq, Repr

/-- The yield search (R86). -/
inductive YieldSearch | inactive | searching | found | ended
  deriving DecidableEq, Repr

/-- The load channel (R70 to R91). -/
structure LoadCh where
  conv : Converter
  convTimer : Nat
  /-- the load reading of the pair in progress, once its load conversion has ended -/
  reading : Option Int
  nextIndex : Word32
  /-- the latest completed sample record -/
  last : Option SampleRec
  /-- the net load handed to the STATUS frames (R73) -/
  statusLoad : Int
  range : LoadRange
  pendingRange : Option LoadRange
  rangeMode : RangeMode
  settleCount : Nat
  /-- samples are HELD until the end of the settling is taken (R80) -/
  settling : Bool
  downCount : Nat
  tareOffset : Int
  tare : Option Tare
  /-- the conversion pair of this tick is checked for overload (R85) -/
  overCheck : Bool
  overPrev : Bool
  spanOpen : Bool
  peak : Option Peak
  breakArmed : Bool
  breakFound : Bool
  yieldSearch : YieldSearch
  deriving DecidableEq, Repr

/-- The identification record (R97). -/
structure IdRec where
  code : Nat
  travel : Nat
  serial : Nat
  deriving DecidableEq, Repr

/-- The extensometer unit (R92 to R113). A timer is `none` while it does not run. -/
structure Ext where
  state : ExtState
  idRec : Option IdRec
  /-- the time since the start edge of an identification word in progress (R96) -/
  shift : Option Nat
  closeTimer : Option Nat
  identTimer : Option Nat
  openTimer : Option Nat
  strainCount : Nat
  lastReading : Int
  zero : Option Int
  /-- the last measured pair: extensometer strain and position (R100) -/
  pair : Option (Int × Int)
  offset : Int
  /-- the slip window, oldest first: load and extensometer strain (R103) -/
  slip : List (Int × Int)
  attachWaits : Bool
  deriving DecidableEq, Repr

/-- The line state (R114). -/
inductive LineState | quiet | receiving | sending
  deriving DecidableEq, Repr

/-- The link unit (R114 to R132). The NOTICE slot is the head of the notice queue (R120). -/
structure Link where
  line : LineState
  /-- RECEIVING a frame whose start bit was sensed, which will be judged (R115, R122) -/
  taking : Bool
  quiet : Nat
  stop : Option FaultCause
  grant : Option GrantFrame
  level : Option Level
  status : Option Status
  result : Option TestRecord
  curve : Option Curve
  inFlight : Option InFlight
  notices : List Notice
  lost : Nat
  errCheck : Nat
  errLength : Nat
  errShort : Nat
  /-- the age of each node that is a member of the presence list -/
  presence : Vector (Option Nat) 15
  statusTimer : Option Nat
  deriving DecidableEq, Repr

/-- The budget unit (R133 to R148). -/
structure Budget where
  table : Vector Nat 15
  epoch : Byte
  inStep : Bool
  lock : Bool
  requested : Nat
  reason : GrantReason
  coldTimer : Option Nat
  lastHeard : Byte
  deriving DecidableEq, Repr

/-- The stop and fault unit (R149 to R159). The record is LOCKED when it holds a locked part. -/
structure StopFault where
  latch : Bool
  driving : Bool
  record : Option FaultRec
  further : Nat
  deriving DecidableEq, Repr

/-- The collection state of the record unit (R160). -/
inductive Collection | none | collecting | ended
  deriving DecidableEq, Repr

/-- The record unit (R160 to R171). `sent` counts the samples of completed CURVE frames of the current test (R163). -/
structure Recorder where
  collection : Collection
  store : List SampleRec
  offered : Nat
  lost : Nat
  sent : Nat
  decCount : Nat
  runBegun : Bool
  waiting : Option TestRecord
  deriving DecidableEq, Repr

/-- The whole machine: the line levels as last reported, the blocks, the count of open choices taken
(assumption 1), and the queue of waiting commands, the first at the front. -/
structure State where
  lines : Lines
  clock : Clock
  start : StartUp
  seq : Seq
  testRec : Option TestRecord
  follow : Follow
  travel : Travel
  pair : Pair
  load : LoadCh
  ext : Ext
  link : Link
  budget : Budget
  stop : StopFault
  recorder : Recorder
  free : Nat
  pending : List Instr
  deriving DecidableEq, Repr

/-- The block has no fault that stops it: what the manual calls a fault is recorded in the state (R153). No
constructor: nobody raises one, which is neither safe nor unsafe. -/
inductive Fault
  deriving DecidableEq, Repr

/-- Why a command has no meaning. -/
inductive Refusal
  /-- Raised by `exec` for a row that has no meaning yet; safe, since the machine does not go on. -/
  | notModelled (mnemonic : String)
  deriving DecidableEq, Repr

/-! ## The state right after power-on reset

The strap word of the reset is no part of the reset itself: `POWER_ON_RESET` brings it. The word that stands here is 0,
whose examination by R172 gives STRAP_FAULT (assumption 2). -/

/-- No line reported yet: the stop line high, every other line low or inactive (assumption 2). -/
def Lines.reset : Lines :=
  { stopLow := false, ampFault := false, grips := false, armClosed := false, armOpen := false }

def Clock.reset : Clock := { usPhase := 0, sampleTimer := 0 }

/-- R172, R175 with strap word 0. -/
def StartUp.reset : StartUp :=
  { strapWord := 0, strapFault := true, number := 0, role := .solo, partner := 0, intervalTimer := none,
    intervalEnded := false, config := none }

/-- R5. -/
def Seq.reset : Seq :=
  { state := .unconfigured, order := none, phase := 0, phaseBegun := false, phaseTime := 0, refValue := 0,
    holdCount := 0, stateSamples := 0, runSamples := 0, gripsCount := 0, gripsLowWaits := false, due := none,
    testZero := 0, returnCancelled := false }

/-- R64, R65. -/
def Follow.reset : Follow := { state := .unconfigured, share := 0, asked := 0, lossSamples := 0 }

/-- R29, R33, R37, R49, Table 2-4. -/
def Travel.reset : Travel :=
  { counter := 0, latched := 0, appliedAtTick := 0, measure := .gate, gateOpen := false, gateTicks := 0,
    gateSum := 0, gateDue := none, periodTimer := 0, velocity := 0, standstill := false, regValue := 0,
    regMode := .zero, window := [], holdPosition := 0, applied := 0, tripped := false }

/-- R56, R59, R60, R63, Table 3-2. -/
def Pair.reset : Pair :=
  { mirror := none, age := 0, levelRun := false, levelTimer := none, skew := 0, skewKnown := false, trim := 0,
    alarmed := false, overLimit := false, joined := false, runCount := 0 }

/-- R75, R76, R80, R84, R86, Table 4-3. -/
def LoadCh.reset : LoadCh :=
  { conv := .idle, convTimer := 0, reading := none, nextIndex := 0, last := none, statusLoad := 0, range := .r1,
    pendingRange := none, rangeMode := .auto, settleCount := 0, settling := false, downCount := 0,
    tareOffset := 0, tare := none, overCheck := false, overPrev := false, spanOpen := false, peak := none,
    breakArmed := false, breakFound := false, yieldSearch := .inactive }

/-- R93, R113: OPENING with the open timer at 0. -/
def Ext.reset : Ext :=
  { state := .opening, idRec := none, shift := none, closeTimer := none, identTimer := none,
    openTimer := some 0, strainCount := 0, lastReading := 0, zero := none, pair := none, offset := 0,
    slip := [], attachWaits := false }

/-- R114, R124, Table 6-2: RECEIVING with nothing received. -/
def Link.reset : Link :=
  { line := .receiving, taking := false, quiet := 0, stop := none, grant := none, level := none, status := none,
    result := none, curve := none, inFlight := none, notices := [], lost := 0, errCheck := 0, errLength := 0,
    errShort := 0, presence := Vector.replicate 15 none, statusTimer := none }

/-- R148. -/
def Budget.reset : Budget :=
  { table := Vector.replicate 15 0, epoch := 0, inStep := false, lock := false, requested := 0,
    reason := .release, coldTimer := none, lastHeard := 0 }

/-- R159. -/
def StopFault.reset : StopFault := { latch := false, driving := false, record := none, further := 0 }

/-- R171. -/
def Recorder.reset : Recorder :=
  { collection := .none, store := [], offered := 0, lost := 0, sent := 0, decCount := 0, runBegun := false,
    waiting := none }

/-- The machine right after reset. -/
def State.reset : State :=
  { lines := Lines.reset, clock := Clock.reset, start := StartUp.reset, seq := Seq.reset, testRec := none,
    follow := Follow.reset, travel := Travel.reset, pair := Pair.reset, load := LoadCh.reset,
    ext := Ext.reset, link := Link.reset, budget := Budget.reset, stop := StopFault.reset,
    recorder := Recorder.reset, free := 0, pending := [] }

end Sys2Proof.Machine
end

