-- ==== Sys2Proof/Machine/Ops.lean ====
section
/-! DEFINITION. The named operations over the state: updates of one block, the constants of the manual, arithmetic
with the manual's clamps, the accessors every block reads through, and the small operations on the notice queue and
on the budget table that several blocks share. -/

namespace Sys2Proof.Machine

/-! ## One update per field of the state -/

def State.setLines (s : State) (x : Lines) : State := { s with lines := x }
def State.setClock (s : State) (x : Clock) : State := { s with clock := x }
def State.setStart (s : State) (x : StartUp) : State := { s with start := x }
def State.setSeq (s : State) (x : Seq) : State := { s with seq := x }
def State.setTestRec (s : State) (x : Option TestRecord) : State := { s with testRec := x }
def State.setFollow (s : State) (x : Follow) : State := { s with follow := x }
def State.setTravel (s : State) (x : Travel) : State := { s with travel := x }
def State.setPair (s : State) (x : Pair) : State := { s with pair := x }
def State.setLoad (s : State) (x : LoadCh) : State := { s with load := x }
def State.setExt (s : State) (x : Ext) : State := { s with ext := x }
def State.setLink (s : State) (x : Link) : State := { s with link := x }
def State.setBudget (s : State) (x : Budget) : State := { s with budget := x }
def State.setStop (s : State) (x : StopFault) : State := { s with stop := x }
def State.setRecorder (s : State) (x : Recorder) : State := { s with recorder := x }
def State.setFree (s : State) (x : Nat) : State := { s with free := x }
def State.setPending (s : State) (x : List Instr) : State := { s with pending := x }

/-! ## Constants -/

/-- Bit times in a microsecond and in a millisecond (section 4.3 of the scope). -/
def bitsPerUs : Nat := 10
def bitsPerMs : Nat := 10000

/-- R174: 256 ms. -/
def startIntervalBits : Nat := 256 * bitsPerMs
/-- R95, R110: 2000 ms. -/
def armLimitBits : Nat := 2000 * bitsPerMs
/-- R96: 10 ms. -/
def identLimitBits : Nat := 10 * bitsPerMs
/-- R70, Table 4-1: 20 µs and 24 µs. -/
def acquireBits : Nat := 20 * bitsPerUs
def convertBits : Nat := 24 * bitsPerUs
/-- R31: where the period timer stops. -/
def periodStop : Nat := 65535
/-- R49: the largest demand the drive port represents, in µm/s. -/
def portLimit : Int := 20000
/-- R73: a reading at either end of the span is saturated. -/
def readingLimit : Int := 1100000
/-- R28: the last position of the valid travel. -/
def travelEnd : Nat := 2097151
/-- R123. -/
def noticeCapacity : Nat := 8
/-- R162. -/
def storeCapacity : Nat := 2048
/-- R164: samples in a full CURVE frame. -/
def curveSamples : Nat := 8
/-- R39, R103. -/
def windowLength : Nat := 8
/-- R7. -/
def gripsTicks : Nat := 16
/-- R82. -/
def tareSamples : Nat := 16
def tareAttempts : Nat := 4
/-- R99. -/
def settleReadings : Nat := 16
/-- R79. -/
def rangeDownCount : Nat := 32
/-- R80. -/
def rangeSettleSamples : Nat := 2
/-- R56, R61: the last age of a mirror that is not lost, and the last age usable for skew. -/
def mirrorFresh : Nat := 12
def mirrorSkew : Nat := 8
/-- R15, R63. -/
def partnerAllowance : Nat := 12
/-- R53. -/
def levelTicks : Nat := 4
/-- R67: 60 s in tenths of a millisecond. -/
def lossLimit : Nat := 600000
/-- R1: the hold timeout of an order that gives none, in seconds. -/
def defaultHoldTimeout : Nat := 10
/-- R21, R41: a position within 10 µm of the goal has reached it. -/
def reachBand : Int := 10

/-! ## Arithmetic -/

/-- Clamped to the signed 32-bit limits (R47, R48, R57, R73). -/
def clamp32 (x : Int) : Int := max (-2147483648) (min 2147483647 x)

/-- A magnitude clamped to `m`, the sign kept (R44). -/
def clampMag (m x : Int) : Int := max (-m) (min m x)

/-- One more, stopping at 255 (R56, R63, R116, R123, R152). -/
def succ255 (n : Nat) : Nat := min 255 (n + 1)

/-- A list as the newest `windowLength` entries after `x` joins at the newest end (R39, R103). -/
def pushWindow {α : Type} (w : List α) (x : α) : List α :=
  (if windowLength ≤ w.length then w.tail else w) ++ [x]

/-! ## Names and their classes -/

/-- R149, R153: the cell-stop causes of Table 8-1. -/
def FaultCause.isCellStop : FaultCause → Bool
  | .overload | .skewLimit | .driveFault | .travelUnmapped => true
  | _ => false

/-- The test states (section 1.3): ARMED through RETURNING. -/
def SeqState.isTest : SeqState → Bool
  | .armed | .taring | .attaching | .claiming | .running | .held | .ending | .returning => true
  | _ => false

/-- R10, R12, R17, R19, R21: the states in which the test sequencer acts on a sample. -/
def SeqState.actsOnSample : SeqState → Bool
  | .claiming | .running | .held | .ending | .returning => true
  | _ => false

/-- R68: the follow states a local fault leaves. -/
def SeqState.isFollowActive : SeqState → Bool
  | .followClaim | .following | .held => true
  | _ => false

/-- R64, R65: the lead states that let a follow claim. -/
def SeqState.claims : SeqState → Bool
  | .claiming | .running | .held | .returning => true
  | _ => false

/-- Table 1-3: the states of the test sequencer whose demand request is not zero. -/
def SeqState.requestsMovement : SeqState → Bool
  | .running | .returning => true
  | _ => false

/-- R92: the states in which the arm command is CLOSE. -/
def ExtState.closes : ExtState → Bool
  | .closing | .ident | .settling | .measuring => true
  | _ => false

/-- R71: the states that ask for a strain conversion. -/
def ExtState.asksStrain : ExtState → Bool
  | .settling | .measuring => true
  | _ => false

/-- R106: the causes for which a switchover queues EXT_EVENT, with the kind it carries. -/
def SwitchCause.event : SwitchCause → Option ExtEventKind
  | .removal => some .removal
  | .slip => some .slip
  | .travel => some .travel
  | .idFault => some .idFault
  | .testEnd | .stop | .abort => none

/-- Table 4-2: the full scale of a range in percent of the load cell capacity. -/
def LoadRange.percent : LoadRange → Int
  | .r1 => 100
  | .r2 => 40
  | .r3 => 10
  | .r4 => 4

/-- R77. -/
def LoadRange.wider : LoadRange → Option LoadRange
  | .r1 => none
  | .r2 => some .r1
  | .r3 => some .r2
  | .r4 => some .r3

/-- R79. -/
def LoadRange.narrower : LoadRange → Option LoadRange
  | .r1 => some .r2
  | .r2 => some .r3
  | .r3 => some .r4
  | .r4 => none

/-! ## What CONFIG gives, with the defaults of Table 10-2 before it -/

def State.configured (s : State) : Bool := s.start.config.isSome

/-- The sample period in tenths of a millisecond. -/
def State.period (s : State) : Nat :=
  match s.start.config with
  | none => 10
  | some c => c.period

def State.statusPeriod (s : State) : Nat :=
  match s.start.config with
  | none => 64
  | some c => c.statusPeriod

def State.gateLength (s : State) : Nat :=
  match s.start.config with
  | none => 8
  | some c => c.gateLength

/-- R133: 0 before CONFIG. -/
def State.capacity (s : State) : Nat :=
  match s.start.config with
  | none => 0
  | some c => c.capacity

/-- Not known before CONFIG (R73); 0 stands for it. -/
def State.loadCapacity (s : State) : Nat :=
  match s.start.config with
  | none => 0
  | some c => c.loadCapacity

/-- R34: before CONFIG no zone is valid. -/
def State.zones (s : State) : List Zone :=
  match s.start.config with
  | none => []
  | some c => c.zones

def State.trimLimit (s : State) : Nat :=
  match s.start.config with
  | none => 0
  | some c => c.trimLimit

def State.skewAlarm (s : State) : Nat :=
  match s.start.config with
  | none => 0
  | some c => c.skewAlarm

def State.skewLimit (s : State) : Nat :=
  match s.start.config with
  | none => 0
  | some c => c.skewLimit

/-- R129: 4 STATUS periods. -/
def State.presenceTimeout (s : State) : Nat := 4 * s.statusPeriod

/-- R30: the gate duration in microseconds. -/
def State.gateDurationUs (s : State) : Nat := s.gateLength * s.period * 100

/-! ## Roles and sequencers -/

def State.isFollow (s : State) : Bool := s.start.role == .follow

/-- A LEAD or FOLLOW station whose strap word was good: its pair unit works (R52, R53). -/
def State.paired (s : State) : Bool := !s.start.strapFault && s.start.role != .solo

/-- The state of the station's own sequencer (R5, R64). -/
def State.ownState (s : State) : SeqState := if s.isFollow then s.follow.state else s.seq.state

/-- R131: the current phase of a test sequencer; a follow station has none. -/
def State.ownPhase (s : State) : Nat := if s.isFollow then 0 else s.seq.phase

/-- Entry `n` of the phase table, numbered from 1. -/
def Order.phaseAt (o : Order) (n : Nat) : Option Phase := if n = 0 then none else o.phases[n - 1]?

/-- The current phase, `none` while the number is 0. -/
def State.curPhase (s : State) : Option Phase := s.seq.order.bind fun o => o.phaseAt s.seq.phase

/-- R6: 0 while the current phase is none. -/
def State.phaseShare (s : State) : Nat :=
  match s.curPhase with
  | none => 0
  | some p => p.share

/-- The share of phase `n` of the order held. -/
def State.shareOf (s : State) (n : Nat) : Nat :=
  match s.seq.order.bind fun o => o.phaseAt n with
  | none => 0
  | some p => p.share

/-- R136: the return share of the order held. -/
def State.returnShare (s : State) : Nat :=
  match s.seq.order.bind fun o => o.returnPlan with
  | none => 0
  | some p => p.share

/-- R1: the hold timeout in tenths of a millisecond. -/
def State.holdTimeout (s : State) : Nat :=
  match s.seq.order with
  | none => defaultHoldTimeout * 10000
  | some o => o.holdTimeout.getD defaultHoldTimeout * 10000

/-- R10: the time in the state, in tenths of a millisecond. -/
def State.elapsed (s : State) : Nat := s.seq.stateSamples * s.period

/-- Table 1-3 and R65. -/
def State.moveKind (s : State) : MoveKind :=
  if s.isFollow then
    if s.follow.state.isFollowActive then
      match s.pair.mirror with
      | none => .none
      | some m => m.kind
    else .none
  else
    match s.seq.state with
    | .claiming | .running | .held | .ending => .test
    | .returning => .ret
    | _ => .none

/-- Table 1-3 and R65. In CLAIMING the share is that of phase 1, in the other test movements that of the current
phase. -/
def State.moveShare (s : State) : Nat :=
  if s.isFollow then
    if s.follow.state.isFollowActive then s.follow.share else 0
  else
    match s.seq.state with
    | .claiming => s.shareOf 1
    | .running | .held | .ending => s.phaseShare
    | .returning => s.returnShare
    | _ => 0

/-! ## The budget table -/

/-- The entry of node `n` (R133). A partner number of 15, for which the table has no entry, reads 0 (assumption 47). -/
def Budget.entry (b : Budget) (n : Nat) : Nat := if h : n < 15 then b.table[n] else 0

/-- Entry 0 is always 0 (R133). -/
def Budget.setEntry (b : Budget) (n v : Nat) : Vector Nat 15 :=
  if h : 0 < n ∧ n < 15 then b.table.set n v h.2 else b.table

def tableSum (t : Vector Nat 15) : Nat := t.toList.sum

def State.ownEntry (s : State) : Nat := s.budget.entry s.start.number

/-- R69: the partner's entry in the station's own table. -/
def State.partnerEntry (s : State) : Nat := s.budget.entry s.start.partner

/-- R69: the own entry, and on a LEAD station the partner's too, is at least `share`. -/
def State.holdsShare (s : State) (share : Nat) : Bool :=
  share ≤ s.ownEntry && (s.start.role != .lead || share ≤ s.partnerEntry)

/-- The requested units fit the free units (R133): the sum of the entries with the own entry at `v` does not exceed
the capacity. -/
def State.fits (s : State) (v : Nat) : Bool := tableSum (s.budget.setEntry s.start.number v) ≤ s.capacity

/-! ## Samples, notices, the frame in flight -/

/-- R75, R152: the index of the latest completed sample, 0 before the first. -/
def State.lastIndex (s : State) : Word32 :=
  match s.load.last with
  | none => 0
  | some r => r.index

/-- R152: the position in the latest completed sample record, 0 before the first. -/
def State.lastPosition (s : State) : Int :=
  match s.load.last with
  | none => 0
  | some r => r.position

/-- R123: a notice joins the queue, or is dropped and counted. -/
def pushNotice (k : NoticeKind) (s : State) : State :=
  if s.link.notices.length < noticeCapacity then
    s.setLink { s.link with notices := s.link.notices ++ [{ kind := k, index := s.lastIndex }] }
  else
    s.setLink { s.link with lost := succ255 s.link.lost }

/-- The GRANT of the station's own that is in flight (R136). -/
def Link.grantInFlight (l : Link) : Option GrantFrame :=
  match l.inFlight with
  | some { frame := .grant g, .. } => some g
  | _ => none

/-- R120: the notice that the NOTICE slot holds. -/
def Link.noticeSlot (l : Link) : Option Notice :=
  match l.inFlight with
  | some { frame := .notice _, .. } => none
  | _ => l.notices.head?

/-- A CURVE frame of the station's own is in flight (R164). -/
def Link.curveInFlight (l : Link) : Bool :=
  match l.inFlight with
  | some { frame := .curve _, .. } => true
  | _ => false

/-- A RESULT frame of the station's own is in flight (R169). -/
def Link.resultInFlight (l : Link) : Bool :=
  match l.inFlight with
  | some { frame := .result _, .. } => true
  | _ => false

/-- R129: the members of the presence list, in rising order. -/
def Link.members (l : Link) : List Nat :=
  (List.range 15).filter fun n => if h : n < 15 then (l.presence[n]).isSome else false

/-- Takes one open choice (assumption 1): its value, and the state in which it is counted as taken. -/
def State.draw (s : State) : Bool × State := (Config.freeBit s.free, s.setFree (s.free + 1))

/-! ## The mirror -/

/-- R61: the mirror is empty or its age is 13 or more. -/
def Pair.lost (p : Pair) : Bool := p.mirror.isNone || mirrorFresh < p.age

end Sys2Proof.Machine
end

