-- ==== Sys2Proof/Machine/Operands.lean ====
section
/-! DEFINITION. The operand forms: the codes of Table 11-1, the byte layouts of the payloads a station reads (R180,
R181, R183) and writes (R179 to R182), the frame check (R179), the receive judgment (R115), and the strap and
identification words (R184). -/

namespace Sys2Proof.Machine

/-! ## Bytes -/

/-- R179's layout: the number whose most significant byte comes first. -/
def beNat (bs : List Byte) : Nat := bs.foldl (fun a b => a * 256 + b.toNat) 0

/-- A signed 32-bit field, two's complement. -/
def beInt (bs : List Byte) : Int := (BitVec.ofNat 32 (beNat bs)).toInt

/-- `n` bytes from byte `i` on. -/
def slice (bs : List Byte) (i n : Nat) : List Byte := (bs.drop i).take n

/-- A number as `n` bytes, the most significant first. -/
def natBytes : Nat → Nat → List Byte
  | 0, _ => []
  | n + 1, v => natBytes n (v / 256) ++ [BitVec.ofNat 8 v]

/-- A signed quantity as 4 bytes, two's complement. -/
def intBytes (v : Int) : List Byte := natBytes 4 (BitVec.ofInt 32 v).toNat

def wordBytes (w : Word32) : List Byte := natBytes 4 w.toNat

/-- A bit of a flag byte. -/
def flagBit (b : Bool) (n : Nat) : Nat := if b then 2 ^ n else 0

/-! ## Codes (Table 11-1, R182, R183) -/

def Role.code : Role → Nat
  | .solo => 1
  | .lead => 2
  | .follow => 3

/-- R184: the role field of the strap word; 0 is the invalid fourth code. -/
def Role.ofCode : Nat → Option Role
  | 1 => some .solo
  | 2 => some .lead
  | 3 => some .follow
  | _ => none

def SeqState.code : SeqState → Nat
  | .unconfigured => 0
  | .idle => 1
  | .armed => 2
  | .taring => 3
  | .attaching => 4
  | .claiming => 5
  | .running => 6
  | .held => 7
  | .ending => 8
  | .returning => 9
  | .done => 10
  | .stopped => 11
  | .faulted => 12
  | .followClaim => 13
  | .following => 14

def SeqState.ofCode : Nat → Option SeqState
  | 0 => some .unconfigured
  | 1 => some .idle
  | 2 => some .armed
  | 3 => some .taring
  | 4 => some .attaching
  | 5 => some .claiming
  | 6 => some .running
  | 7 => some .held
  | 8 => some .ending
  | 9 => some .returning
  | 10 => some .done
  | 11 => some .stopped
  | 12 => some .faulted
  | 13 => some .followClaim
  | 14 => some .following
  | _ => none

def MoveKind.code : MoveKind → Nat
  | .none => 0
  | .test => 1
  | .ret => 2

def MoveKind.ofCode : Nat → Option MoveKind
  | 0 => some .none
  | 1 => some .test
  | 2 => some .ret
  | _ => Option.none

def ExtState.code : ExtState → Nat
  | .absent => 0
  | .parked => 1
  | .closing => 2
  | .ident => 3
  | .settling => 4
  | .measuring => 5
  | .opening => 6
  | .jammed => 7

def GrantReason.code : GrantReason → Nat
  | .phase => 1
  | .ret => 2
  | .follow => 3
  | .release => 4

def FaultCause.code : FaultCause → Nat
  | .overload => 1
  | .skewLimit => 2
  | .driveFault => 3
  | .travelUnmapped => 4
  | .zoneForbidden => 16
  | .budgetTimeout => 17
  | .budgetRevoked => 18
  | .holdTimeout => 19
  | .partnerFault => 20
  | .partnerRestarted => 21
  | .extCloseTimeout => 22
  | .extOpenTimeout => 23
  | .extIdFault => 24
  | .extGaugeMismatch => 25
  | .tareUnstable => 26
  | .duplicateNumber => 27
  | .configMismatch => 28

def TestOutcome.code : TestOutcome → Nat
  | .ended => 1
  | .broken => 2
  | .aborted => 3
  | .stopped => 4
  | .faulted => 5

def SwitchCause.code : SwitchCause → Nat
  | .removal => 1
  | .slip => 2
  | .travel => 3
  | .idFault => 4
  | .testEnd => 5
  | .stop => 6
  | .abort => 7

def ExtEventKind.code : ExtEventKind → Nat
  | .closeTimeout => 1
  | .idFault => 2
  | .gaugeMismatch => 3
  | .removal => 4
  | .slip => 5
  | .travel => 6

def LoadRange.code : LoadRange → Nat
  | .r1 => 1
  | .r2 => 2
  | .r3 => 3
  | .r4 => 4

def OrderRefusal.code : OrderRefusal → Nat
  | .busy => 1
  | .badOrder => 2
  | .notLead => 3

/-- R183: the range mode of the order header. -/
def RangeMode.ofCode : Nat → Option RangeMode
  | 0 => some .auto
  | 1 => some (.fixed .r1)
  | 2 => some (.fixed .r2)
  | 3 => some (.fixed .r3)
  | 4 => some (.fixed .r4)
  | _ => none

def PhaseMode.ofCode : Nat → Option PhaseMode
  | 1 => some .xhRate
  | 2 => some .loadRate
  | 3 => some .strainRate
  | 4 => some .hold
  | _ => none

def SourceDemand.ofCode : Nat → Option SourceDemand
  | 1 => some .extRequired
  | 2 => some .extPreferred
  | 3 => some .xh
  | _ => none

def EndKind.ofCode : Nat → Option EndKind
  | 1 => some .strainAt
  | 2 => some .loadAt
  | 3 => some .positionAt
  | 4 => some .timeAt
  | 5 => some .yieldFound
  | 6 => some .brk
  | _ => none

def RemovalKind.ofCode : Nat → Option RemovalKind
  | 1 => some .atStrain
  | 2 => some .atPeakDrop
  | 3 => some .atPhaseEnd
  | _ => none

/-- A byte that holds no or yes. -/
def flagOfCode : Nat → Option Bool
  | 0 => some false
  | 1 => some true
  | _ => none

/-! ## The frame check and the receive judgment -/

/-- R179: the two sums over the header and payload. -/
def checkSums (bs : List Byte) : Nat × Nat :=
  bs.foldl (fun p b => ((p.1 + b.toNat) % 255, (p.2 + (p.1 + b.toNat) % 255) % 255)) (0, 0)

/-- The two check bytes of a frame. -/
def checkBytes (bs : List Byte) : List Byte :=
  [BitVec.ofNat 8 (checkSums bs).1, BitVec.ofNat 8 (checkSums bs).2]

/-- The results of R115. -/
inductive Judgment | short | length | check | good
  deriving DecidableEq, Repr

/-- R115: the first check that applies. -/
def judgeTaken (t : Taken) : Judgment :=
  if t.bytes.length < 6 then .short
  else if 160 < beNat (slice t.bytes 4 2) || t.partialByte
      || t.bytes.length != 6 + beNat (slice t.bytes 4 2) + 2 then .length
  else if t.bytes.drop (t.bytes.length - 2) != checkBytes (t.bytes.take (t.bytes.length - 2)) then .check
  else .good

/-! ## The ORDER payload (R183) -/

/-- A phase entry of 14 bytes; a code outside its list is a field out of range. -/
def parsePhase (e : List Byte) : Option Phase := do
  let b0 := beNat (slice e 0 1)
  let mode ← PhaseMode.ofCode (b0 / 16)
  let source ← SourceDemand.ofCode (b0 % 16)
  let endKind ← EndKind.ofCode (beNat (slice e 8 1))
  return { mode, target := beInt (slice e 1 4), step := beNat (slice e 5 1), rateLimit := beNat (slice e 6 2),
           source, endKind, endValue := beInt (slice e 9 4), share := beNat (slice e 13 1) }

/-- Exactly `n` phase entries and nothing after them. -/
def parsePhases : Nat → List Byte → Option (List Phase)
  | 0, [] => some []
  | 0, _ :: _ => none
  | n + 1, bs =>
    if bs.length < 14 then none
    else
      match parsePhase (bs.take 14), parsePhases n (bs.drop 14) with
      | some p, some ps => some (p :: ps)
      | _, _ => none

/-- An optional part that opens with `tag` and has `n` bytes after it: the bytes of the part and those behind it. A
part that is not there leaves the bytes as they are; a part cut short is no order. -/
def optionalPart (tag n : Nat) (bs : List Byte) : Option (Option (List Byte) × List Byte) :=
  match bs with
  | [] => some (none, [])
  | t :: rest =>
    if t.toNat = tag then
      if rest.length < n then none else some (some (rest.take n), rest.drop n)
    else some (none, bs)

def parsePlan (p : List Byte) : Option ExtPlan := do
  let removal ← RemovalKind.ofCode (beNat (slice p 0 1))
  let fallback ← flagOfCode (beNat (slice p 5 1))
  return { removal, value := beNat (slice p 1 4), fallback, slipTolerance := beNat (slice p 6 2),
           gauge := beNat (slice p 8 1) }

/-- The order that a payload carries: `none` for a length mismatch or a code outside its list (R3, R183). The tags
rise strictly, since each part is looked for once and in the order of its tag. -/
def parseOrder (bs : List Byte) : Option Order := do
  if bs.length < 15 then none
  else
    let rangeMode ← RangeMode.ofCode (beNat (slice bs 9 1))
    let (yieldBytes, bs3) ← optionalPart 3 6 (bs.drop 15)
    let (planBytes, bs4) ← optionalPart 4 9 bs3
    let (returnBytes, bs5) ← optionalPart 5 7 bs4
    let plan ← match planBytes with
      | none => some none
      | some p => (parsePlan p).map some
    let phases ← match bs5 with
      | tag :: count :: entries => if tag.toNat = 6 then parsePhases count.toNat entries else none
      | _ => none
    return { testId := BitVec.ofNat 32 (beNat (slice bs 0 4)), parallelLength := beNat (slice bs 4 4),
             holdTimeout := if beNat (slice bs 8 1) = 0 then none else some (beNat (slice bs 8 1)),
             rangeMode, decimation := beNat (slice bs 10 1), armFraction := beNat (slice bs 11 2),
             dropFraction := beNat (slice bs 13 2),
             yieldPlan := yieldBytes.map fun y => { drop := beNat (slice y 0 2), strainLimit := beNat (slice y 2 4) },
             plan,
             returnPlan := returnBytes.map fun r =>
               { rate := beNat (slice r 0 2), position := beNat (slice r 2 4), share := beNat (slice r 6 1) },
             phases }

/-- `lo` to `hi`, both included. -/
def within (lo hi n : Nat) : Bool := lo ≤ n && n ≤ hi

/-- R3, Table 1-2, with the fields that the mode makes ignored left out (R183). -/
def Phase.inRange (p : Phase) : Bool :=
  within 1 20000 p.rateLimit && within 0 255 p.share
    && match p.mode with
       | .loadRate | .strainRate => within 1 255 p.step
       | .xhRate | .hold => true

/-- Table 1-1. -/
def ExtPlan.inRange (p : ExtPlan) (phases : Nat) : Bool :=
  (match p.removal with
   | .atStrain => within 1 1000000 p.value
   | .atPeakDrop => within 5 900 p.value
   | .atPhaseEnd => within 1 phases p.value)
    && within 10 1000 p.slipTolerance && within 1 5 p.gauge

/-- R3: every field lies in the range of Table 1-1 or Table 1-2, and the phase count is 1 to 8. -/
def Order.inRange (o : Order) : Bool :=
  within 1 8 o.phases.length && within 1000 1000000 o.parallelLength
    && (match o.holdTimeout with | none => true | some t => within 1 60 t)
    && [1, 2, 4, 8].contains o.decimation
    && within 5 200 o.armFraction && within 200 900 o.dropFraction
    && (match o.yieldPlan with | none => true | some y => within 5 50 y.drop && within 1 1000000 y.strainLimit)
    && (match o.plan with | none => true | some p => p.inRange o.phases.length)
    && (match o.returnPlan with
        | none => true
        | some r => within 1 20000 r.rate && within 0 travelEnd r.position && within 0 255 r.share)
    && o.phases.all Phase.inRange

/-- R3: the parts that the order's own contents require are there. -/
def Order.partsPresent (o : Order) : Bool :=
  o.phases.all fun p =>
    (p.source != .extRequired || o.plan.isSome) && (p.endKind != .yieldFound || o.yieldPlan.isSome)

/-- R3: no share exceeds the configured capacity. -/
def Order.sharesFit (o : Order) (capacity : Nat) : Bool :=
  (o.phases.all fun p => p.share ≤ capacity)
    && (match o.returnPlan with | none => true | some r => r.share ≤ capacity)

/-- R3 whole: the order of a payload that passes every content check of a station with these settings. -/
def acceptableOrder (c : Settings) (payload : List Byte) : Option Order :=
  (parseOrder payload).filter fun o =>
    o.inRange && o.partsPresent && (o.plan.isNone || c.extFitted) && o.sharesFit c.capacity

/-! ## The CONFIG payload (R176, R183) -/

def parseZone (z : List Byte) : Zone :=
  { valid := (beNat (slice z 0 1)).testBit 0, permitsTest := (beNat (slice z 0 1)).testBit 1,
    permitsReturn := (beNat (slice z 0 1)).testBit 2, k := beNat (slice z 1 1), base := beNat (slice z 2 4),
    speedCap := beNat (slice z 6 2) }

/-- R176: the zone conditions of Table 10-3; a zone marked not valid is not checked further. -/
def Zone.acceptable (z : Zone) : Bool :=
  !z.valid ||
    (within 10 21 z.k && z.base % 2 ^ z.k == 0 && z.base + 2 ^ z.k ≤ 2097152 && within 1 20000 z.speedCap)

def parseSettings (bs : List Byte) : Settings :=
  { period := beNat (slice bs 0 1), statusPeriod := beNat (slice bs 1 1), gateLength := beNat (slice bs 2 1),
    capacity := beNat (slice bs 3 1), loadCapacity := beNat (slice bs 4 4),
    extFitted := beNat (slice bs 8 1) == 1, startPosition := beNat (slice bs 9 4),
    trimLimit := beNat (slice bs 13 2), skewAlarm := beNat (slice bs 15 2), skewLimit := beNat (slice bs 17 2),
    zones := (List.range 6).map fun i => parseZone (slice bs (19 + 8 * i) 8) }

/-- R176, R183: for each field in table order its number and whether it fails. -/
def configChecks (bs : List Byte) : List (Nat × Bool) :=
  let c := parseSettings bs
  [(1, !([5, 10, 20].contains c.period)), (2, !([32, 64, 128].contains c.statusPeriod)),
   (3, !([1, 2, 4, 8].contains c.gateLength)), (4, !within 1 255 c.capacity),
   (5, !within 1000 10000000 c.loadCapacity), (6, 1 < beNat (slice bs 8 1)),
   (7, !within 0 travelEnd c.startPosition), (8, !within 0 500 c.trimLimit),
   (9, !within 10 5000 c.skewAlarm || c.skewLimit ≤ c.skewAlarm), (10, !within 20 10000 c.skewLimit)]
  ++ (List.range 6).map fun i => (11 + i, !(parseZone (slice bs (19 + 8 * i) 8)).acceptable)

/-- R176: the settings of a payload that passes, or the number of the first field that fails; a length mismatch is
examined first and is named 17 (R183). -/
def parseConfig (bs : List Byte) : Except Nat Settings :=
  if bs.length != 67 then .error 17
  else
    match (configChecks bs).find? (·.2) with
    | some f => .error f.1
    | none => .ok (parseSettings bs)

/-! ## The payloads between stations (R180, R181) -/

/-- R180: the content of a LEVEL frame that may be taken into the mirror. -/
def parseLevel (bs : List Byte) : Option Level :=
  match Role.ofCode (beNat (slice bs 0 1)) with
  | some .lead =>
    if bs.length = 17 then
      match SeqState.ofCode (beNat (slice bs 9 1)), MoveKind.ofCode (beNat (slice bs 11 1)) with
      | some st, some kind =>
        some { role := .lead, position := beInt (slice bs 1 4), demand := beInt (slice bs 5 4), state := st,
               phase := beNat (slice bs 10 1), kind, share := beNat (slice bs 12 1),
               index := BitVec.ofNat 32 (beNat (slice bs 13 4)) }
      | _, _ => none
    else none
  | some .follow =>
    if bs.length = 6 then
      match SeqState.ofCode (beNat (slice bs 5 1)) with
      | some st =>
        some { role := .follow, position := beInt (slice bs 1 4), demand := 0, state := st, phase := 0,
               kind := .none, share := 0, index := 0 }
      | none => none
    else none
  | _ => none

/-- What a receiver uses of a STATUS payload (R143, R144, R181): the capacity, the epoch, and the 15 entries of an
in-step sender. -/
structure StatusView where
  capacity : Nat
  epoch : Byte
  entries : Option (List Nat)
  deriving DecidableEq, Repr

/-- R181: the content is used when the length and bit 3 of byte 3 agree. -/
def parseStatus (bs : List Byte) : Option StatusView :=
  let inStep := (beNat (slice bs 3 1)).testBit 3
  let capacity := beNat (slice bs 7 1)
  let epoch := BitVec.ofNat 8 (beNat (slice bs 6 1))
  if bs.length = 55 && inStep then
    some { capacity, epoch, entries := some ((bs.drop 40).map (·.toNat)) }
  else if bs.length = 40 && !inStep then some { capacity, epoch, entries := none }
  else none

/-! ## The payloads a station writes (R180 to R182) -/

def causeCode : Option FaultCause → Nat
  | none => 0
  | some c => c.code

def Level.payload (l : Level) : List Byte :=
  match l.role with
  | .follow => natBytes 1 l.role.code ++ intBytes l.position ++ natBytes 1 l.state.code
  | _ =>
    natBytes 1 l.role.code ++ intBytes l.position ++ intBytes l.demand ++ natBytes 1 l.state.code
      ++ natBytes 1 l.phase ++ natBytes 1 l.kind.code ++ natBytes 1 l.share ++ wordBytes l.index

def Status.payload (st : Status) : List Byte :=
  natBytes 1 st.role.code ++ natBytes 1 st.state.code ++ natBytes 1 st.phase
    ++ natBytes 1 (flagBit st.latch 7 + flagBit st.driving 6 + flagBit st.lineLow 5
        + flagBit st.lockedCause.isSome 4 + flagBit st.inStep 3 + flagBit st.standstill 2
        + flagBit (st.extState == .measuring) 1 + flagBit st.gauge.isSome 0)
    ++ natBytes 1 (causeCode st.lockedCause) ++ natBytes 1 st.further ++ [st.epoch] ++ natBytes 1 st.capacity
    ++ wordBytes st.index ++ intBytes st.position ++ intBytes st.velocity ++ intBytes st.load
    ++ natBytes 1 st.range.code ++ natBytes 1 st.extState.code
    ++ natBytes 1 (match st.gauge with | none => 0 | some g => g.1)
    ++ natBytes 2 (match st.gauge with | none => 0 | some g => g.2)
    ++ wordBytes st.leadIndex ++ natBytes 1 st.mirrorAge
    ++ natBytes 1 st.errCheck ++ natBytes 1 st.errLength ++ natBytes 1 st.errShort ++ natBytes 1 st.lost
    ++ natBytes 2 ((st.presence.map fun n => 2 ^ n).sum)
    ++ (match st.entries with | none => [] | some es => es.flatMap fun e => natBytes 1 e)

def NoticeKind.code : NoticeKind → Nat
  | .orderAccepted _ => 1
  | .orderRefused _ => 2
  | .phaseBegun _ => 3
  | .holdBegun _ => 4
  | .holdEnded => 5
  | .extEvent _ _ => 6
  | .yieldFound => 7
  | .breakFound => 8
  | .testEnded _ => 9
  | .fault _ _ => 10
  | .configAccepted => 11
  | .configRefused _ => 12
  | .clearRefused => 13
  | .skewAlarm _ => 14
  | .noticesLost _ => 15

def HoldCauses.bits (h : HoldCauses) : Nat :=
  flagBit h.budget 0 + flagBit h.partner 1 + flagBit h.extNotReady 2

/-- R182: the fields after byte 4. -/
def NoticeKind.fields : NoticeKind → List Byte
  | .orderAccepted id => wordBytes id
  | .orderRefused r => natBytes 1 r.code
  | .phaseBegun k => natBytes 1 k
  | .holdBegun h => natBytes 1 h.bits
  | .holdEnded => []
  | .extEvent k code => natBytes 1 k.code ++ natBytes 1 code
  | .yieldFound => []
  | .breakFound => []
  | .testEnded o => natBytes 1 o.code
  | .fault c none => natBytes 1 c.code ++ natBytes 1 0
  | .fault c (some r) =>
    natBytes 1 c.code ++ natBytes 1 1 ++ natBytes 1 r.state.code ++ natBytes 1 r.phase ++ intBytes r.position
      ++ intBytes r.load
  | .configAccepted => []
  | .configRefused (.badConfig f) => natBytes 1 1 ++ natBytes 1 f
  | .configRefused .alreadyConfigured => natBytes 1 2 ++ natBytes 1 0
  | .clearRefused => natBytes 1 1
  | .skewAlarm v => intBytes v
  | .noticesLost n => natBytes 1 n

def Notice.payload (n : Notice) : List Byte := natBytes 1 n.kind.code ++ wordBytes n.index ++ n.kind.fields

def SampleRec.flags (r : SampleRec) : Nat :=
  flagBit r.ext 0 + flagBit r.held 1 + flagBit r.hold 2 + flagBit r.yieldFlag 3 + flagBit r.brk 4

def SampleRec.curveBytes (r : SampleRec) : List Byte :=
  wordBytes r.index ++ intBytes r.load ++ intBytes r.position ++ intBytes r.strain ++ natBytes 1 r.phase
    ++ natBytes 1 r.flags

def Curve.payload (c : Curve) : List Byte :=
  wordBytes c.testId ++ natBytes 1 c.samples.length ++ c.samples.flatMap SampleRec.curveBytes

def outcomeCode : Option TestOutcome → Nat
  | none => 0
  | some o => o.code

def TestRecord.payload (t : TestRecord) : List Byte :=
  wordBytes t.testId ++ natBytes 1 (outcomeCode t.outcome) ++ natBytes 1 t.endPhase
    ++ natBytes 1 (flagBit t.yieldPart.isSome 0 + flagBit t.switchPart.isSome 1 + flagBit t.breakPart.isSome 2
        + flagBit t.faultCause.isSome 3 + flagBit t.extOnAtBreak 4)
    ++ intBytes t.maxLoad ++ intBytes t.posAtMax ++ intBytes t.strainAtMax ++ natBytes 4 t.holdCount
    ++ natBytes 4 t.offered ++ natBytes 4 t.stored ++ natBytes 4 t.lost
    ++ (match t.yieldPart with | none => [] | some y => intBytes y.1 ++ intBytes y.2)
    ++ (match t.switchPart with
        | none => []
        | some w => natBytes 1 w.1.code ++ intBytes w.2.1 ++ intBytes w.2.2)
    ++ (match t.breakPart with | none => [] | some b => intBytes b.1 ++ intBytes b.2)
    ++ (match t.faultCause with | none => [] | some c => natBytes 1 c.code)

/-- R179: the class codes of the station's own frames. -/
def OutFrame.classCode : OutFrame → Nat
  | .grant _ => 1
  | .level _ => 2
  | .stop _ => 3
  | .status _ => 4
  | .notice _ => 5
  | .result _ => 6
  | .curve _ => 7

/-- R126: STOP, GRANT, LEVEL and STATUS go to all, the others to the cell computer. -/
def OutFrame.dest : OutFrame → Nat
  | .stop _ | .grant _ | .level _ | .status _ => 15
  | .notice _ | .result _ | .curve _ => 0

def OutFrame.payload : OutFrame → List Byte
  | .stop c => natBytes 1 c.code
  | .grant g => natBytes 1 g.units ++ natBytes 1 g.reason.code
  | .level l => l.payload
  | .notice n => n.payload
  | .status st => st.payload
  | .result r => r.payload
  | .curve c => c.payload

/-- R179: the bytes of a frame that station `number` sends with this epoch and in-step bit in its header. -/
def wireBytes (number : Nat) (i : InFlight) : List Byte :=
  let body := natBytes 1 i.frame.classCode ++ natBytes 1 (number * 16 + i.frame.dest) ++ [i.epoch]
    ++ natBytes 1 (flagBit i.inStep 7) ++ natBytes 2 i.frame.payload.length ++ i.frame.payload
  body ++ checkBytes body

/-! ## The strap and identification words (R184) -/

/-- R172: the examination of the strap word. The number, role and partner are fixed, and the start interval begins,
only when it is good. -/
def examineStrap (w : BitVec 16) : StartUp :=
  let n := w.toNat
  let faulty : StartUp :=
    { strapWord := w, strapFault := true, number := 0, role := .solo, partner := 0, intervalTimer := none,
      intervalEnded := false, config := none }
  if n % 64 != (n / 2048 + n / 64 % 32) % 64 then faulty
  else if n / 4096 = 0 ∨ n / 4096 = 15 then faulty
  else
    match Role.ofCode (n / 1024 % 4) with
    | none => faulty
    | some role =>
      { faulty with strapFault := false, number := n / 4096, role, partner := n / 64 % 16, intervalTimer := some 0 }

/-- The fields of an identification word (R184). -/
def identFields (w : BitVec 32) : IdRec :=
  { code := w.toNat / 2 ^ 29, travel := w.toNat / 2 ^ 24 % 32, serial := w.toNat / 2 ^ 8 % 65536 }

/-- R97: the check of an identification word is good. -/
def identCheckGood (w : BitVec 32) : Bool :=
  w.toNat % 256 == ((identFields w).code * 32 + (identFields w).travel + (identFields w).serial / 256
    + (identFields w).serial % 256) % 256

/-- Table 5-2: the gauge length in mm. -/
def gaugeLength : Nat → Int
  | 1 => 25
  | 2 => 50
  | 3 => 80
  | 4 => 100
  | 5 => 200
  | _ => 0

end Sys2Proof.Machine
end

