-- ==== Sys2Proof/Machine/Flags.lean ====
section
/-! DEFINITION. The conditions the rules test: forced zero, the zone in force, loads and strains as the rules compute
them, range and overload thresholds, hold causes, end conditions, the slots the arbiter may start, and the STATUS a
station builds from its state. -/

namespace Sys2Proof.Machine

/-! ## Stop, fault and forced zero -/

/-- The fault record is LOCKED (R152). -/
def StopFault.locked (f : StopFault) : Bool := f.record.isSome

/-- R118, R132: the fault record is locked with cause DUPLICATE_NUMBER. -/
def StopFault.heldToStatus (f : StopFault) : Bool :=
  match f.record with
  | some r => r.cause == .duplicateNumber
  | none => false

/-- R45: one of the conditions under which a non-zero demand may be applied fails. -/
def forced (s : State) : Bool :=
  s.stop.latch || s.stop.locked || s.ownEntry < s.moveShare || (s.isFollow && s.pair.lost) || s.travel.tripped

/-! ## The travel map (R34) -/

/-- A valid zone covers the positions from its base to its base plus 2^k minus 1. -/
def Zone.covers (z : Zone) (pos : Int) : Bool :=
  z.valid && decide ((z.base : Int) ≤ pos) && decide (pos < (z.base : Int) + (2 ^ z.k : Nat))

/-- The first valid zone, in index order, that covers the position. -/
def zoneInForce (zs : List Zone) (pos : Int) : Option Zone := zs.find? fun z => z.covers pos

/-- R35. -/
def Zone.permits (z : Zone) : MoveKind → Bool
  | .none => true
  | .test => z.permitsTest
  | .ret => z.permitsReturn

/-! ## Strain -/

/-- R47: the crosshead raw strain of a position, 0 while no order is held (R48). -/
def State.rawStrain (s : State) (pos : Int) : Int :=
  match s.seq.order with
  | none => 0
  | some o => clamp32 (((pos - s.seq.testZero) * 1000000).tdiv o.parallelLength)

/-- R48: the crosshead strain of a position. -/
def State.crossheadStrain (s : State) (pos : Int) : Int :=
  match s.seq.order with
  | none => 0
  | some _ => clamp32 (s.rawStrain pos + s.ext.offset)

/-- A reading less the zero reading (R100, R102). -/
def Ext.fromZero (e : Ext) (reading : Int) : Int := reading - e.zero.getD 0

/-- R100: the extensometer strain of a reading. -/
def Ext.strainOf (e : Ext) (reading : Int) : Int :=
  match e.idRec with
  | none => 0
  | some i => (e.fromZero reading * i.travel).tdiv (gaugeLength i.code)

/-! ## Load -/

/-- R73: a reading as the converter gives it, at most the ends of its span. -/
def clampReading (r : Int) : Int := clampMag readingLimit r

/-- R73. -/
def saturated (r : Int) : Bool := r.natAbs == readingLimit.natAbs

/-- R73: the gross load of a reading on a range of a cell of this capacity. -/
def grossLoad (capacity : Nat) (range : LoadRange) (reading : Int) : Int :=
  (reading * (capacity * range.percent)).tdiv 100000000

/-- R77: above 95 % of the full scale of the range in force. -/
def aboveRangeUp (capacity : Nat) (range : LoadRange) (gross : Int) : Bool :=
  95 * (capacity * range.percent) < 10000 * (gross.natAbs : Int)

/-- R79: below 35 % of the full scale of the next narrower range. -/
def belowRangeDown (capacity : Nat) (narrower : LoadRange) (gross : Int) : Bool :=
  10000 * (gross.natAbs : Int) < 35 * (capacity * narrower.percent)

/-- R85: a conversion in overload. Before CONFIG only the second criterion applies. -/
def inOverload (s : State) (gross reading : Int) : Bool :=
  (s.configured && 105 * s.loadCapacity < 100 * gross.natAbs) || (s.load.range == .r1 && saturated reading)

/-- R89, R90, R104: a drop level below the peak, for a fraction in tenths of a percent. -/
def dropLevel (peak : Int) (drop : Nat) : Int := (peak * (1000 - drop)).tdiv 1000

/-- R88: the load is greater than the arm level. -/
def aboveArm (capacity fraction : Nat) (load : Int) : Bool := (capacity * fraction : Int) < load * 1000

/-! ## The sequencer -/

/-- R15: the hold causes present; the second limb of PARTNER applies only to a RUNNING lead. A report taken within the
allowance that is still the latest one raises the cause once the allowance has run out (assumption 54). -/
def holdCauses (s : State) : HoldCauses :=
  { budget := !s.holdsShare s.moveShare
    partner := s.start.role == .lead &&
      (s.pair.lost ||
        (s.seq.state == .running && decide (partnerAllowance < s.seq.runSamples) &&
          match s.pair.mirror with
          | none => false
          | some m => m.state == .held || m.state == .followClaim))
    extNotReady :=
      (match s.curPhase with | none => false | some p => p.source == .extRequired) &&
        s.ext.state != .measuring &&
        !(match s.seq.order.bind fun o => o.plan with | none => false | some p => p.fallback) }

def HoldCauses.any (h : HoldCauses) : Bool := h.budget || h.partner || h.extNotReady

/-- R13: a measured quantity equals the end value or lies on the far side of it from the reference value. -/
def reaches (ref goal q : Int) : Bool :=
  q == goal || ref == goal || (decide (ref < goal) && decide (goal < q)) || (decide (goal < ref) && decide (q < goal))

/-- R11: the quantity that the end kind names, read from a sample. -/
def endQuantity (s : State) (k : EndKind) (r : SampleRec) : Int :=
  match k with
  | .strainAt => r.strain
  | .loadAt => r.load
  | .positionAt => r.position - s.seq.testZero
  | .timeAt | .yieldFound | .brk => 0

/-- R13: the end condition of the current phase is met on this sample. `searchEnded` is the load channel's report that
the yield search ended without a yield on it. -/
def endMet (s : State) (p : Phase) (r : SampleRec) (searchEnded : Bool) : Bool :=
  match p.endKind with
  | .strainAt | .positionAt => reaches s.seq.refValue p.endValue (endQuantity s p.endKind r)
  | .loadAt => !r.held && reaches s.seq.refValue p.endValue r.load
  | .timeAt => decide (p.endValue * 10 ≤ (s.seq.phaseTime : Int))
  | .yieldFound => r.yieldFlag || searchEnded
  | .brk => false

/-- R21: within 10 µm. -/
def nearGoal (goal pos : Int) : Bool := (goal - pos).natAbs ≤ reachBand.natAbs

/-! ## The pair -/

/-- R57: the conditions under which the skew is computed, with the mirror it is computed from. -/
def skewSource (s : State) : Option Level :=
  match s.pair.mirror with
  | none => none
  | some m =>
    if s.pair.age ≤ mirrorSkew ∧ s.ownState ≠ .unconfigured ∧ m.state ≠ .unconfigured then some m else none

/-- R62: the partner shows STOPPED or FAULTED to a lead in a test state. -/
def partnerFaulted (s : State) : Bool :=
  s.start.role == .lead && s.seq.state.isTest && !s.pair.lost &&
    match s.pair.mirror with
    | none => false
    | some m => m.state == .stopped || m.state == .faulted

/-- R63: the partner of a RUNNING or HELD lead shows IDLE or UNCONFIGURED after it has joined or has had time to. -/
def partnerRestarted (s : State) : Bool :=
  s.start.role == .lead && (s.seq.state == .running || s.seq.state == .held) && !s.pair.lost &&
    (s.pair.joined || decide (partnerAllowance < s.pair.runCount)) &&
    match s.pair.mirror with
    | none => false
    | some m => m.state == .idle || m.state == .unconfigured

/-! ## The arbiter (R117, R118, R120) -/

/-- R117: the defer window of a level. -/
def deferWindow (s : State) (level : Nat) : Nat := 8 + 16 * level + s.start.number

/-- R118: which slots, by level, may start a frame. -/
def eligible (s : State) (level : Nat) : Bool :=
  !s.start.strapFault && ((s.start.intervalEnded && !s.stop.heldToStatus) || level == 4)

/-- The pending frame of the slot of a level (Table 6-1). -/
def pendingFrame (s : State) (level : Nat) : Option OutFrame :=
  match level with
  | 0 => s.link.stop.map .stop
  | 1 => s.link.grant.map .grant
  | 2 => s.link.level.map .level
  | 3 => s.link.noticeSlot.map .notice
  | 4 => s.link.status.map .status
  | 5 => s.link.result.map .result
  | 6 => s.link.curve.map .curve
  | _ => none

/-- The frame of the lowest level among the eligible slots, with its level (R118). -/
def arbiterChoice (s : State) : Option (Nat × OutFrame) :=
  (List.range 7).findSome? fun l => if eligible s l then (pendingFrame s l).map fun f => (l, f) else none

/-! ## The frames built from the state -/

/-- R54: the content of the station's LEVEL frame. On a tick whose pair a RESTART has discarded the index and the
position are those of the last completed sample (assumption 44). -/
def buildLevel (s : State) : Level :=
  if s.isFollow then
    { role := .follow, position := s.travel.latched, demand := 0, state := s.follow.state, phase := 0, kind := .none,
      share := 0, index := 0 }
  else
    { role := .lead, position := s.travel.latched
      demand := if s.seq.state.requestsMovement then s.travel.applied else 0, state := s.seq.state
      phase := s.seq.phase, kind := s.moveKind, share := s.moveShare, index := s.lastIndex }

/-- R131: the content of the station's STATUS frame. The sample index and the position are those of the latest
completed sample (R130, R133), in the first STATUS too, which is placed on no tick (assumption 40). A FOLLOW station
with an empty mirror sends lead sample index 0 (assumption 45). -/
def buildStatus (s : State) : Status :=
  { role := s.start.role, state := s.ownState, phase := s.ownPhase, latch := s.stop.latch,
    driving := s.stop.driving, lineLow := s.lines.stopLow, lockedCause := s.stop.record.map (·.cause),
    further := s.stop.further, inStep := s.budget.inStep, standstill := s.travel.standstill,
    epoch := s.budget.epoch, capacity := s.capacity, index := s.lastIndex, position := s.lastPosition,
    velocity := s.travel.velocity, load := s.load.statusLoad, range := s.load.range, extState := s.ext.state,
    gauge := s.ext.idRec.map fun i => (i.code, i.serial),
    leadIndex := if s.isFollow then (match s.pair.mirror with | none => 0 | some m => m.index) else 0,
    mirrorAge := if s.isFollow then s.pair.age else 0,
    errCheck := s.link.errCheck, errLength := s.link.errLength, errShort := s.link.errShort, lost := s.link.lost,
    presence := s.link.members,
    entries := if s.budget.inStep then some s.budget.table.toList else none }

/-! ## The end of every step -/

/-- R45, R49: the drive port goes to zero at the instant a forcing condition comes into force. -/
def forceZero (s : State) : State :=
  if forced s then s.setTravel { s.travel with applied := 0 } else s

/-- R133: the table, the epoch or the in-step state has changed from the command's beginning to its end. -/
def budgetChanged (old s : State) : Bool :=
  s.budget.table != old.budget.table || s.budget.epoch != old.budget.epoch || s.budget.inStep != old.budget.inStep

/-- R133: a pending STATUS is replaced by one built from this state. -/
def refreshStatus (s : State) : State :=
  if s.link.status.isSome then s.setLink { s.link with status := some (buildStatus s) } else s

/-- R133: a changed budget replaces the pending STATUS. -/
def rebuildStatus (old s : State) : State := if budgetChanged old s then refreshStatus s else s

/-- What every command ends with: the pending STATUS follows the budget, and the port obeys the forcing conditions. One
STATUS is built for all the budget changes of a command, after its class action (assumption 50). -/
def finish (old s : State) : State := forceZero (rebuildStatus old s)

end Sys2Proof.Machine
end

