-- ==== Sys2Proof/Machine/Budget.lean ====
section
/-! DEFINITION. The budget unit (R133 to R148): requests and their judgment, the claim lock, staleness, the
application of GRANT frames and the two ways back into step. -/

namespace Sys2Proof.Machine

/-! ## Requests -/

/-- R136, R137: the pending GRANT is withdrawn and the claim lock cleared. -/
def dropGrant (s : State) : State :=
  (s.setLink { s.link with grant := none }).setBudget { s.budget with lock := false }

/-- R137, R139: a GRANT carrying the requested units is placed, under the claim lock when it is a raise. -/
def placeGrant (raise : Bool) (s : State) : State :=
  (s.setLink { s.link with grant := some { units := s.budget.requested, reason := s.budget.reason, raise } }).setBudget
    { s.budget with lock := raise }

/-- R136, R148: the judgment of the requested units, put off while a GRANT of the station's own is in flight. Until
CONFIG no GRANT is placed, the lowering of R143 after an adoption included (assumption 51). -/
def judgeRequest (s : State) : State :=
  if s.link.grantInFlight.isSome then s
  else if s.budget.requested = s.ownEntry then dropGrant s
  else if !s.configured then dropGrant s
  else if s.budget.requested < s.ownEntry then placeGrant false s
  else if s.budget.inStep && s.fits s.budget.requested then placeGrant true s
  else dropGrant s

/-- R136: a request from a neighbour block. -/
def requestUnits (units : Nat) (reason : GrantReason) (s : State) : State :=
  judgeRequest (s.setBudget { s.budget with requested := units, reason })

/-- A raise of the station's own is pending (R138). -/
def Link.pendingRaise (l : Link) : Bool :=
  match l.grant with
  | some g => g.raise
  | none => false

/-- R138: the judgment at a change to the table. A pending raise whose lock has been cleared stays until the arbiter
chooses it (assumption 10). -/
def rejudge (s : State) : State :=
  if s.link.pendingRaise && !s.budget.lock then s else judgeRequest s

/-- R136: the value that a withdrawal of a raise leaves as the requested units. -/
def State.unitsAfterWithdrawal (s : State) : Nat :=
  match s.link.grantInFlight with
  | some g => if g.raise then g.units else min s.budget.requested s.ownEntry
  | none => min s.budget.requested s.ownEntry

/-- R18, R19, R136: a sequencer withdraws the raise it has asked for. The reason of the last request stays for a GRANT
that is placed later (assumption 66). -/
def withdrawRaise (s : State) : State :=
  judgeRequest (s.setBudget { s.budget with requested := s.unitsAfterWithdrawal })

/-! ## Staleness -/

/-- R134. -/
def enterStale (s : State) : State :=
  if s.budget.inStep then
    (s.setLink { s.link with grant := if s.link.pendingRaise then none else s.link.grant }).setBudget
      { s.budget with inStep := false, lock := false, coldTimer := if s.configured then some 0 else none }
  else s

/-- R135: the judgment of a valid frame's header. -/
def judgeHeader (epoch : Byte) (senderInStep : Bool) (s : State) : State :=
  let s1 := s.setBudget { s.budget with lastHeard := epoch }
  if s.budget.inStep && senderInStep && epoch != s.budget.epoch then enterStale s1 else s1

/-! ## Application -/

/-- R141, R142: an applied change to entry `n`. -/
def applyEntry (n units : Nat) (headerEpoch : Byte) (s : State) : State :=
  s.setBudget { s.budget with
    table := s.budget.setEntry n units
    epoch := (if s.budget.inStep then s.budget.epoch else headerEpoch) + 1 }

/-- R141: a raise of entry `n` passes the epoch test and the sum test, which is not made before CONFIG. -/
def raisePasses (n units : Nat) (headerEpoch : Byte) (s : State) : Bool :=
  headerEpoch == s.budget.epoch && (!s.configured || tableSum (s.budget.setEntry n units) ≤ s.capacity)

/-- R140, R141: a GRANT of node `n` is classed against the entry held and applied, or refused with entry to STALE. -/
def applyGrant (n units : Nat) (headerEpoch : Byte) (s : State) : State :=
  if units ≤ s.budget.entry n || raisePasses n units headerEpoch s then applyEntry n units headerEpoch s
  else enterStale s

/-- R138. -/
def clearLock (s : State) : State := s.setBudget { s.budget with lock := false }

/-- R141: a valid GRANT heard from another station. -/
def hearGrant (sender units : Nat) (headerEpoch : Byte) (s : State) : State :=
  rejudge (clearLock (applyGrant sender units headerEpoch s))

/-- R140: a GRANT of the station's own has completed. -/
def ownGrantComplete (units : Nat) (headerEpoch : Byte) (s : State) : State :=
  judgeRequest (clearLock (applyGrant s.start.number units headerEpoch s))

/-- R140: a GRANT of the station's own has been abandoned. -/
def ownGrantAbandoned (s : State) : State := judgeRequest (clearLock s)

/-! ## Recovery -/

/-- R143: the table of an in-step STATUS, entry 0 taken as 0. -/
def adoptedTable (entries : List Nat) : Vector Nat 15 :=
  Vector.ofFn fun i => if i.val = 0 then 0 else entries.getD i.val 0

/-- R143, R148: the adoption of a table. Before CONFIG the unit stays STALE, and the judgment that follows places no
GRANT (assumption 51). -/
def adopt (entries : List Nat) (epoch : Byte) (s : State) : State :=
  judgeRequest (s.setBudget { s.budget with
    table := adoptedTable entries
    epoch
    inStep := s.configured
    coldTimer := if s.configured then none else s.budget.coldTimer })

/-- R133, R143: the recovery of a STALE unit from a STATUS. Its entry to IN_STEP replaces a pending STATUS, also where
the header of the same frame took it out of step and the table and epoch are the ones it had. -/
def recover (entries : List Nat) (epoch : Byte) (s : State) : State :=
  let t := adopt entries epoch s
  if t.budget.inStep then refreshStatus t else t

/-- R145: the table of a cold start. -/
def coldTable (own units : Nat) : Vector Nat 15 :=
  Vector.ofFn fun i => if i.val ≠ 0 ∧ i.val = own then units else 0

/-- R145: the cold start, while the timer runs. -/
def coldStart (s : State) : State :=
  if s.budget.coldTimer.isSome && !s.budget.inStep then
    judgeRequest (s.setBudget { s.budget with
      table := coldTable s.start.number s.ownEntry
      epoch := s.budget.lastHeard
      inStep := true
      coldTimer := none })
  else s

end Sys2Proof.Machine
end

