-- ==== Sys2Proof/Machine/Record.lean ====
section
/-! DEFINITION. The record unit (R160 to R171): offering and storing samples, CURVE frames, and the RESULT. -/

namespace Sys2Proof.Machine

/-- R164: whether a CURVE frame is placed. -/
def curveDue (s : State) : Bool :=
  s.link.curve.isNone && !s.link.curveInFlight
    && (curveSamples ≤ s.recorder.store.length
        || (s.recorder.collection == .ended && 0 < s.recorder.store.length))

/-- R164: the test id of the current order stands in the test record, which outlives the order (R25). -/
def State.testId (s : State) : Word32 :=
  match s.testRec with
  | none => 0
  | some t => t.testId

/-- R164: the judgment of a CURVE placement. -/
def judgeCurve (s : State) : State :=
  if curveDue s then
    s.setLink { s.link with
      curve := some { testId := s.testId, samples := s.recorder.store.take curveSamples } }
  else s

/-- R162: the store has room for the sample, and its newest sample has a lower index. -/
def Recorder.hasRoomFor (u : Recorder) (r : SampleRec) : Bool :=
  decide (u.store.length < storeCapacity) &&
    match u.store.getLast? with
    | none => true
    | some newest => decide (newest.index.toNat < r.index.toNat)

/-- R161: the sample is eligible; the sequencer state is the one left by the previous sample. -/
def curveEligible (s : State) : Bool :=
  !s.isFollow && s.recorder.collection == .collecting && s.recorder.runBegun
    && (s.seq.state == .running || s.seq.state == .held || s.seq.state == .ending)

/-- R161: the decimation of the order. -/
def State.decimation (s : State) : Nat :=
  match s.seq.order with
  | none => 1
  | some o => o.decimation

/-- R161: the count of the decimation after an eligible sample. -/
def nextDecimation (d n : Nat) : Nat := if d ≤ n + 1 then 0 else n + 1

/-- R162: an offered sample joins the store or is lost. -/
def storeSample (r : SampleRec) (s : State) : State :=
  if s.recorder.hasRoomFor r then
    judgeCurve (s.setRecorder { s.recorder with
      offered := s.recorder.offered + 1
      store := s.recorder.store ++ [r]
      decCount := nextDecimation s.decimation s.recorder.decCount })
  else
    s.setRecorder { s.recorder with
      offered := s.recorder.offered + 1
      lost := s.recorder.lost + 1
      decCount := nextDecimation s.decimation s.recorder.decCount }

/-- R161: a completed sample is judged for offering. -/
def offerSample (r : SampleRec) (s : State) : State :=
  if curveEligible s then
    if s.recorder.decCount = 0 then
      if s.recorder.offered < 4294967295 then storeSample r s else s
    else
      s.setRecorder { s.recorder with decCount := nextDecimation s.decimation s.recorder.decCount }
  else s

/-- R169: a built RESULT goes to the empty slot, or waits. -/
def placeResult (t : TestRecord) (s : State) : State :=
  if s.link.result.isNone && !s.link.resultInFlight then s.setLink { s.link with result := some t }
  else s.setRecorder { s.recorder with waiting := some t }

/-- R168: the record with the counts written. -/
def TestRecord.withCounts (t : TestRecord) (u : Recorder) : TestRecord :=
  { t with offered := u.offered, stored := u.offered - u.lost, lost := u.lost }

/-- R168, steps 3 and 4: the counts, ENDED, the RESULT, and the tail of the curve. -/
def closeCollection (s : State) : State :=
  match s.testRec with
  | none => s
  | some t =>
    let t1 := t.withCounts s.recorder
    judgeCurve (placeResult t1 ((s.setTestRec (some t1)).setRecorder { s.recorder with collection := .ended }))

/-- R165: a CURVE frame with `k` samples has completed; a disowned one removes nothing. -/
def curveComplete (k : Nat) (disowned : Bool) (s : State) : State :=
  judgeCurve (if disowned then s
    else s.setRecorder { s.recorder with store := s.recorder.store.drop k, sent := s.recorder.sent + k })

/-- R170: a RESULT has completed, and the waiting one takes the slot. -/
def resultComplete (s : State) : State :=
  match s.recorder.waiting with
  | none => s
  | some t =>
    if s.link.result.isNone then
      (s.setLink { s.link with result := some t }).setRecorder { s.recorder with waiting := none }
    else s

/-- R166: what an order acceptance does to the record unit. The waiting RESULT stays. -/
def Recorder.fresh (u : Recorder) : Recorder :=
  { Recorder.reset with collection := .collecting, waiting := u.waiting }

/-- R167: a fresh test record. -/
def TestRecord.fresh (testId : Word32) : TestRecord :=
  { testId, outcome := none, endPhase := 0, maxLoad := 0, posAtMax := 0, strainAtMax := 0, yieldPart := none,
    switchPart := none, extOnAtBreak := false, breakPart := none, holdCount := 0, offered := 0, stored := 0,
    lost := 0, faultCause := none }

/-- A frame in flight that the block which placed it disowns when `p` holds of it (R124, R166, R170, R171). -/
def Link.disown (l : Link) (p : OutFrame → Bool) : Option InFlight :=
  l.inFlight.map fun i => { i with disowned := i.disowned || p i.frame }

end Sys2Proof.Machine
end

