-- ==== Sys2Proof/Machine/Arm.lean ====
section
/-! DEFINITION. The extensometer arm as every block moves it: opening, the switchover (R106), the open and removal
commands (R108), and the examination of a sample while measuring (R101 to R104). -/

namespace Sys2Proof.Machine

/-- R110: OPENING is entered, with its timer at 0; the other timers and a shift in progress stop. -/
def Ext.opening (e : Ext) : Ext :=
  { e with state := .opening, openTimer := some 0, closeTimer := none, identTimer := none, shift := none }

/-- R106, step 1: the continuity offset fixed from the last measured pair. Phase 1 has begun when the current phase is
not none; on the sample on which it begins, the offset follows the order of the two handlings (assumption 52). -/
def switchOffset (s : State) (strain pos : Int) : Int :=
  if s.seq.phase = 0 then 0 else strain - s.rawStrain pos

/-- R106: the notice of a switchover. -/
def switchNotice (cause : SwitchCause) (s : State) : State :=
  match cause.event with
  | none => s
  | some kind => pushNotice (.extEvent kind 0) s

/-- R106. -/
def switchover (cause : SwitchCause) (s : State) : State :=
  match s.ext.pair with
  | none => s.setExt s.ext.opening
  | some (strain, pos) =>
    switchNotice cause
      ((s.setExt { s.ext.opening with offset := switchOffset s strain pos }).setTestRec
        (s.testRec.map fun t => { t with switchPart := some (cause, strain, pos) }))

/-- R104: a removal command or a removal condition. -/
def removeArm (s : State) : State := if s.ext.state == .measuring then switchover .removal s else s

/-- R94, R95, R96, R99, R108, R110: the open command, with the cause that a switchover takes. -/
def openArm (cause : SwitchCause) (s : State) : State :=
  let s1 := s.setExt { s.ext with attachWaits := false }
  match s.ext.state with
  | .measuring => switchover cause s1
  | .closing | .ident | .settling => s1.setExt s1.ext.opening
  | _ => s1

/-! ## The examination of a sample (R101) -/

/-- What the unit has of the sample beside its record: the reading of the tick, the peak as it stood before, and
whether the test span was OPEN when the sample was completed (R86, R103). -/
structure ExtView where
  reading : Int
  peak : Option Peak
  inSpan : Bool
  deriving DecidableEq, Repr

/-- R102. -/
def travelPassed (e : Ext) (reading : Int) : Bool :=
  saturated reading || decide (950000 < (e.fromZero reading).natAbs)

/-- R103: the sample is one that the slip window would take. -/
def windowTakes (v : ExtView) (r : SampleRec) : Bool := !r.held && v.inSpan

/-- R103: one percent of the magnitude of the peak. -/
def slipRise (peak : Option Peak) : Int :=
  match peak with
  | none => 0
  | some p => (p.load.natAbs * 10 / 1000 : Nat)

/-- R103: slip against the seventh-newest entry of a full window. -/
def slips (tolerance : Nat) (peak : Option Peak) (window : List (Int × Int)) (r : SampleRec) : Bool :=
  decide (windowLength ≤ window.length) &&
    match window[1]? with
    | none => false
    | some w => decide (slipRise peak ≤ r.load - w.1) && decide (r.strain < w.2 - tolerance)

/-- R104. -/
def removalMet (s : State) (plan : ExtPlan) (v : ExtView) (r : SampleRec) : Bool :=
  match plan.removal with
  | .atStrain => decide ((plan.value : Int) ≤ r.strain)
  | .atPeakDrop =>
    windowTakes v r && s.load.breakArmed &&
      match v.peak with
      | none => false
      | some p => decide (r.load ≤ dropLevel p.load plan.value)
  | .atPhaseEnd => false

/-- The plan of the order held. -/
def State.extPlan (s : State) : Option ExtPlan := s.seq.order.bind fun o => o.plan

/-- R101: the cause of the switchover that the examination makes. -/
def examineCause (s : State) (v : ExtView) (r : SampleRec) : Option SwitchCause :=
  if r.brk then some .testEnd
  else if travelPassed s.ext v.reading then some .travel
  else
    match s.extPlan with
    | none => none
    | some plan =>
      if windowTakes v r && slips plan.slipTolerance v.peak s.ext.slip r then some .slip
      else if removalMet s plan v r then some .removal
      else none

/-- R101, step 5. -/
def joinSlip (v : ExtView) (r : SampleRec) (s : State) : State :=
  if windowTakes v r then s.setExt { s.ext with slip := pushWindow s.ext.slip (r.load, r.strain) } else s

/-- R101: the examination of a sample completed while the unit was MEASURING; a unit that has left it examines
nothing. -/
def examineSample (v : ExtView) (r : SampleRec) (s : State) : State :=
  if s.ext.state == .measuring then
    match examineCause s v r with
    | some cause => switchover cause s
    | none => joinSlip v r s
  else s

end Sys2Proof.Machine
end

