-- ==== Sys2Proof/Machine/Sequencer.lean ====
section
/-! DEFINITION. The entries of both sequencers that any block can bring about: the end of a test (R26, R168), STOPPED
and FAULTED (R23, R24, R68), IDLE (R25, R27), ENDING (R19), DONE (R22) and CLAIMING (R10). -/

namespace Sys2Proof.Machine

/-- A state is entered: its sample count and its waiting steps begin anew (R7, R10). -/
def Seq.goto (q : Seq) (st : SeqState) : Seq :=
  { q with state := st, stateSamples := 0, gripsCount := 0, gripsLowWaits := false, due := none }

def gotoState (st : SeqState) (s : State) : State := s.setSeq (s.seq.goto st)

/-- A write to the test record, while there is one. -/
def writeRecord (f : TestRecord → TestRecord) (s : State) : State := s.setTestRec (s.testRec.map f)

/-- R84: a tare in progress is abandoned, the offset kept. -/
def abandonTare (s : State) : State := s.setLoad { s.load with tare := none }

/-- R86, R91: the span closes; the peak and the flags stay. -/
def closeSpan (s : State) : State :=
  s.setLoad { s.load with
    spanOpen := false
    yieldSearch := if s.load.yieldSearch = .searching then .inactive else s.load.yieldSearch }

/-- R86: CLOSED, no peak, flags clear, search INACTIVE. -/
def LoadCh.spanReset (l : LoadCh) : LoadCh :=
  { l with spanOpen := false, peak := none, breakArmed := false, breakFound := false, yieldSearch := .inactive }

/-- R26, R168: the end of a test. -/
def endTest (outcome : TestOutcome) (s : State) : State :=
  closeSpan (closeCollection (pushNotice (.testEnded outcome)
    (writeRecord (fun t => { t with outcome := some outcome, endPhase := s.seq.phase }) s)))

/-- The common part of STOPPED and FAULTED: the arm is commanded open with cause STOP, a tare is abandoned, the
request of 0 units is made (R146), and a test that was in progress ends. -/
def haltSequencer (st : SeqState) (outcome : TestOutcome) (s : State) : State :=
  let s1 := requestUnits 0 .release (gotoState st (openArm .stop (abandonTare s)))
  if s.seq.state.isTest then endTest outcome s1 else s1

/-- R23: the test sequencer's answer to the stop latch. -/
def stopSequencer (s : State) : State :=
  match s.seq.state with
  | .unconfigured | .idle | .stopped => s
  | _ => haltSequencer .stopped .stopped s

/-- R24: the test sequencer's answer to a local fault. -/
def faultSequencer (s : State) : State :=
  match s.seq.state with
  | .unconfigured | .idle | .stopped | .faulted => s
  | _ => haltSequencer .faulted .faulted s

/-- R65, R68, R146: the follow sequencer enters STOPPED or FAULTED. -/
def haltFollow (st : SeqState) (s : State) : State :=
  requestUnits 0 .release (s.setFollow { s.follow with state := st, asked := 0, lossSamples := 0 })

/-- R68. -/
def stopFollow (s : State) : State :=
  if s.follow.state.isFollowActive || s.follow.state == .faulted then haltFollow .stopped s else s

/-- R68. -/
def faultFollow (s : State) : State :=
  if s.follow.state.isFollowActive then haltFollow .faulted s else s

/-- R37, R39: the regulator on entry of the station's sequencer to IDLE: value 0, mode ZERO, no window. -/
def restRegulator (s : State) : State :=
  s.setTravel { s.travel with regValue := 0, regMode := .zero, window := [] }

/-- R37, R64: IDLE as the follow sequencer enters it. -/
def restFollow (s : State) : State :=
  restRegulator (s.setFollow { state := .idle, share := 0, asked := 0, lossSamples := 0 })

/-- R66, R67: the follow sequencer enters IDLE and asks for 0 units. -/
def idleFollow (s : State) : State := requestUnits 0 .release (restFollow s)

/-- R25, R37, R39, R63, R76, R86, R107: what the entry of the test sequencer to IDLE does in its own block and in its
neighbours. -/
def enterIdle (s : State) : State :=
  let s1 := restRegulator (gotoState .idle (openArm .stop s))
  (((s1.setSeq { s1.seq with order := none, phase := 0, phaseBegun := false, returnCancelled := false }).setLoad
      { s1.load.spanReset with rangeMode := .auto, tare := none }).setExt { s1.ext with offset := 0 }).setPair
      { s1.pair with joined := false, runCount := 0 }

/-- R19: the entry to ENDING. -/
def enterEnding (outcome : TestOutcome) (cause : SwitchCause) (s : State) : State :=
  withdrawRaise (openArm cause (gotoState .ending
    (writeRecord (fun t => { t with outcome := some outcome, endPhase := s.seq.phase }) s)))

/-- The outcome decided on entry to ENDING (R26). -/
def State.provisional (s : State) : TestOutcome :=
  match s.testRec with
  | none => .ended
  | some t => t.outcome.getD .ended

/-- R22. -/
def enterDone (s : State) : State :=
  endTest s.provisional (requestUnits 0 .release (openArm .testEnd (gotoState .done s)))

/-- R10: the entry to CLAIMING asks for the share of phase 1. -/
def enterClaiming (s : State) : State := requestUnits (s.shareOf 1) .phase (gotoState .claiming s)

/-- R8: the entry to TARING asks for a tare (R82). The attempt takes every accepted sample completed from then on, that
of the tick of the entry too where its conversion ends later (assumption 64). -/
def enterTaring (s : State) : State :=
  let s1 := gotoState .taring s
  s1.setLoad { s1.load with tare := some { attempt := 1, loads := [] } }

/-- R8: a low grips line in TARING. -/
def dropGrips (s : State) : State := gotoState .armed (abandonTare s)

end Sys2Proof.Machine
end

