-- ==== Sys2Proof/Machine/StopFault.lean ====
section
/-! DEFINITION. The stop and fault unit (R149 to R159): the stop latch, the fault record, and what a report does. -/

namespace Sys2Proof.Machine

/-- R23, R68: the sequencer of the station's role answers the latch. -/
def stopOwn (s : State) : State := if s.isFollow then stopFollow s else stopSequencer s

/-- R24, R68: the sequencer of the station's role answers a local fault. -/
def faultOwn (s : State) : State := if s.isFollow then faultFollow s else faultSequencer s

/-- R150: the latch enters SET; a SET latch and a station in STRAP_FAULT stay as they are. -/
def setLatch (s : State) : State :=
  if s.stop.latch || s.start.strapFault then s else stopOwn (s.setStop { s.stop with latch := true })

/-- R152: the locked part of a report taken now. -/
def State.lockedPart (s : State) (cause : FaultCause) : FaultRec :=
  { cause, state := s.ownState, phase := s.ownPhase, index := s.lastIndex, position := s.lastPosition,
    load := s.load.statusLoad }

/-- R152, R154: the record locks, or its count rises. The test record takes the cause that locks during a test. -/
def recordFault (cause : FaultCause) (s : State) : State :=
  match s.stop.record with
  | some _ => s.setStop { s.stop with further := succ255 s.stop.further }
  | none =>
    let s1 := s.setStop { s.stop with record := some (s.lockedPart cause), further := 0 }
    if !s.isFollow && s.seq.state.isTest then writeRecord (fun t => { t with faultCause := some cause }) s1 else s1

/-- R153, step 2: the FAULT notice carries the locked part when this report locked the record. -/
def faultNotice (cause : FaultCause) (s : State) : NoticeKind :=
  .fault cause (if s.stop.locked then none else some (s.lockedPart cause))

/-- R149, R151, R153, step 3. -/
def stopCell (cause : FaultCause) (s : State) : State :=
  setLatch ((s.setStop { s.stop with driving := true }).setLink { s.link with stop := some cause })

/-- R153: a fault report. A station in STRAP_FAULT reports nothing (R173). -/
def report (cause : FaultCause) (s : State) : State :=
  if s.start.strapFault then s
  else
    let s1 := pushNotice (faultNotice cause s) (recordFault cause s)
    if cause.isCellStop then stopCell cause s1 else faultOwn s1

end Sys2Proof.Machine
end

