-- ==== Sys2Proof/Machine/Pair.lean ====
section
/-! DEFINITION. The pair unit's part of a sample (R52 to R63), and the follow sequencer (R64 to R68). -/

namespace Sys2Proof.Machine

/-! ## Skew, trim and the alarm -/

/-- R58. -/
def trimOf (s : State) (skew : Int) : Int := if s.isFollow then clampMag s.trimLimit (skew.tdiv 8) else 0

/-- R57, R58: the skew of a sample and the trim that goes with it. -/
def computeSkew (r : SampleRec) (s : State) : State :=
  match skewSource s with
  | none => s.setPair { s.pair with skewKnown := false, trim := 0 }
  | some m =>
    let v := clamp32 (m.position - r.position)
    s.setPair { s.pair with skew := v, skewKnown := true, trim := trimOf s v }

/-- R59. -/
def judgeAlarm (s : State) : State :=
  if s.pair.skewKnown then
    if s.skewAlarm < s.pair.skew.natAbs then
      if s.pair.alarmed then s
      else pushNotice (.skewAlarm s.pair.skew) (s.setPair { s.pair with alarmed := true })
    else s.setPair { s.pair with alarmed := false }
  else s

/-- R63: one more sample since the first entry to RUNNING of the test in progress. -/
def countRunning (s : State) : State :=
  if s.start.role == .lead && s.recorder.runBegun && s.seq.order.isSome then
    s.setPair { s.pair with runCount := succ255 s.pair.runCount }
  else s

/-- R57 to R59, R63: the pair unit before the sequencer handles the sample. -/
def pairSample (r : SampleRec) (s : State) : State :=
  if s.paired then countRunning (judgeAlarm (computeSkew r s)) else s

/-- R60: the check runs on this sample. -/
def skewChecked (s : State) : Bool := s.paired && s.pair.skewKnown && s.moveKind != .none

/-- R60: the magnitude is beyond the limit. -/
def skewBeyond (s : State) : Bool := decide (s.skewLimit < s.pair.skew.natAbs)

/-- R60: the check raises SKEW_LIMIT. -/
def skewFires (s : State) : Bool := skewChecked s && skewBeyond s && !s.pair.overLimit

/-- R62, R63: the fault that the partner checks of a lead find. -/
def partnerCause (s : State) : Option FaultCause :=
  if partnerFaulted s then some .partnerFault else if partnerRestarted s then some .partnerRestarted else none

/-- R55: a LEVEL of the partner with the other role is taken; on a lead in a test state it may set the joined flag
(R63). -/
def takeLevel (m : Level) (s : State) : State :=
  let joins := s.start.role == .lead && s.seq.state.isTest
    && (m.state == .followClaim || m.state == .following || m.state == .held)
  s.setPair { s.pair with mirror := some m, age := 0, joined := s.pair.joined || joins }

/-! ## The follow sequencer -/

/-- R65: the share update on a sample. -/
def updateShare (m : Level) (s : State) : State :=
  if m.state.claims then
    if m.share = s.follow.asked then s.setFollow { s.follow with share := m.share }
    else requestUnits m.share .follow (s.setFollow { s.follow with share := m.share, asked := m.share })
  else s

/-- A follow state is entered with the mirror heard: the loss timer returns to zero (R67). -/
def followTo (st : SeqState) (s : State) : State :=
  s.setFollow { s.follow with state := st, lossSamples := 0 }

/-- R66: the next state for a mirror that is not lost. A lead that shows a follow's state fits no case, and the state
stays (assumption 20). -/
def followLead (m : Level) (s : State) : State :=
  match m.state with
  | .unconfigured | .idle | .armed | .taring | .attaching | .done | .stopped | .faulted => idleFollow s
  | .held | .ending => followTo .held s
  | .claiming => followTo .followClaim s
  | .running | .returning =>
    if s.follow.share ≤ s.ownEntry then followTo .following s else followTo .followClaim s
  | .followClaim | .following => followTo s.follow.state s

/-- R66, R67: the mirror is lost. The sample on which the follow enters HELD counts as the first (assumption 46). -/
def followLost (s : State) : State :=
  s.setFollow { s.follow with state := .held, lossSamples := s.follow.lossSamples + 1 }

/-- R65, R66: a sample in FOLLOW_CLAIM, FOLLOWING or HELD. -/
def followActive (s : State) : State :=
  if s.pair.lost then followLost s
  else
    match s.pair.mirror with
    | none => followLost s
    | some m => followLead m (updateShare m s)

/-- R64: an IDLE follow may claim. -/
def followMayClaim (s : State) : Bool :=
  !s.pair.lost && !s.stop.latch && !s.stop.locked && s.start.intervalEnded &&
    match s.pair.mirror with
    | none => false
    | some m => m.state.claims

/-- R64 to R67: the follow sequencer handles a sample. -/
def followSample (s : State) : State :=
  match s.follow.state with
  | .idle => if followMayClaim s then followActive (followTo .followClaim s) else s
  | .followClaim | .following | .held => followActive s
  | _ => s

/-- R61, R66: the partner is lost, and an active follow holds. -/
def partnerLost (s : State) : State :=
  if s.isFollow && s.pair.lost && s.follow.state.isFollowActive then
    s.setFollow { s.follow with state := .held }
  else s

/-- R67. -/
def followLossExpired (s : State) : State :=
  if s.isFollow && s.follow.state == .held && decide (lossLimit ≤ s.follow.lossSamples * s.period) then idleFollow s
  else s

def execPartnerLoss (s : State) : Host.Outcome State Fault Refusal := .next (finish s (partnerLost s))

def execFollowLossTimeout (s : State) : Host.Outcome State Fault Refusal :=
  .next (finish s (followLossExpired s))

end Sys2Proof.Machine
end

