-- ==== Sys2Proof/Machine/Link.lean ====
section
/-! DEFINITION. The link unit (R114 to R132): the line, starting and ending the station's own frames, receive
errors, the presence list, and the LEVEL and STATUS timers. -/

namespace Sys2Proof.Machine

/-! ## The line -/

/-- R114: a received frame ends with the bit time without a transition, which counts as quiet. -/
def Link.endReception (l : Link) : Link := { l with line := .quiet, taking := false, quiet := 1 }

/-- R114, R115: the station takes what ends now as a frame: it was taking it, or the line was quiet and the whole
frame is reported at once (assumption 7). -/
def Link.takes (l : Link) : Bool := l.line == .quiet || (l.line == .receiving && l.taking)

/-- R119. -/
def startBitSensed (s : State) : State :=
  if s.link.line = .quiet then s.setLink { s.link with line := .receiving, taking := true, quiet := 0 } else s

/-- R114, R122: the line is idle while nothing is to be judged, as ever in STRAP_FAULT. -/
def lineIdle (s : State) : State :=
  if s.link.line = .receiving ∧ (s.link.taking = false ∨ s.start.strapFault = true) then
    s.setLink s.link.endReception
  else s

/-! ## Receive errors (R115, R116) -/

/-- R116: the count of the kind. -/
def Link.countError (l : Link) : Judgment → Link
  | .short => { l with errShort := succ255 l.errShort }
  | .length => { l with errLength := succ255 l.errLength }
  | .check => { l with errCheck := succ255 l.errCheck }
  | .good => l

/-- R115, R116: what was taken is judged; a good frame is no error. A station in STRAP_FAULT judges nothing. -/
def receiveError (taken : Taken) (s : State) : State :=
  if s.link.takes then
    let s1 := s.setLink s.link.endReception
    if s.start.strapFault || judgeTaken taken == .good then s1
    else enterStale (s1.setLink (s1.link.countError (judgeTaken taken)))
  else s

/-! ## The station's own frames -/

/-- R120: a frame that starts leaves its slot. A notice stays at the head of the queue (R124). -/
def Link.leaveSlot (l : Link) : OutFrame → Link
  | .stop _ => { l with stop := none }
  | .grant _ => { l with grant := none }
  | .level _ => { l with level := none }
  | .notice _ => l
  | .status _ => { l with status := none }
  | .result _ => { l with result := none }
  | .curve _ => { l with curve := none }

/-- R114, R120, R135: a frame starts, and its header takes epoch and in-step state. -/
def startFrame (f : OutFrame) (s : State) : State :=
  s.setLink { s.link.leaveSlot f with
    line := .sending
    taking := false
    quiet := 0
    inFlight := some { frame := f, epoch := s.budget.epoch, inStep := s.budget.inStep, disowned := false } }

/-- R118: a raise that the arbiter has chosen with its claim lock clear. -/
def lockRefuses (s : State) : OutFrame → Bool
  | .grant g => g.raise && !s.budget.lock
  | _ => false

/-- R118: the chosen raise is withdrawn, and the budget unit judges afresh. -/
def withdrawChosen (s : State) : State := judgeRequest (s.setLink { s.link with grant := none })

/-- R117, R118: the arbiter at a quiet line. -/
def arbitrate (s : State) : State :=
  match arbiterChoice s with
  | none => s
  | some (level, f) =>
    if deferWindow s level ≤ s.link.quiet then (if lockRefuses s f then withdrawChosen s else startFrame f s) else s

/-- R117: `quiet` bit times have passed in QUIET, and the arbiter chooses. -/
def frameStart (quiet : Nat) (s : State) : State :=
  if s.link.line = .quiet then arbitrate (s.setLink { s.link with quiet := s.link.quiet + quiet }) else s

/-- R124: the head notice is removed, and lost notices are reported. -/
def noticeSent (disowned : Bool) (s : State) : State :=
  if disowned then s
  else if s.link.lost = 0 then s.setLink { s.link with notices := s.link.notices.tail }
  else
    s.setLink { s.link with
      notices := s.link.notices.tail ++ [{ kind := .noticesLost s.link.lost, index := s.lastIndex }]
      lost := 0 }

/-- R121: the completion is reported to the block that placed the frame. -/
def reportCompletion (i : InFlight) (s : State) : State :=
  match i.frame with
  | .stop _ | .level _ | .status _ => s
  | .grant g => ownGrantComplete g.units i.epoch s
  | .notice _ => noticeSent i.disowned s
  | .result _ => resultComplete s
  | .curve c => curveComplete c.samples.length i.disowned s

/-- R114, R121. -/
def frameComplete (s : State) : State :=
  if s.link.line = .sending then
    match s.link.inFlight with
    | none => s
    | some i => reportCompletion i (s.setLink { s.link with line := .quiet, quiet := 0, inFlight := none })
  else s

/-- R121: a frame returns to its slot unless the slot holds a newer one; a disowned frame is discarded. A STATUS
returns as it was built, though the budget may have changed while it was in flight (assumption 67). -/
def Link.returnFrame (l : Link) (i : InFlight) : Link :=
  match i.frame with
  | .stop c => { l with stop := l.stop.or (some c) }
  | .level x => { l with level := l.level.or (some x) }
  | .status x => { l with status := l.status.or (some x) }
  | .result t => if i.disowned then l else { l with result := l.result.or (some t) }
  | .curve c => if i.disowned then l else { l with curve := l.curve.or (some c) }
  | .grant _ | .notice _ => l

/-- R121: the abandonment is reported; a GRANT goes back to the budget unit. -/
def reportAbandonment (i : InFlight) (s : State) : State :=
  match i.frame with
  | .grant _ => ownGrantAbandoned s
  | _ => s.setLink (s.link.returnFrame i)

/-- R114, R121, R122. -/
def frameAbandon (s : State) : State :=
  if s.link.line = .sending then
    match s.link.inFlight with
    | none => s
    | some i =>
      reportAbandonment i
        (s.setLink { s.link with line := .receiving, taking := false, quiet := 0, inFlight := none })
  else s

/-! ## Presence (R129) -/

/-- R129: node `n` becomes a member with age 0, or a member's age returns to 0. -/
def Link.present (l : Link) (n : Nat) : Link :=
  if h : n < 15 then { l with presence := l.presence.set n (some 0) h } else l

/-- R129: the ages of all members advance. -/
def Link.agePresence (l : Link) : Link := { l with presence := l.presence.map fun a => a.map (· + 1) }

/-- R129: the age of member `n` has passed the timeout. -/
def presenceExpired (s : State) (n : Nat) : Bool :=
  if h : n < 15 then
    match s.link.presence[n] with
    | none => false
    | some a => decide (s.presenceTimeout < a)
  else false

/-- R129: a member that has passed the timeout leaves. -/
def dropMember (n : Nat) (s : State) : State :=
  if presenceExpired s n then
    if h : n < 15 then s.setLink { s.link with presence := s.link.presence.set n none h } else s
  else s

/-! ## The LEVEL and STATUS timers -/

/-- R130: a STATUS built from the state now takes the slot. -/
def placeStatus (s : State) : State := s.setLink { s.link with status := some (buildStatus s) }

/-- R53, R54: a LEVEL built from the state now takes the slot. -/
def placeLevel (s : State) : State := s.setLink { s.link with level := some (buildLevel s) }

/-- A timer in ticks has reached its period. -/
def timerReached (t : Option Nat) (n : Nat) : Bool :=
  match t with
  | none => false
  | some k => decide (n ≤ k)

/-- R53. -/
def levelTimer (s : State) : State :=
  if timerReached s.pair.levelTimer levelTicks then
    placeLevel (s.setPair { s.pair with levelTimer := some 0 })
  else s

/-- R130. A tick whose conversion pair a RESTART discarded places its STATUS too (assumption 44). -/
def statusTimer (s : State) : State :=
  if timerReached s.link.statusTimer s.statusPeriod then
    placeStatus (s.setLink { s.link with statusTimer := some 0 })
  else s

/-- R145: the cold-start timer has reached the presence timeout. -/
def coldStartDue (s : State) : State :=
  if timerReached s.budget.coldTimer s.presenceTimeout then coldStart s else s

/-! ## The commands -/

def execStartBitSensed (s : State) : Host.Outcome State Fault Refusal := .next (finish s (startBitSensed s))

def execLineIdle (s : State) : Host.Outcome State Fault Refusal := .next (finish s (lineIdle s))

def execReceiveError (taken : Taken) (s : State) : Host.Outcome State Fault Refusal :=
  .next (finish s (receiveError taken s))

def execFrameStart (quiet : Nat) (s : State) : Host.Outcome State Fault Refusal :=
  .next (finish s (frameStart quiet s))

def execFrameComplete (s : State) : Host.Outcome State Fault Refusal := .next (finish s (frameComplete s))

def execFrameAbandon (s : State) : Host.Outcome State Fault Refusal := .next (finish s (frameAbandon s))

def execPresenceTimeout (node : Node) (s : State) : Host.Outcome State Fault Refusal :=
  .next (finish s (dropMember node.toNat s))

def execLevelTimer (s : State) : Host.Outcome State Fault Refusal := .next (finish s (levelTimer s))

def execStatusTimer (s : State) : Host.Outcome State Fault Refusal := .next (finish s (statusTimer s))

def execColdStart (s : State) : Host.Outcome State Fault Refusal := .next (finish s (coldStartDue s))

end Sys2Proof.Machine
end

