-- ==== Sys2Proof/Machine/Extensometer.lean ====
section
/-! DEFINITION. The extensometer unit's own commands (R92 to R113): attaching, identification, settling, the arm lines
and the timeouts. -/

namespace Sys2Proof.Machine

/-- R94: a request is taken. -/
def takeAttach (s : State) : State :=
  s.setExt { s.ext with state := .closing, idRec := none, closeTimer := some 0, openTimer := none,
                        attachWaits := false }

/-- R9, R94: the entry to ATTACHING and its request. -/
def enterAttaching (s : State) : State :=
  let s1 := gotoState .attaching s
  match s.ext.state with
  | .parked => takeAttach s1
  | .opening => s1.setExt { s1.ext with attachWaits := true }
  | .jammed => report .extOpenTimeout s1
  | _ => s1

/-- R98: the plan allows fallback. -/
def State.fallback (s : State) : Bool :=
  match s.extPlan with
  | none => false
  | some p => p.fallback

/-- R9, R98: an attach event, after the unit has entered OPENING. -/
def attachEvent (kind : ExtEventKind) (code : Nat) (cause : FaultCause) (s : State) : State :=
  if s.seq.state == .attaching then
    if s.fallback then enterClaiming (pushNotice (.extEvent kind code) s) else report cause s
  else s

/-- An attach that fails: OPENING and the attach event. -/
def failAttach (kind : ExtEventKind) (code : Nat) (cause : FaultCause) (s : State) : State :=
  attachEvent kind code cause (s.setExt s.ext.opening)

/-! ## The arm-closed line -/

/-- R95: the line found high in CLOSING. -/
def seatFound (s : State) : State :=
  if s.ext.state == .closing then
    s.setExt { s.ext with state := .ident, closeTimer := none, identTimer := some 0, shift := none }
  else s

/-- R96, R99, R105: the line found low. -/
def seatLost (s : State) : State :=
  match s.ext.state with
  | .ident | .settling => failAttach .idFault 0 .extIdFault s
  | .measuring => switchover .idFault s
  | _ => s

/-- R110, R94: the arm-open line found high in OPENING. -/
def armOut (s : State) : State :=
  if s.ext.state == .opening then
    let s1 := s.setExt { s.ext with state := .parked, openTimer := none }
    if s.ext.attachWaits then takeAttach s1 else s1
  else s

/-! ## Timeouts -/

/-- R95. -/
def closeExpired (s : State) : State :=
  if s.ext.state == .closing then failAttach .closeTimeout 0 .extCloseTimeout s else s

/-- R96. -/
def identExpired (s : State) : State :=
  if s.ext.state == .ident then failAttach .idFault 0 .extIdFault s else s

/-- R110, R93: JAMMED, and the local fault once CONFIG has said that an extensometer is fitted. A waiting request is
discarded (R94). -/
def openExpired (s : State) : State :=
  if s.ext.state == .opening then
    let s1 := s.setExt { s.ext with state := .jammed, openTimer := none, attachWaits := false }
    match s.start.config with
    | some c => if c.extFitted then report .extOpenTimeout s1 else s1
    | none => s1
  else s

/-! ## Identification and settling -/

/-- R96: the start edge of a word, which edges during the shift do not restart. -/
def identStart (s : State) : State :=
  if s.ext.state == .ident && s.ext.shift.isNone then s.setExt { s.ext with shift := some 0 } else s

/-- The gauge code that the plan expects. -/
def State.expectedGauge (s : State) : Nat :=
  match s.extPlan with
  | none => 0
  | some p => p.gauge

/-- R97: the gauge code is 0, 6 or 7, or the travel is 0. -/
def IdRec.unusable (i : IdRec) : Bool := i.code == 0 || i.code == 6 || i.code == 7 || i.travel == 0

/-- R97: the record is written and made valid. -/
def writeIdRec (w : BitVec 32) (s : State) : State := s.setExt { s.ext with idRec := some (identFields w) }

/-- R99: SETTLING is entered. -/
def enterSettling (s : State) : State :=
  s.setExt { s.ext with state := .settling, identTimer := none, shift := none, strainCount := 0 }

/-- R97: the examination of a word. -/
def examineWord (w : BitVec 32) (s : State) : State :=
  if s.ext.state == .ident && s.ext.shift.isSome then
    if !identCheckGood w then failAttach .idFault 0 .extIdFault s
    else if (identFields w).unusable then failAttach .idFault 0 .extIdFault (writeIdRec w s)
    else if (identFields w).code ≠ s.expectedGauge then
      failAttach .gaugeMismatch (identFields w).code .extGaugeMismatch (writeIdRec w s)
    else enterSettling (writeIdRec w s)
  else s

/-- R99: the unit has received the 16th reading in SETTLING. -/
def settlingDue (s : State) : Bool := s.ext.state == .settling && settleReadings ≤ s.ext.strainCount

/-- R99: MEASURING is entered with the reading of this tick as zero. -/
def enterMeasuring (s : State) : State :=
  s.setExt { s.ext with state := .measuring, zero := some s.ext.lastReading, pair := some (0, s.travel.latched)
                        slip := [] }

/-- R9, R99: the sequencer takes the report of MEASURING. -/
def reportMeasuring (s : State) : State := if s.seq.state == .attaching then enterClaiming s else s

/-- R99. -/
def settled (s : State) : State := if settlingDue s then reportMeasuring (enterMeasuring s) else s

/-! ## The commands -/

def execSettlingComplete (s : State) : Host.Outcome State Fault Refusal := .next (finish s (settled s))

/-- The level that the command reports stands from then on. -/
def State.armClosedLine (high : Bool) (s : State) : State := s.setLines { s.lines with armClosed := high }

def State.armOpenLine (high : Bool) (s : State) : State := s.setLines { s.lines with armOpen := high }

def execArmClosedHigh (s : State) : Host.Outcome State Fault Refusal :=
  .next (finish s (seatFound (s.armClosedLine true)))

def execArmClosedLow (s : State) : Host.Outcome State Fault Refusal :=
  .next (finish s (seatLost (s.armClosedLine false)))

def execArmOpenHigh (s : State) : Host.Outcome State Fault Refusal :=
  .next (finish s (armOut (s.armOpenLine true)))

def execIdentStartBit (s : State) : Host.Outcome State Fault Refusal := .next (finish s (identStart s))

def execIdentWord (word : BitVec 32) (s : State) : Host.Outcome State Fault Refusal :=
  .next (finish s (examineWord word s))

def execExtCloseTimeout (s : State) : Host.Outcome State Fault Refusal := .next (finish s (closeExpired s))

def execIdentTimeout (s : State) : Host.Outcome State Fault Refusal := .next (finish s (identExpired s))

def execExtOpenTimeout (s : State) : Host.Outcome State Fault Refusal := .next (finish s (openExpired s))

end Sys2Proof.Machine
end

