-- ==== Sys2Proof/Machine/Load.lean ====
section
/-! DEFINITION. The load channel (R73 to R91): a reading becomes a sample record, the range decisions, the tare, the
overload check and the detectors. -/

namespace Sys2Proof.Machine

/-! ## Ranges -/

/-- R78: a saturated reading on range 2, 3 or 4. -/
def saturatedNarrow (l : LoadCh) (reading : Int) : Bool := l.range != .r1 && saturated reading

/-- R78, R80: the sample is HELD. A saturated reading on range 1 while the range settles is HELD as every settle sample
is (assumption 69). -/
def sampleHeld (l : LoadCh) (reading : Int) : Bool := l.settling || saturatedNarrow l reading

/-- R77: the range that a sample that is not HELD decides upon in AUTO. -/
def rangeUp (capacity : Nat) (l : LoadCh) (gross : Int) : Option LoadRange :=
  if l.rangeMode = .auto && aboveRangeUp capacity l.range gross then l.range.wider else none

/-- R79: the range-down count after a sample that is not HELD in AUTO; 32 is kept until it is acted on. -/
def downCountAfter (capacity : Nat) (l : LoadCh) (gross : Int) : Nat :=
  match l.range.narrower with
  | none => 0
  | some n => if belowRangeDown capacity n gross then min rangeDownCount (l.downCount + 1) else 0

/-- R78: FIXED gives its range up for range 1. -/
def RangeMode.afterSaturation : RangeMode → RangeMode
  | .auto => .auto
  | .fixed _ => .fixed .r1

/-- R77 to R80: what a reading does to the range. -/
def LoadCh.decideRange (l : LoadCh) (capacity : Nat) (configured : Bool) (gross reading : Int) : LoadCh :=
  if !configured then l
  else if saturatedNarrow l reading then
    { l with pendingRange := some .r1, rangeMode := l.rangeMode.afterSaturation, downCount := 0 }
  else if l.settling || l.rangeMode != .auto then l
  else
    match rangeUp capacity l gross with
    | some w => { l with pendingRange := some w, downCount := 0 }
    | none => { l with downCount := downCountAfter capacity l gross }

/-- R79: RANGE_DOWN, once the count has reached 32. -/
def rangeDown (s : State) : State :=
  if s.load.rangeMode = .auto && rangeDownCount ≤ s.load.downCount then
    match s.load.range.narrower with
    | none => s
    | some n => s.setLoad { s.load with pendingRange := some n, downCount := 0 }
  else s

/-- R80: the settling ends once the count has fallen to zero. -/
def rangeSettled (s : State) : State :=
  if s.load.settling && s.load.settleCount = 0 then s.setLoad { s.load with settling := false } else s

/-- R80, R82: a decided range takes effect at a tick and discards what a tare attempt has collected. -/
def LoadCh.takeRange (l : LoadCh) : LoadCh :=
  match l.pendingRange with
  | none => l
  | some r =>
    { l with range := r, pendingRange := none, settleCount := rangeSettleSamples, settling := true, downCount := 0,
             tare := l.tare.map fun t => { t with loads := [] } }

/-- R76: an order's range mode. A fixed range cancels a change that is decided and not yet in effect (assumption 48).
-/
def LoadCh.takeRangeMode (l : LoadCh) (m : RangeMode) : LoadCh :=
  match m with
  | .auto => { l with rangeMode := .auto, downCount := 0 }
  | .fixed r =>
    { l with rangeMode := .fixed r, downCount := 0, pendingRange := if l.range = r then none else some r }

/-! ## Tare -/

/-- R82: an accepted sample joins the attempt. -/
def Tare.join (t : Tare) (gross : Int) : Tare :=
  if t.loads.length < tareSamples then { t with loads := t.loads ++ [gross] } else t

/-- R82: the largest and the smallest load of an attempt differ by no more than 0.2 % of the capacity. -/
def tareStable (capacity : Nat) (loads : List Int) : Bool :=
  match loads.max?, loads.min? with
  | some hi, some lo => decide ((hi - lo) * 1000 ≤ 2 * capacity)
  | _, _ => false

/-- R83: the mean of the 16 loads, rounded toward zero. -/
def tareMean (loads : List Int) : Int := loads.sum.tdiv tareSamples

/-- R8: the success report. -/
def tareSucceeded (offset : Int) (s : State) : State :=
  let s1 := s.setLoad { s.load with tareOffset := offset, tare := none }
  if s.extPlan.isSome then enterAttaching s1 else enterClaiming s1

/-- R8: a low grips line that waited for the report is taken if the sequencer is still TARING. -/
def takeGripsLow (s : State) : State :=
  if s.seq.state == .taring && s.seq.gripsLowWaits then dropGrips s else s

/-- The attempt in progress has its 16 loads and waits for its judgment (R83). -/
def LoadCh.attemptFull (l : LoadCh) : Bool :=
  match l.tare with
  | none => false
  | some t => t.loads.length == tareSamples

/-- R83: the sample that has filled the attempt is followed by its judgment. -/
def judgmentDue (s : State) : Bool := s.seq.state == .taring && s.load.attemptFull

/-- R83: the attempt in progress is the fourth and unstable. -/
def tareFails (s : State) : Bool :=
  match s.load.tare with
  | none => false
  | some t => decide (tareAttempts ≤ t.attempt) && !tareStable s.loadCapacity t.loads

/-- R83: the attempt in progress is stable. -/
def tareHolds (s : State) : Bool :=
  match s.load.tare with
  | none => false
  | some t => tareStable s.loadCapacity t.loads

/-- R8: a low grips line of the tick of a sample that brings no judgment, as a HELD one, has no report to wait for. -/
def takeGripsUnreported (s : State) : State := if s.load.attemptFull then s else takeGripsLow s

/-- R83: the judgment of an attempt. -/
def judgeTare (t : Tare) (s : State) : State :=
  if tareStable s.loadCapacity t.loads then tareSucceeded (tareMean t.loads) s
  else if t.attempt < tareAttempts then
    s.setLoad { s.load with tare := some { attempt := t.attempt + 1, loads := [] } }
  else report .tareUnstable s

/-- R83: TARE_ATTEMPT_JUDGED, once 16 loads are in. -/
def tareJudged (s : State) : State :=
  match s.load.tare with
  | none => s
  | some t =>
    if s.seq.state == .taring && t.loads.length = tareSamples then takeGripsLow (judgeTare t s) else s

def execRangeDown (s : State) : Host.Outcome State Fault Refusal := .next (finish s (rangeDown s))

def execRangeSettleEnd (s : State) : Host.Outcome State Fault Refusal := .next (finish s (rangeSettled s))

def execTareAttemptJudged (s : State) : Host.Outcome State Fault Refusal := .next (finish s (tareJudged s))

/-! ## The detectors (R86 to R91) -/

/-- R88: the arm fraction, R89: the break drop fraction, of the order held. -/
def State.armFraction (s : State) : Nat :=
  match s.seq.order with
  | none => 0
  | some o => o.armFraction

def State.dropFraction (s : State) : Nat :=
  match s.seq.order with
  | none => 0
  | some o => o.dropFraction

def State.yieldPlan (s : State) : Option YieldPlan := s.seq.order.bind fun o => o.yieldPlan

/-- R86: an accepted sample in the open span. -/
def inSpan (s : State) (held : Bool) : Bool := !held && s.load.spanOpen && !s.isFollow

/-- R86: the sample is examined for break and yield. -/
def detectorsRun (s : State) (held : Bool) : Bool :=
  inSpan s held && (s.seq.state == .running || s.seq.state == .held)

/-- The load is at or below a drop level of the peak (R89, R90). -/
def droppedBy (peak : Option Peak) (fraction : Nat) (load : Int) : Bool :=
  match peak with
  | none => false
  | some p => decide (load ≤ dropLevel p.load fraction)

/-- R89: the break is found on the sample. -/
def breakOn (s : State) (held : Bool) (load : Int) : Bool :=
  detectorsRun s held && s.load.breakArmed && !s.load.breakFound && droppedBy s.load.peak s.dropFraction load

/-- R90: what the search finds on a sample. -/
inductive YieldStep | nothing | limit | found | broken
  deriving DecidableEq, Repr

/-- R90, R91. -/
def yieldOn (s : State) (held : Bool) (load strain : Int) : YieldStep :=
  match s.yieldPlan with
  | none => .nothing
  | some y =>
    if !detectorsRun s held || s.load.yieldSearch != .searching then .nothing
    else if y.strainLimit < strain then .limit
    else if breakOn s held load then .broken
    else if s.load.breakArmed && droppedBy s.load.peak y.drop load then .found
    else .nothing

/-- R91: the search after the sample. -/
def YieldSearch.after (y : YieldSearch) : YieldStep → YieldSearch
  | .nothing => y
  | .limit | .broken => .ended
  | .found => .found

/-- R87: the sample becomes the peak. -/
def newPeak (s : State) (held : Bool) (load : Int) : Bool :=
  inSpan s held &&
    match s.load.peak with
    | none => true
    | some p => decide (p.load < load)

/-- R86 to R90: the detector state after the sample. -/
def LoadCh.detected (l : LoadCh) (s : State) (r : SampleRec) (y : YieldStep) : LoadCh :=
  { l with
    peak := if newPeak s r.held r.load then some { load := r.load, position := r.position, strain := r.strain }
      else l.peak
    breakArmed := l.breakArmed || (detectorsRun s r.held && aboveArm s.loadCapacity s.armFraction r.load)
    breakFound := l.breakFound || r.brk
    yieldSearch := l.yieldSearch.after y }

/-- R90: the yield values are those of the peak before the sample. -/
def TestRecord.withYield (t : TestRecord) (peak : Option Peak) : TestRecord :=
  match peak with
  | none => t
  | some p => { t with yieldPart := some (p.load, p.strain) }

/-- R87, R89, R90, R109: what the sample writes into the test record. -/
def TestRecord.detected (t : TestRecord) (s : State) (r : SampleRec) : TestRecord :=
  let t1 := if newPeak s r.held r.load then
      { t with maxLoad := r.load, posAtMax := r.position, strainAtMax := r.strain } else t
  let t2 := if r.yieldFlag then t1.withYield s.load.peak else t1
  if r.brk then
    { t2 with breakPart := some (r.strain, r.position)
              extOnAtBreak := s.ext.state != .absent && s.ext.state != .parked }
  else t2

/-! ## The sample record (R74) -/

/-- R73: the net load of a gross load, 0 before CONFIG. -/
def netLoad (s : State) (gross : Int) : Int :=
  if s.configured then clamp32 (gross - s.load.tareOffset) else 0

/-- R74: the load carried over on a HELD sample. -/
def State.carriedLoad (s : State) : Int :=
  match s.load.last with
  | none => 0
  | some r => r.load

/-- R74: the strain of the sample and its EXT flag. -/
def sampleStrain (s : State) (strainReading : Option Int) : Int × Bool :=
  match strainReading with
  | some v =>
    if s.ext.state == .measuring then (s.ext.strainOf v, true) else (s.crossheadStrain s.travel.latched, false)
  | none => (s.crossheadStrain s.travel.latched, false)

/-- R74: the record of a FOLLOW station carries index and position; the other fields stand at zero (assumption 8). -/
def followRecord (s : State) : SampleRec :=
  { index := s.load.nextIndex, load := 0, position := s.travel.latched, strain := 0, phase := 0, ext := false,
    held := false, hold := false, yieldFlag := false, brk := false }

/-- R74: the record of the sample from its load and strain. -/
def sampleRecord (s : State) (held : Bool) (load : Int) (strain : Int × Bool) : SampleRec :=
  if s.isFollow then followRecord s
  else
    { index := s.load.nextIndex, load, position := s.travel.latched, strain := strain.1, phase := s.seq.phase,
      ext := strain.2, held, hold := s.seq.state == .held,
      yieldFlag := yieldOn s held load strain.1 == .found, brk := breakOn s held load }

/-- R85: the check of a conversion. -/
def overloadFires (s : State) (gross reading : Int) : Bool :=
  s.load.overCheck && inOverload s gross reading && !s.load.overPrev

/-- R82: the tare's part in a sample. -/
def tareAfter (l : LoadCh) (held : Bool) (gross : Int) : Option Tare :=
  if held then l.tare else l.tare.map fun t => t.join gross

/-- What a completed load reading amounts to: gross load, whether the sample is HELD, the load it carries, its
record and what the yield search finds. -/
structure LoadView where
  reading : Int
  gross : Int
  held : Bool
  load : Int
  record : SampleRec
  yieldStep : YieldStep
  deriving DecidableEq, Repr

/-- R73, R74: a load reading is worked into the sample. -/
def loadView (reading : Int) (strainReading : Option Int) (s : State) : LoadView :=
  let gross := grossLoad s.loadCapacity s.load.range (clampReading reading)
  let held := sampleHeld s.load (clampReading reading)
  let load := if held then s.carriedLoad else netLoad s gross
  let strain := sampleStrain s strainReading
  { reading := clampReading reading, gross, held, load, record := sampleRecord s held load strain,
    yieldStep := if s.isFollow then .nothing else yieldOn s held load strain.1 }

/-- R73 to R91: the load channel after the sample. -/
def LoadCh.completed (s : State) (v : LoadView) : LoadCh :=
  let l := s.load.decideRange s.loadCapacity s.configured v.gross v.reading
  let l1 := { l with
    conv := .idle
    convTimer := 0
    reading := none
    nextIndex := l.nextIndex + 1
    last := some v.record
    statusLoad := v.load
    settleCount := l.settleCount - 1
    tare := tareAfter l v.held v.gross
    overPrev := s.load.overCheck && inOverload s v.gross v.reading }
  if s.isFollow then l1 else l1.detected s v.record v.yieldStep

/-- R89, R90: the notices of the detectors. -/
def detectorNotices (r : SampleRec) (s : State) : State :=
  let s1 := if r.yieldFlag then pushNotice .yieldFound s else s
  if r.brk then pushNotice .breakFound s1 else s1

/-- R73 to R91: the load channel completes a sample. -/
def completeLoad (v : LoadView) (s : State) : State :=
  let s1 := s.setLoad (LoadCh.completed s v)
  detectorNotices v.record
    (if s.isFollow then s1 else writeRecord (fun t => t.detected s v.record) s1)

end Sys2Proof.Machine
end

