-- ==== Sys2Proof/Machine/Travel.lean ====
section
/-! DEFINITION. The travel unit (R28 to R51): the counter and the measure unit, the rate regulator, the limit stage,
the checks of the travel map, and the drive port. -/

namespace Sys2Proof.Machine

/-! ## The measure unit -/

/-- R31, R32: `us` microseconds of the reference pass; a timer that stops in PERIOD gives standstill. -/
def Travel.advance (t : Travel) (us : Nat) : Travel :=
  let n := min periodStop (t.periodTimer + us)
  if n = periodStop ∧ t.measure = .period then { t with periodTimer := n, standstill := true, velocity := 0 }
  else { t with periodTimer := n }

/-- R30: the velocity of a gate. -/
def gateVelocity (sum : Int) (durationUs : Nat) : Int := (sum * 1000000).tdiv durationUs

/-- R30, R32: the sum of a closed gate gives a velocity and decides the mode. -/
def Travel.closeGate (t : Travel) (sum : Int) (durationUs : Nat) : Travel :=
  if 16 ≤ sum.natAbs then
    { t with gateDue := none, velocity := gateVelocity sum durationUs, standstill := false }
  else if t.periodTimer = periodStop then
    { t with gateDue := none, measure := .period, gateOpen := false, gateTicks := 0, gateSum := 0, velocity := 0,
             standstill := true }
  else
    { t with gateDue := none, measure := .period, gateOpen := false, gateTicks := 0, gateSum := 0,
             velocity := gateVelocity sum durationUs, standstill := false }

/-- R30: GATE_CLOSE, while a closed gate waits to be worked. -/
def gateClose (s : State) : State :=
  match s.travel.gateDue with
  | none => s
  | some sum => s.setTravel (s.travel.closeGate sum s.gateDurationUs)

/-- R30: what a sample tick does to the gate. The closing tick opens the next gate. -/
def Travel.tickGate (t : Travel) (length : Nat) : Travel :=
  match t.measure with
  | .period => t
  | .gate =>
    if !t.gateOpen then { t with gateOpen := true, gateTicks := 0, gateSum := 0 }
    else if length ≤ t.gateTicks + 1 then { t with gateTicks := 0, gateSum := 0, gateDue := some t.gateSum }
    else { t with gateTicks := t.gateTicks + 1 }

/-- The sign of a count (R28). -/
def countSign (up : Bool) : Int := if up then 1 else -1

/-- R28: the counter after a count; a signed 32-bit quantity that wraps. -/
def countMoves (c : Word32) (up : Bool) : Word32 := if up then c + 1 else c - 1

/-- R31: the velocity of a period; a period of 0 counts as 1 µs. -/
def periodVelocity (period : Nat) (up : Bool) : Int := ((1000000 / max 1 period : Nat) : Int) * countSign up

/-- R31: a count in PERIOD, at the value `t.periodTimer` of the timer. -/
def Travel.periodCount (t : Travel) (up : Bool) (durationUs : Nat) : Travel :=
  if t.periodTimer = periodStop then t
  else if 16 * t.periodTimer ≤ durationUs then
    { t with velocity := periodVelocity t.periodTimer up, standstill := false, measure := .gate, gateOpen := false,
             gateTicks := 0, gateSum := 0 }
  else { t with velocity := periodVelocity t.periodTimer up, standstill := false }

/-- R28, R30, R31: one count, on a timer brought up to date. -/
def Travel.count (t : Travel) (up : Bool) (durationUs : Nat) : Travel :=
  let t1 :=
    match t.measure with
    | .gate => if t.gateOpen then { t with gateSum := t.gateSum + countSign up } else t
    | .period => t.periodCount up durationUs
  { t1 with counter := countMoves t.counter up, periodTimer := 0 }

/-- R28, R31: a count that arrives `us` microseconds after the timer was last brought up to date. -/
def encoderCount (up : Bool) (us : Nat) (s : State) : State :=
  s.setTravel ((s.travel.advance us).count up s.gateDurationUs)

/-- R32: the timer stops. -/
def periodStopped (s : State) : State := s.setTravel (s.travel.advance periodStop)

def execGateClose (s : State) : Host.Outcome State Fault Refusal := .next (finish s (gateClose s))

def execEncoderCount (up : Bool) (us : Nat) (s : State) : Host.Outcome State Fault Refusal :=
  .next (finish s (encoderCount up us s))

def execPeriodTimerStop (s : State) : Host.Outcome State Fault Refusal := .next (finish s (periodStopped s))

/-! ## The demand request (R37, R43) -/

/-- A request: the mode with the values that mode needs. -/
inductive Request where
  | zero
  | xhRate (target : Int) (limit : Nat)
  | loadRate (target : Int) (step limit : Nat)
  | strainRate (target : Int) (step limit : Nat)
  | hold (limit : Nat)
  | ret (goal : Int) (limit : Nat)
  | direct (value : Int)
  deriving DecidableEq, Repr

/-- Table 2-3. -/
def Request.mode : Request → RegMode
  | .zero => .zero
  | .xhRate _ _ => .xhRate
  | .loadRate _ _ _ => .loadRate
  | .strainRate _ _ _ => .strainRate
  | .hold _ => .hold
  | .ret _ _ => .ret
  | .direct _ => .direct

/-- R44, step 1: the mode limit. -/
def Request.limit : Request → Option Nat
  | .zero | .direct _ => none
  | .xhRate _ l | .loadRate _ _ l | .strainRate _ _ l | .hold l | .ret _ l => some l

/-- R5: the request of a phase. -/
def Phase.request (p : Phase) : Request :=
  match p.mode with
  | .xhRate => .xhRate p.target p.rateLimit
  | .loadRate => .loadRate p.target p.step p.rateLimit
  | .strainRate => .strainRate p.target p.step p.rateLimit
  | .hold => .hold p.rateLimit

/-- R43: the lead's demand plus the trim. -/
def State.directValue (s : State) : Int :=
  match s.pair.mirror with
  | none => s.pair.trim
  | some m => m.demand + s.pair.trim

/-- Table 1-3, R21, R43, R64: the request of the state that the owning sequencer is in. -/
def demandRequest (s : State) : Request :=
  if s.isFollow then
    if s.follow.state == .following then .direct s.directValue else .zero
  else
    match s.seq.state with
    | .running =>
      match s.curPhase with
      | none => .zero
      | some p => p.request
    | .returning =>
      match s.seq.order.bind fun o => o.returnPlan with
      | none => .zero
      | some r => if s.holdsShare r.share then .ret r.position r.rate else .zero
    | _ => .zero

/-! ## The rate regulator -/

/-- R39: the measured rate of a window, per second, with the sample period in tenths of a millisecond. -/
def measuredRate (w : List (Int × Word32)) (period : Nat) : Int :=
  if w.length < windowLength then 0
  else
    match w.head?, w.getLast? with
    | some o, some n => ((n.1 - o.1) * 10000).tdiv ((n.2 - o.2).toNat * period)
    | _, _ => 0

/-- R40. -/
def stepToward (value target rate : Int) (step : Nat) : Int :=
  if rate < target then value + step else if target < rate then value - step else value

/-- R41: the positioning law. -/
def positioning (goal pos : Int) (limit : Nat) : Int :=
  if nearGoal goal pos then 0 else clampMag limit (10 * (goal - pos))

/-- R39: what a sample adds to the rate window; a HELD sample adds nothing in LOAD_RATE. -/
def windowAfter (w : List (Int × Word32)) (q : Request) (r : SampleRec) : List (Int × Word32) :=
  match q with
  | .loadRate _ _ _ => if r.held then w else pushWindow w (r.load, r.index)
  | .strainRate _ _ _ => pushWindow w (r.strain, r.index)
  | _ => w

/-- R38 to R43: the regulator value of the sample before the limit stage, from the value carried and the window that
the sample has joined. -/
def regulate (t : Travel) (q : Request) (w : List (Int × Word32)) (period : Nat) (r : SampleRec) : Int :=
  match q with
  | .zero => t.regValue
  | .xhRate target _ => target
  | .loadRate target step _ => if r.held then t.regValue else stepToward t.regValue target (measuredRate w period) step
  | .strainRate target step _ => stepToward t.regValue target (measuredRate w period) step
  | .hold limit => positioning t.holdPosition r.position limit
  | .ret goal limit => positioning goal r.position limit
  | .direct value => value

/-- R44: the three clamps. -/
def limitStage (q : Request) (zone : Option Zone) (v : Int) : Int :=
  let v1 := match q.limit with | none => v | some l => clampMag l v
  let v2 := match zone with | none => v1 | some z => clampMag z.speedCap v1
  clampMag portLimit v2

/-- R37 to R46: what the sample does to the regulator and the drive port. A ZERO request keeps value and window; a
forced sample keeps the value and empties the window. -/
def regulateSample (q : Request) (r : SampleRec) (s : State) : State :=
  if forced s then s.setTravel { s.travel with regMode := q.mode, window := [], applied := 0 }
  else if q = .zero then s.setTravel { s.travel with regMode := .zero, applied := 0 }
  else
    let w := windowAfter s.travel.window q r
    let v := limitStage q (zoneInForce s.zones r.position) (regulate s.travel q w s.period r)
    s.setTravel { s.travel with regMode := q.mode, window := w, regValue := v, applied := v }

/-! ## The checks of the travel map -/

/-- R36: the regulator value that the check sees; a ZERO request counts as zero (assumption 11). -/
def requestedValue (s : State) (q : Request) (r : SampleRec) : Int :=
  match q with
  | .zero => 0
  | q => regulate s.travel q (windowAfter s.travel.window q r) s.period r

/-- R36. -/
def movesUnmapped (s : State) (q : Request) (r : SampleRec) : Bool :=
  requestedValue s q r != 0 || s.travel.appliedAtTick != 0
    || (if s.isFollow then s.follow.state == .following
        else s.seq.state == .running || s.seq.state == .returning)

/-- R35, R36: the fault that the zone in force, or its absence, gives on the sample. -/
def zoneFault (s : State) (q : Request) (r : SampleRec) : Option FaultCause :=
  match zoneInForce s.zones r.position with
  | some z => if z.permits s.moveKind then none else some .zoneForbidden
  | none => if movesUnmapped s q r then some .travelUnmapped else none

/-- R35: the zone in force at the position does not permit the movement kind. -/
def zoneForbids (s : State) (pos : Int) : Bool :=
  match zoneInForce s.zones pos with
  | none => false
  | some z => !z.permits s.moveKind

/-- R51: the drive port at a CLEAR or a RESTART. -/
def releasePort (s : State) : State :=
  if s.travel.tripped then
    if s.lines.ampFault then report .driveFault s
    else s.setTravel { s.travel with tripped := false, applied := 0 }
  else s

/-- R50: the drive port at a tick. -/
def examineAmplifier (s : State) : State :=
  if s.start.intervalEnded && !s.start.strapFault && !s.travel.tripped && s.lines.ampFault then
    report .driveFault (s.setTravel { s.travel with tripped := true, applied := 0 })
  else s

end Sys2Proof.Machine
end

