-- ==== Sys2Proof/Machine/StartUp.lean ====
section
/-! DEFINITION. The start-up unit (R172 to R178): power-on reset, the end of the start interval, and CONFIG. -/

namespace Sys2Proof.Machine

/-- R172: every block at its reset value and the strap word examined. The line levels, the waiting commands and the
count of open choices are not the part's to reset. -/
def powerOn (strap : BitVec 16) (s : State) : State :=
  (((State.reset.setStart (examineStrap strap)).setLines s.lines).setPending s.pending).setFree s.free

/-- R150, R159: at the end of the start interval a low line sets the latch. -/
def latchIfLow (s : State) : State := if s.lines.stopLow then setLatch s else s

/-- R53, R130, R174: the interval ends once. A low line sets the latch before the first STATUS is built
(assumption 70). -/
def startIntervalEnd (lines : Lines) (s : State) : State :=
  let s0 := s.setLines lines
  match s.start.intervalTimer with
  | none => s0
  | some _ =>
    let s1 := s0.setStart { s.start with intervalTimer := none, intervalEnded := true }
    let s2 := latchIfLow (s1.setPair { s.pair with levelRun := s.start.role != .solo })
    placeStatus (s2.setLink { s2.link with statusTimer := some 0 })

/-! ## CONFIG (R177) -/

/-- R29, R33: the counter is preset, and in GATE the open gate is discarded. -/
def Travel.configure (t : Travel) (c : Settings) : Travel :=
  let t1 := { t with counter := BitVec.ofNat 32 c.startPosition }
  match t.measure with
  | .gate => { t1 with gateOpen := false, gateTicks := 0, gateSum := 0 }
  | .period => t1

/-- R93: no extensometer fitted. -/
def Ext.configure (e : Ext) (c : Settings) : Ext :=
  if c.extFitted then e
  else
    { e with state := .absent, closeTimer := none, identTimer := none, openTimer := none, shift := none,
             attachWaits := false }

/-- R76: the range mode that CONFIG gives the role. -/
def configuredRangeMode (s : State) : RangeMode := if s.isFollow then .fixed .r1 else .auto

/-- R5, R64: the sequencer of the station's role enters IDLE. -/
def sequencerToIdle (s : State) : State :=
  if s.isFollow then s.setFollow { state := .idle, share := 0, asked := 0, lossSamples := 0 } else gotoState .idle s

/-- R177: the whole set is written, and each block takes its part. A gate that has closed under the old duration is
worked first (assumption 32). A STATUS due and not yet placed is not placed (assumption 61). -/
def acceptConfig (c : Settings) (s : State) : State :=
  let s1 := gateClose s
  let s2 := s1.setTravel (s1.travel.configure c)
  let s3 := s2.setStart { s2.start with config := some c }
  let s4 := s3.setClock { s3.clock with sampleTimer := 0 }
  let s5 := s4.setBudget { s4.budget with coldTimer := if s4.budget.inStep then s4.budget.coldTimer else some 0 }
  let s6 := s5.setLink { s5.link with statusTimer := s5.link.statusTimer.map fun _ => 0 }
  let s7 := s6.setLoad { s6.load with rangeMode := configuredRangeMode s6, downCount := 0 }
  let s8 := s7.setExt (s7.ext.configure c)
  pushNotice .configAccepted (sequencerToIdle s8)

/-- R176, R178: CONFIG addressed to the station. -/
def takeConfig (payload : List Byte) (s : State) : State :=
  if s.configured then pushNotice (.configRefused .alreadyConfigured) s
  else
    match parseConfig payload with
    | .error field => pushNotice (.configRefused (.badConfig field)) s
    | .ok c => acceptConfig c s

def execPowerOnReset (strap : BitVec 16) (s : State) : Host.Outcome State Fault Refusal :=
  .next (finish s (powerOn strap s))

def execStartIntervalEnd (lines : Lines) (s : State) : Host.Outcome State Fault Refusal :=
  .next (finish s (startIntervalEnd lines s))

end Sys2Proof.Machine
end

