-- ==== Sys2Proof/Machine/Received.lean ====
section
/-! DEFINITION. Received frames (R125 to R127, R132) and the commands of the cell computer: ORDER, ABORT, CLEAR,
RESTART, RECLAIM and CONFIG. -/

namespace Sys2Proof.Machine

/-! ## The header examination (R125) -/

/-- R125, R129, R135: a valid frame makes its sender present, has its header judged, and is dispatched. -/
def dispatchFrame (f : RxFrame) (act : State → State) (s : State) : State :=
  act (judgeHeader f.epoch f.inStep (s.setLink (s.link.present f.sender.toNat)))

/-- R125, R132: the rows of the header examination for a class that the station knows. -/
def examineHeader (f : RxFrame) (act : State → State) (s : State) : State :=
  if f.sender = 15 then s
  else if f.sender.toNat = s.start.number then report .duplicateNumber s
  else dispatchFrame f act s

/-- R114, R115, R173: a good frame ends. A station that is SENDING or waits for an idle line takes none, and a
station in STRAP_FAULT judges none. -/
def receive (f : RxFrame) (act : State → State) (s : State) : State :=
  if s.link.takes then
    let s1 := s.setLink s.link.endReception
    if s.start.strapFault then s1 else examineHeader f act s1
  else s

/-- R126: the sender is a station. -/
def fromStation (f : RxFrame) : Bool := f.sender != 0

/-- R127: a command of the cell computer to this station. -/
def toOwn (f : RxFrame) (s : State) : Bool := f.sender == 0 && f.dest.toNat == s.start.number

/-- R127: a command of the cell computer to this station or to all. -/
def toOwnOrAll (f : RxFrame) (s : State) : Bool :=
  f.sender == 0 && (f.dest.toNat == s.start.number || f.dest == 15)

/-! ## Frames of stations (R126) -/

/-- R141, R180: a GRANT whose payload length is not 2 is not dispatched. -/
def grantAct (f : RxFrame) (s : State) : State :=
  match f.payload with
  | [units, _] => if fromStation f then hearGrant f.sender.toNat units.toNat f.epoch s else s
  | _ => s

/-- R55: the frame shows the other role of the pair. -/
def otherRole (s : State) (m : Level) : Bool :=
  (s.start.role == .lead && m.role == .follow) || (s.start.role == .follow && m.role == .lead)

/-- R55, R180. -/
def levelAct (f : RxFrame) (s : State) : State :=
  match parseLevel f.payload with
  | none => s
  | some m =>
    if fromStation f && f.sender.toNat == s.start.partner && otherRole s m then takeLevel m s else s

/-- R144: the capacity of a STATUS differs from the station's own. -/
def capacityDiffers (v : StatusView) (s : State) : Bool := s.configured && v.capacity != 0 && v.capacity != s.capacity

/-- R143: an in-step STATUS is offered for recovery. -/
def offeredForRecovery (v : StatusView) (s : State) : Bool :=
  !s.budget.inStep && (!s.configured || v.capacity == s.capacity)

/-- R133, R143, R144, R181. -/
def statusAct (f : RxFrame) (s : State) : State :=
  match parseStatus f.payload with
  | none => s
  | some v =>
    if capacityDiffers v s then report .configMismatch s
    else
      match v.entries with
      | none => s
      | some entries => if offeredForRecovery v s then recover entries v.epoch s else s

/-! ## ORDER (R2 to R4) -/

/-- R2: the refusal that the station's role and state give. -/
def orderRefusal (s : State) : Option OrderRefusal :=
  if s.isFollow then some .notLead
  else if s.seq.state != .idle && s.seq.state != .done then some .busy
  else if !s.start.intervalEnded || s.stop.latch || s.stop.locked then some .busy
  else none

/-- R4: the sequencer's own part of an acceptance. -/
def Seq.acceptOrder (q : Seq) (o : Order) (position : Int) : Seq :=
  { q.goto .armed with
    order := some o, phase := 0, phaseBegun := false, phaseTime := 0, holdCount := 0, testZero := position,
    returnCancelled := false }

/-- R4, R63, R76, R86, R107, R166, R167. -/
def acceptOrder (o : Order) (s : State) : State :=
  let s1 := (s.setSeq (s.seq.acceptOrder o s.lastPosition)).setTestRec (some (TestRecord.fresh o.testId))
  let s2 := (s1.setRecorder s1.recorder.fresh).setLink
    { s1.link with curve := none
                   inFlight := s1.link.disown fun f => match f with | .curve _ => true | _ => false }
  let s3 := s2.setLoad { (s2.load.takeRangeMode o.rangeMode).spanReset with tare := none }
  let s4 := (s3.setExt { s3.ext with offset := 0 }).setPair { s3.pair with joined := false, runCount := 0 }
  pushNotice (.orderAccepted o.testId) s4

/-- R3: the order of a payload that passes every content check. -/
def State.orderOf (s : State) (payload : List Byte) : Option Order :=
  s.start.config.bind fun c => acceptableOrder c payload

/-- R2. -/
def takeOrder (payload : List Byte) (s : State) : State :=
  match orderRefusal s with
  | some reason => pushNotice (.orderRefused reason) s
  | none =>
    match s.orderOf payload with
    | none => pushNotice (.orderRefused .badOrder) s
    | some o => acceptOrder o s

/-! ## ABORT (R18) -/

/-- R18: the states that an ABORT takes to ENDING with outcome ABORTED. -/
def SeqState.abortable : SeqState → Bool
  | .armed | .taring | .attaching | .claiming | .running | .held => true
  | _ => false

/-- R18: the test sequencer's answer. -/
def abortTest (s : State) : State :=
  if s.isFollow then s
  else if s.seq.state.abortable then enterEnding .aborted .abort (abandonTare s)
  else if s.seq.state = .returning then
    enterEnding .broken .abort (s.setSeq { s.seq with returnCancelled := true })
  else s

/-! ## CLEAR (R156, R157) -/

/-- R156: the stop and fault unit's part. -/
def clearStop (s : State) : State :=
  let s1 := s.setStop { s.stop with record := none, further := 0, driving := false }
  if s.lines.stopLow then pushNotice .clearRefused (setLatch s1) else s1.setStop { s1.stop with latch := false }

/-- R25, R68: the sequencer of the role enters IDLE when the latch is clear and the record unlocked. -/
def clearSequencer (s : State) : State :=
  if s.stop.latch || s.stop.locked then s
  else if s.isFollow then
    (if s.follow.state == .stopped || s.follow.state == .faulted then restFollow s else s)
  else if s.seq.state == .stopped || s.seq.state == .faulted then enterIdle s else s

/-- R111: a jammed arm found out is PARKED. -/
def freeArm (s : State) : State :=
  if s.ext.state == .jammed && s.lines.armOpen then s.setExt { s.ext with state := .parked } else s

/-- R60, R85, R157: the overload check and the skew limit check begin afresh. -/
def freshChecks (s : State) : State :=
  (s.setLoad { s.load with overPrev := false }).setPair { s.pair with overLimit := false }

/-- R113, R156, R157: the blocks in the order of R127. A CLEAR that finds the extensometer unit MEASURING keeps it
there, and with it strain source EXT (assumption 60). -/
def clearStation (s : State) : State := releasePort (freshChecks (freeArm (clearSequencer (clearStop s))))

/-! ## RESTART (R128) -/

/-- R124, R128, R170, R171: the link unit's part. The frame of a notice, a RESULT or a CURVE in flight is disowned. -/
def Link.restart (l : Link) : Link :=
  { l with
    grant := none, level := none, status := none, result := none, curve := none, notices := [], lost := 0,
    errCheck := 0, errLength := 0, errShort := 0
    inFlight := l.disown fun f => match f with | .notice _ | .result _ | .curve _ => true | _ => false }

/-- R72, R76, R85: the load channel's part beside the entry to IDLE. On range 1 a change that is decided and not yet in
effect is cancelled (assumption 63). -/
def LoadCh.restart (l : LoadCh) (mode : RangeMode) : LoadCh :=
  { l.spanReset with
    conv := .idle, convTimer := 0, reading := none, rangeMode := mode
    pendingRange := if l.range = .r1 then none else some .r1
    downCount := 0, tare := none, overPrev := false }

/-- R108, R111, R113: the extensometer unit's part. -/
def Ext.restart (e : Ext) (armOpen : Bool) : Ext :=
  let e1 := { e with idRec := none, zero := none, pair := none, slip := [], offset := 0, attachWaits := false }
  match e.state with
  | .closing | .ident | .settling | .measuring => e1.opening
  | .jammed => if armOpen then { e1 with state := .parked } else e1
  | _ => e1

/-- R27, R68: the sequencer of the role enters IDLE. -/
def restartSequencer (s : State) : State :=
  if s.isFollow then restFollow s
  else
    let s1 := enterIdle s
    (s1.setSeq { s1.seq with holdCount := 0 }).setTestRec none

/-- R37, R59, R60, R63: the travel unit's and the pair unit's part. -/
def restartMotion (s : State) : State :=
  (restRegulator s).setPair { s.pair with alarmed := false, overLimit := false, joined := false, runCount := 0 }

/-- R72: the position latched at the tick of a discarded pair is discarded with it, and the position of the latest
completed sample stands until the next tick (assumption 49). -/
def dropPair (s : State) : State :=
  if s.load.conv = .idle then s else s.setTravel { s.travel with latched := s.lastPosition }

/-- R27, R51, R68, R72, R108, R128, R147, R158, R171: a RESTART of a configured station. The drive port acts last, when
the sequencer rests in IDLE (assumption 68). -/
def restartStation (s : State) : State :=
  let s1 := (s.setLink s.link.restart).setStop { s.stop with record := none, further := 0 }
  let s2 := s1.setExt (s1.ext.restart s1.lines.armOpen)
  let s3 := restartMotion (restartSequencer (dropPair s2))
  let s4 := (s3.setRecorder Recorder.reset).setLoad (s3.load.restart (configuredRangeMode s3))
  releasePort (requestUnits 0 .release (clearLock s4))

/-! ## RECLAIM (R142) -/

/-- R142: what the station that is named does besides. -/
def loseUnits (s : State) : State :=
  let moving := s.moveKind != .none
  let s1 := dropGrant (s.setBudget { s.budget with requested := 0, reason := .release })
  let s2 := s1.setFollow { s1.follow with asked := 0 }
  if moving then report .budgetRevoked s2 else s2

/-- R142: a RECLAIM naming node `n`. -/
def reclaimNode (n : Nat) (epoch : Byte) (s : State) : State :=
  if 1 ≤ n ∧ n ≤ 14 then
    let s1 := clearLock (applyEntry n 0 epoch s)
    if n = s.start.number then loseUnits s1 else rejudge s1
  else s

/-! ## The command frames (R127, R183) -/

def stopAct (s : State) : State := setLatch s

def configAct (f : RxFrame) (s : State) : State := if toOwn f s then takeConfig f.payload s else s

def orderAct (f : RxFrame) (s : State) : State := if toOwn f s then takeOrder f.payload s else s

def abortAct (f : RxFrame) (s : State) : State := if toOwnOrAll f s && f.payload.isEmpty then abortTest s else s

def clearAct (f : RxFrame) (s : State) : State := if toOwnOrAll f s && f.payload.isEmpty then clearStation s else s

def restartAct (f : RxFrame) (s : State) : State :=
  if toOwn f s && f.payload.isEmpty && s.configured then restartStation s else s

def reclaimAct (f : RxFrame) (s : State) : State :=
  match f.payload with
  | [n] => if f.sender = 0 then reclaimNode n.toNat f.epoch s else s
  | _ => s

/-- R125: a class code that the station knows. -/
def knownClass (cls : Byte) : Bool := 1 ≤ cls.toNat && cls.toNat ≤ 13

/-- R125, R126: a frame whose content the station does not use. One of an unknown class is discarded whole. -/
def reportFrame (cls : Byte) (f : RxFrame) (s : State) : State :=
  if knownClass cls then receive f id s
  else if s.link.takes then s.setLink s.link.endReception else s

/-- R150: the falling edge, with the level that other devices give the line after it. -/
def stopLineFall (othersLow : Bool) (s : State) : State := setLatch (s.setLines { s.lines with stopLow := othersLow })

def execGrantFrame (f : RxFrame) (s : State) : Host.Outcome State Fault Refusal :=
  .next (finish s (receive f (grantAct f) s))

def execLevelFrame (f : RxFrame) (s : State) : Host.Outcome State Fault Refusal :=
  .next (finish s (receive f (levelAct f) s))

def execStopFrame (f : RxFrame) (s : State) : Host.Outcome State Fault Refusal :=
  .next (finish s (receive f stopAct s))

def execStatusFrame (f : RxFrame) (s : State) : Host.Outcome State Fault Refusal :=
  .next (finish s (receive f (statusAct f) s))

def execReportFrame (cls : Byte) (f : RxFrame) (s : State) : Host.Outcome State Fault Refusal :=
  .next (finish s (reportFrame cls f s))

def execConfig (f : RxFrame) (s : State) : Host.Outcome State Fault Refusal :=
  .next (finish s (receive f (configAct f) s))

def execOrder (f : RxFrame) (s : State) : Host.Outcome State Fault Refusal :=
  .next (finish s (receive f (orderAct f) s))

def execAbort (f : RxFrame) (s : State) : Host.Outcome State Fault Refusal :=
  .next (finish s (receive f (abortAct f) s))

def execClear (f : RxFrame) (lines : Lines) (s : State) : Host.Outcome State Fault Refusal :=
  .next (finish s (receive f (clearAct f) (s.setLines lines)))

def execRestart (f : RxFrame) (lines : Lines) (s : State) : Host.Outcome State Fault Refusal :=
  .next (finish s (receive f (restartAct f) (s.setLines lines)))

def execReclaim (f : RxFrame) (s : State) : Host.Outcome State Fault Refusal :=
  .next (finish s (receive f (reclaimAct f) s))

def execStopLineFall (othersLow : Bool) (s : State) : Host.Outcome State Fault Refusal :=
  .next (finish s (stopLineFall othersLow s))

end Sys2Proof.Machine
end

