-- ==== Sys2Proof/Machine/Phases.lean ====
section
/-! DEFINITION. The test sequencer's handling of a sample (R10 to R21) and its own timeouts. -/

namespace Sys2Proof.Machine

/-! ## Phases -/

/-- R39: the window is kept only from a phase of the same mode. -/
def State.windowKept (s : State) (p : Phase) : Bool :=
  match s.seq.order.bind fun o => o.phaseAt (s.seq.phase - 1) with
  | none => false
  | some q => q.mode == p.mode

/-- R39, R41, R42: the regulator takes a phase that begins. -/
def beginRegulator (p : Phase) (r : SampleRec) (s : State) : State :=
  s.setTravel { s.travel with
    regValue := if s.seq.phase = 1 then 0 else s.travel.regValue
    window := if s.windowKept p then s.travel.window else []
    holdPosition := if p.mode = .hold then r.position else s.travel.holdPosition }

/-- R12: one sample period more of the phase. -/
def advancePhase (s : State) : State :=
  s.setSeq { s.seq with phaseTime := s.seq.phaseTime + s.period }

/-- R16: the entry to HELD with the causes present. -/
def enterHeld (causes : HoldCauses) (s : State) : State :=
  let s1 := gotoState .held s
  pushNotice (.holdBegun causes)
    (writeRecord (fun t => { t with holdCount := s.seq.holdCount + 1 })
      (s1.setSeq { s1.seq with holdCount := s.seq.holdCount + 1 }))

/-- R12, steps 4 and 5. -/
def holdOrAdvance (s : State) : State :=
  if (holdCauses s).any then enterHeld (holdCauses s) s else advancePhase s

/-- R14, R17, R63, R160: the entry to RUNNING; the first of a test starts the running count. -/
def enterRunning (s : State) : State :=
  let s1 := gotoState .running s
  ((s1.setSeq { s1.seq with runSamples := 1 }).setRecorder { s.recorder with runBegun := true }).setPair
    { s.pair with runCount := if s.recorder.runBegun then s.pair.runCount else 1 }

/-- R86: the test span opens for the samples after the one on which phase 1 begins. -/
def openSpan (s : State) : State :=
  s.setLoad { s.load with
    spanOpen := true
    yieldSearch := if (s.seq.order.bind fun o => o.yieldPlan).isSome then .searching else .inactive }

/-- R11: the current phase begins on this sample. -/
def beginPhase (r : SampleRec) (s : State) : State :=
  match s.curPhase with
  | none => s
  | some p =>
    let s1 := s.setSeq { s.seq with phaseTime := 0, refValue := endQuantity s p.endKind r, phaseBegun := true }
    let s2 := beginRegulator p r (pushNotice (.phaseBegun s.seq.phase) s1)
    holdOrAdvance (if p.source = .xh then removeArm s2 else s2)

/-- R10: the claim is satisfied, and phase 1 begins. -/
def startPhaseOne (r : SampleRec) (s : State) : State :=
  let s1 := enterRunning s
  beginPhase r (openSpan (s1.setSeq { s1.seq with phase := 1, testZero := r.position }))

/-- R14: phase `k` is made current. -/
def makeCurrent (k : Nat) (s : State) : State :=
  s.setSeq { s.seq with phase := k, phaseBegun := false }

/-- R14, R136: what follows the end of a phase. Every change of phase requests the new share, an equal one too. -/
def nextPhase (r : SampleRec) (s : State) : State :=
  let k := s.seq.phase + 1
  match s.seq.order.bind fun o => o.phaseAt k with
  | none => enterEnding .ended .testEnd s
  | some p =>
    let s1 := requestUnits p.share .phase (makeCurrent k s)
    if s.holdsShare p.share then beginPhase r (enterRunning s1) else enterHeld (holdCauses s1) s1

/-- R12, step 3: the plan removes the extensometer at the end of the phase that has ended. -/
def removesAtEnd (s : State) : Bool :=
  match s.extPlan with
  | none => false
  | some p => p.removal == .atPhaseEnd && p.value == s.seq.phase

/-- R12, R13: the current phase's end condition is met. -/
def phaseEnds (s : State) (r : SampleRec) (searchEnded : Bool) : Bool :=
  match s.curPhase with
  | none => false
  | some p => endMet s p r searchEnded

/-! ## The end of a test -/

/-- R21: the return move on one sample. The shortfall faults on the sample on which the wait reaches the timeout
(assumption 14). -/
def returnStep (r : SampleRec) (s : State) : State :=
  match s.seq.order.bind fun o => o.returnPlan with
  | none => s
  | some p =>
    if s.holdsShare p.share then (if nearGoal p.position r.position then enterDone s else s)
    else if decide (s.holdTimeout ≤ s.elapsed) && decide (s.elapsed < s.holdTimeout + s.period) then
      s.setSeq { s.seq with due := some .budget }
    else s

/-- R20, R21: the entry to RETURNING. -/
def enterReturning (r : SampleRec) (s : State) : State :=
  returnStep r (requestUnits s.returnShare .ret (openArm .testEnd (gotoState .returning s)))

/-- R20. -/
def returnWanted (s : State) : Bool :=
  s.provisional == .broken && (s.seq.order.bind fun o => o.returnPlan).isSome && !s.seq.returnCancelled

/-- R19, R20: ENDING on a sample. -/
def endingStep (r : SampleRec) (s : State) : State :=
  if s.travel.standstill then (if returnWanted s then enterReturning r s else enterDone s)
  else if s.holdTimeout ≤ s.elapsed then s.setSeq { s.seq with due := some .ending }
  else s

/-- R19: ENDING is entered on a sample, and left on it when standstill is already reported. -/
def endOnSample (outcome : TestOutcome) (r : SampleRec) (s : State) : State :=
  let s1 := enterEnding outcome .testEnd s
  if s1.travel.standstill then endingStep r s1 else s1

/-- R12, step 2: the end of a phase on a sample, the removal of step 3 first. -/
def endPhase (r : SampleRec) (s : State) : State :=
  let s1 := if removesAtEnd s then removeArm s else s
  let s2 := nextPhase r s1
  if s2.seq.state = .ending then (if s2.travel.standstill then endingStep r s2 else s2) else s2

/-! ## The states -/

/-- R10: CLAIMING on a sample after the entry sample. -/
def claimingSample (r : SampleRec) (s : State) : State :=
  if s.holdsShare (s.shareOf 1) then startPhaseOne r s
  else if s.holdTimeout ≤ s.elapsed then s.setSeq { s.seq with due := some .budget }
  else s

/-- R12. -/
def runningSample (r : SampleRec) (searchEnded : Bool) (s : State) : State :=
  if r.brk then endOnSample .broken r s
  else if phaseEnds s r searchEnded then endPhase r s
  else holdOrAdvance s

/-- R17, step 2: the hold ends; a phase that has not begun begins. -/
def resume (r : SampleRec) (s : State) : State :=
  let s1 := enterRunning (pushNotice .holdEnded s)
  if s.seq.phaseBegun then s1 else beginPhase r s1

/-- R17. -/
def heldSample (r : SampleRec) (s : State) : State :=
  if r.brk then endOnSample .broken r s
  else if !(holdCauses s).any then resume r s
  else if s.holdTimeout ≤ s.elapsed then s.setSeq { s.seq with due := some .hold }
  else s

/-- R10, R15: one more sample handled in the state. -/
def countSample (s : State) : State :=
  s.setSeq { s.seq with
    stateSamples := s.seq.stateSamples + 1
    runSamples := if s.seq.state = .running then s.seq.runSamples + 1 else s.seq.runSamples }

/-- R5: the test sequencer handles a sample according to its state. -/
def handleSample (r : SampleRec) (searchEnded : Bool) (s : State) : State :=
  let s1 := countSample s
  match s.seq.state with
  | .claiming => claimingSample r s1
  | .running => runningSample r searchEnded s1
  | .held => heldSample r s1
  | .ending => endingStep r s1
  | .returning => returnStep r s1
  | _ => s1

/-! ## The timeouts -/

/-- R154: the timeout that the handling of this sample has found reached and that no command has taken yet. -/
def dueCause (s : State) : Option FaultCause :=
  match s.seq.state, s.seq.due with
  | .held, some .hold | .ending, some .ending => some .holdTimeout
  | .claiming, some .budget | .returning, some .budget => some .budgetTimeout
  | _, _ => none

/-- R17. -/
def holdExpired (s : State) : State :=
  if s.seq.state == .held && s.seq.due == some .hold then report .holdTimeout s else s

/-- R10, R21. -/
def budgetExpired (s : State) : State :=
  if (s.seq.state == .claiming || s.seq.state == .returning) && s.seq.due == some .budget then
    report .budgetTimeout s
  else s

/-- R19. -/
def endingExpired (s : State) : State :=
  if s.seq.state == .ending && s.seq.due == some .ending then report .holdTimeout s else s

/-- R7: the sequencer enters TARING. -/
def gripsQualified (s : State) : State :=
  if s.seq.state == .armed && gripsTicks ≤ s.seq.gripsCount then enterTaring s else s

def execHoldTimeout (s : State) : Host.Outcome State Fault Refusal := .next (finish s (holdExpired s))

def execBudgetTimeout (s : State) : Host.Outcome State Fault Refusal := .next (finish s (budgetExpired s))

def execEndingTimeout (s : State) : Host.Outcome State Fault Refusal := .next (finish s (endingExpired s))

def execGripsQualified (s : State) : Host.Outcome State Fault Refusal := .next (finish s (gripsQualified s))

end Sys2Proof.Machine
end

