-- ==== Sys2Proof/Machine/Samples.lean ====
section
/-! DEFINITION. The conversions and what a completed sample does in every block (R70, R71, R74), in one fixed order
but for the orders that the rules leave open (assumption 1, assumption 17). -/

namespace Sys2Proof.Machine

/-- R100: the last measured pair is that of a sample whose record carries extensometer strain. -/
def takeMeasured (r : SampleRec) (s : State) : State :=
  if r.ext then s.setExt { s.ext with pair := some (r.strain, r.position) } else s

/-- R101: the examination and the sequencer's handling, in the order that the bit gives. -/
def handleBoth (extFirst : Bool) (v : ExtView) (r : SampleRec) (searchEnded : Bool) (s : State) : State :=
  if extFirst then handleSample r searchEnded (examineSample v r s)
  else examineSample v r (handleSample r searchEnded s)

/-- R101: a sample completed while MEASURING goes to both blocks in either order; another goes to the sequencer
alone. -/
def deliverSample (v : ExtView) (r : SampleRec) (searchEnded : Bool) (s : State) : State :=
  if r.ext then
    let (extFirst, s1) := s.draw
    handleBoth extFirst v r searchEnded s1
  else handleSample r searchEnded s

/-- The partner shows a state that R62 or R63 may act on, to a lead whose sequencer acts on the sample. In the other
states the order of the two shows in nothing but the count of samples in the state. -/
def partnerSuspect (s : State) : Bool :=
  s.start.role == .lead && !s.pair.lost && s.seq.state.actsOnSample &&
    match s.pair.mirror with
    | none => false
    | some m => m.state == .stopped || m.state == .faulted || m.state == .idle || m.state == .unconfigured

/-- R154: a cause takes an open place among those of the same instant. -/
def drawPlace (c : FaultCause) : List FaultCause → State → List FaultCause × State
  | [], s => ([c], s)
  | d :: ds, s =>
    if s.draw.1 then (c :: d :: ds, s.draw.2)
    else (d :: (drawPlace c ds s.draw.2).1, (drawPlace c ds s.draw.2).2)

/-- R154: causes found at one instant, in an open order. -/
def drawOrder : List FaultCause → State → List FaultCause × State
  | [], s => ([], s)
  | c :: cs, s => drawPlace c (drawOrder cs s).1 (drawOrder cs s).2

/-- R154: the reports of causes found at one instant, in any order. -/
def reportFound (cs : List FaultCause) (s : State) : State :=
  (drawOrder cs s).1.foldl (fun t c => report c t) (drawOrder cs s).2

/-- R60: the check that has run remembers its outcome. -/
def rememberSkew (s : State) : State :=
  if skewChecked s then s.setPair { s.pair with overLimit := skewBeyond s } else s

/-- R60: the fault that the skew limit check finds. -/
def skewFault (s : State) : List FaultCause := if skewFires s then [.skewLimit] else []

/-! ## The sample on which CLAIMING is entered (R6, R35, R60) -/

/-- R35, R60: the faults that the latest sample gives to the movement kind of the state. -/
def claimFaults (s : State) : List FaultCause :=
  skewFault s ++ if zoneForbids s s.lastPosition then [.zoneForbidden] else []

/-- R35, R60: a report of the sequencer's neighbours is taken on a sample; where it takes the sequencer to CLAIMING,
that sample is checked with kind TEST (assumption 59). -/
def claimChecked (act : State → State) (s : State) : State :=
  let t := act s
  if s.seq.state != .claiming && t.seq.state == .claiming then reportFound (claimFaults t) (rememberSkew t) else t

/-- R8, R9, R99: the sample has brought a report that takes the sequencer to CLAIMING. -/
def claimDue (s : State) : Bool :=
  (s.seq.state == .attaching && settlingDue s) || (judgmentDue s && s.extPlan.isNone && tareHolds s)

/-- R35, R60: the faults of the sample on which the sequencer is to enter CLAIMING. -/
def entryFaults (s : State) : List FaultCause :=
  if claimDue s then claimFaults (s.setSeq { s.seq with state := .claiming }) else []

/-! ## The reports of one sample -/

/-- R84, R154: one report of a sample is taken. TARE_UNSTABLE stands for the judgment of the tare. Once another report
has abandoned the attempt it is judged no more, and only a failure still reaches the record (assumption 57). -/
def takeReport (failed : Bool) (s : State) (c : FaultCause) : State :=
  if c = .tareUnstable then
    if judgmentDue s then claimChecked tareJudged s else if failed then report .tareUnstable s else s
  else report c s

/-- R154: these reports, one after the other. -/
def reportAll (failed : Bool) (cs : List FaultCause) (s : State) : State := cs.foldl (takeReport failed) s

/-- R35, R36, R60: the faults that the skew limit check and the travel map find on one sample. -/
def movementFaults (s : State) (q : Request) (r : SampleRec) : List FaultCause :=
  skewFault s ++ (zoneFault s q r).toList

/-- R35: a test that is CLAIMING lies in a zone that does not permit TEST. -/
def claimForbidden (s : State) (r : SampleRec) : Bool :=
  !s.isFollow && s.seq.state == .claiming && zoneForbids s r.position

/-- R35, R62, R63: the faults found before the sequencer's handling. A CLAIMING test in a forbidden zone faults before
it starts (assumption 59). -/
def firstFaults (checked : Bool) (s : State) (r : SampleRec) : List FaultCause :=
  if claimForbidden s r then .zoneForbidden :: (partnerCause s).toList
  else if checked then (partnerCause s).toList else []

/-- R35, R60, R62, R63: the checks before the sequencer's handling. What they find is reported with the fault of the
skew limit check, in an open order (assumption 56). -/
def checkFirst (checked : Bool) (r : SampleRec) (s : State) : State :=
  if (firstFaults checked s r).isEmpty then s
  else reportFound (firstFaults checked s r ++ skewFault s) (rememberSkew s)

/-- R62, R63: whether the partner checks come before the sequencer's handling, which is open (assumption 1). -/
def drawCheck (s : State) : Bool × State := if partnerSuspect s then s.draw else (false, s)

/-- R35, R62, R63, R101: the delivery on a test station, with the partner checks before it or not yet made. -/
def testSample (checked : Bool) (v : ExtView) (r : SampleRec) (searchEnded : Bool) (s : State) : State :=
  deliverSample v r searchEnded (checkFirst checked r s)

/-- R35, R36, R60, R62, R63: the faults of one sample that are found after the handling, but for a timeout. -/
def laterFaults (checked : Bool) (s : State) (q : Request) (r : SampleRec) : List FaultCause :=
  (if checked then [] else (partnerCause s).toList) ++ movementFaults s q r

/-- R154: the faults to report on one sample before OVERLOAD. A timeout that the handling has found joins those of the
same sample; alone it waits for its own command (assumptions 9 and 53). -/
def sampleFaults (checked overload : Bool) (s : State) (q : Request) (r : SampleRec) : List FaultCause :=
  if overload || !(laterFaults checked s q r).isEmpty then (dueCause s).toList ++ laterFaults checked s q r else []

/-- R85: the fault that the overload check finds. -/
def overloadFault (overload : Bool) : List FaultCause := if overload then [.overload] else []

/-- R84, R85, R154: the reports of one sample in the order in which they are taken. OVERLOAD comes after the others,
but the judgment of a tare, which R84 leaves open, takes any place. Alone it waits for its own command (assumption 9),
but where its success leads to a fault of the same sample. -/
def sampleReports (checked overload : Bool) (s : State) (q : Request) (r : SampleRec) : List FaultCause × State :=
  let found := drawOrder (sampleFaults checked overload s q r) s
  let all := found.1 ++ overloadFault overload
  if judgmentDue s && (!all.isEmpty || !(entryFaults s).isEmpty) then
    drawPlace .tareUnstable all found.2
  else (all, found.2)

/-- R99, R154: a unit that has entered MEASURING reports it among these faults of the same sample, before the first or
after the last (assumption 62). -/
def reportSettled (failed : Bool) (cs : List FaultCause) (s : State) : State :=
  if cs.isEmpty then claimChecked reportMeasuring s
  else if s.draw.1 then reportAll failed cs (claimChecked reportMeasuring s.draw.2)
  else claimChecked reportMeasuring (reportAll failed cs s.draw.2)

/-- R85, R99: the reports of a sample before OVERLOAD. On a sample that has any fault, a unit that has received its
16th reading enters MEASURING before they are taken; alone it waits for its own command (assumption 9). -/
def reportEarly (failed faulty : Bool) (cs : List FaultCause) (s : State) : State :=
  if faulty && settlingDue s then reportSettled failed cs (enterMeasuring s) else reportAll failed cs s

/-- R35 to R46, R60, R85: the skew limit check, the travel map and the demand, from the state that the handling of the
sample left (assumption 19). OVERLOAD is reported after the regulator has acted on the sample. -/
def moveSample (checked overload : Bool) (r : SampleRec) (s : State) : State :=
  let q := demandRequest s
  let reports := sampleReports checked overload s q r
  let early := reports.1.takeWhile (· ≠ .overload)
  let late := reports.1.dropWhile (· ≠ .overload)
  let faulty := !reports.1.isEmpty || !(entryFaults s).isEmpty
  reportAll (tareFails s) late (regulateSample q r (reportEarly (tareFails s) faulty early (rememberSkew reports.2)))

/-- R5, R62 to R67, R101: the sequencer of the station's role handles the sample, and on a test station the blocks
that act beside it. -/
def handSample (checked : Bool) (v : ExtView) (r : SampleRec) (searchEnded : Bool) (s : State) : State :=
  if s.isFollow then followSample s else testSample checked v r searchEnded (takeGripsUnreported s)

/-- R74, R85: a sample is completed and delivered, and its faults are reported. The overload check of its load
conversion is made here, at the completion, on a tick with a strain conversion too (assumption 65). -/
def completeSample (reading : Int) (strain : Option Int) (s : State) : State :=
  let v := loadView reading strain s
  let x : ExtView := { reading := strain.getD 0, peak := s.load.peak, inSpan := s.load.spanOpen }
  let s1 := pairSample v.record (offerSample v.record (takeMeasured v.record (completeLoad v s)))
  let check := drawCheck s1
  moveSample check.1 (overloadFires s v.gross v.reading) v.record
    (handSample check.1 x v.record (v.yieldStep == .limit) check.2)

/-- R70, R71: the end of the load conversion. -/
def loadConversionEnd (reading : Int) (s : State) : State :=
  if s.load.conv = .acquiringLoad ∨ s.load.conv = .convertingLoad then
    if s.ext.state.asksStrain then
      s.setLoad { s.load with conv := .acquiringStrain, convTimer := 0, reading := some reading }
    else completeSample reading none s
  else s

/-- R99: a reading received in SETTLING is counted. -/
def countSettling (reading : Int) (s : State) : State :=
  if s.ext.state == .settling then
    s.setExt { s.ext with strainCount := s.ext.strainCount + 1, lastReading := reading }
  else s

/-- R70, R99, R100: the end of the strain conversion. -/
def strainConversionEnd (reading : Int) (s : State) : State :=
  if s.load.conv = .acquiringStrain ∨ s.load.conv = .convertingStrain then
    match s.load.reading with
    | none => s
    | some loadReading =>
      completeSample loadReading (some (clampReading reading)) (countSettling (clampReading reading) s)
  else s

def execLoadConversionEnd (reading : Int) (s : State) : Host.Outcome State Fault Refusal :=
  .next (finish s (loadConversionEnd reading s))

def execStrainConversionEnd (reading : Int) (s : State) : Host.Outcome State Fault Refusal :=
  .next (finish s (strainConversionEnd reading s))

end Sys2Proof.Machine
end

