-- ==== Sys2Proof/Machine/Tick.lean ====
section
/-! DEFINITION. The sample tick (R70), the steps it finds overdue (assumption 5), and the passing of one bit time
while no command waits (assumption 3). -/

namespace Sys2Proof.Machine

/-! ## Overdue steps -/

/-- A step that is taken at a tick because its command has not come, with the port obeying the forcing conditions. -/
def takeStep (due : Bool) (act : State → State) (s : State) : State := if due then forceZero (act s) else s

/-- A timer in bit times has reached its limit. -/
def overdue (t : Option Nat) (limit : Nat) : Bool := timerReached t limit

/-- R174, R95, R96, R110: the timers that count bit times. -/
def settleTimers (s : State) : State :=
  let s1 := takeStep (overdue s.start.intervalTimer startIntervalBits) (fun s => startIntervalEnd s.lines s) s
  let s2 := takeStep (overdue s1.ext.closeTimer armLimitBits) closeExpired s1
  let s3 := takeStep (overdue s2.ext.identTimer identLimitBits) identExpired s2
  takeStep (overdue s3.ext.openTimer armLimitBits) openExpired s3

/-- R95, R105, R110: the arm lines as last reported. -/
def settleLines (s : State) : State :=
  let s1 := takeStep s.lines.armClosed seatFound s
  let s2 := takeStep (!s1.lines.armClosed) seatLost s1
  takeStep s2.lines.armOpen armOut s2

/-- R129: every member whose age has passed the timeout leaves. -/
def dropMembers (s : State) : State := (List.range 15).foldl (fun s n => dropMember n s) s

/-- R83, R99, R8: what the last sample left to judge. -/
def settleSample (s : State) : State :=
  takeStep true (fun s => settled (takeGripsLow (tareJudged (rangeDown (rangeSettled s))))) s

/-- R10, R17, R19, R67: the timeouts that the last sample found. -/
def settleTimeouts (s : State) : State :=
  takeStep true (fun s => followLossExpired (endingExpired (budgetExpired (holdExpired s)))) s

/-- R7, R30, R53, R61, R130, R145: what the last tick left to take. -/
def settleCounts (s : State) : State :=
  takeStep true (fun s => gripsQualified (coldStartDue (dropMembers (partnerLost (gateClose s))))) s

/-- All of them, in one fixed order (assumption 5). -/
def settleAll (s : State) : State :=
  statusTimer (levelTimer (settleLines (settleTimeouts (settleSample (settleCounts (settleTimers s))))))

/-! ## The tick -/

/-- R28, R30, R36: the travel unit's part: the position is latched, and the gate counts the tick. The demand that R36
asks for is read before a condition of the same tick forces it to zero (assumption 55). -/
def tickTravel (s : State) : State :=
  let t := s.travel.tickGate s.gateLength
  s.setTravel { t with latched := s.travel.counter.toInt, appliedAtTick := s.travel.applied }

/-- R70, R80, R85: a conversion pair starts, on a decided range; an unfinished one is dropped (assumption 23). -/
def tickLoad (s : State) : State :=
  let l := s.load.takeRange
  s.setLoad { l with conv := .acquiringLoad, convTimer := 0, reading := none,
                     overCheck := s.start.intervalEnded && !s.start.strapFault }

/-- R53: the LEVEL timer starts on the first tick after the interval and counts from there. -/
def Pair.tick (p : Pair) : Pair :=
  { p with
    age := succ255 p.age
    levelTimer :=
      match p.levelTimer with
      | some n => some (n + 1)
      | none => if p.levelRun then some 0 else none }

/-- R56, R129, R130, R145: the ages and timers that count ticks. -/
def tickAges (s : State) : State :=
  let s1 := if s.paired then s.setPair s.pair.tick else s
  let s2 := s1.setLink { s1.link.agePresence with statusTimer := s1.link.statusTimer.map (· + 1) }
  s2.setBudget { s2.budget with coldTimer := s2.budget.coldTimer.map (· + 1) }

/-- R8, R84: a low line in TARING. Where the sample of this tick may end the attempt, the report and the line are
taken in either order. -/
def tickTaring (s : State) : State :=
  if s.lines.grips then s
  else
    match s.load.tare with
    | some t =>
      if t.loads.length + 1 = tareSamples then
        let (lineFirst, s1) := s.draw
        if lineFirst then dropGrips s1 else s1.setSeq { s1.seq with gripsLowWaits := true }
      else dropGrips s
    | none => dropGrips s

/-- R7, R8: the grips line. -/
def tickGrips (s : State) : State :=
  match s.seq.state with
  | .armed =>
    s.setSeq { s.seq with gripsCount := if s.lines.grips then min gripsTicks (s.seq.gripsCount + 1) else 0 }
  | .taring => tickTaring s
  | _ => s

/-- R70: what a station in STRAP_FAULT does at a tick, and any other station first. -/
def tickCore (s : State) : State := tickLoad (tickTravel (s.setClock { s.clock with sampleTimer := 0 }))

/-- R70: the sample tick with the levels of the lines; in STRAP_FAULT only the conversions and the counting go on
(R173). A low grips line is taken before the amplifier fault line of the same tick (assumption 58). -/
def sampleTick (lines : Lines) (s : State) : State :=
  let s1 := tickCore ((settleAll s).setLines lines)
  if s1.start.strapFault then s1 else examineAmplifier (forceZero (tickGrips (tickAges s1)))

def execSampleTick (lines : Lines) (s : State) : Host.Outcome State Fault Refusal :=
  .next (finish s (sampleTick lines s))

/-! ## The passing of time -/

/-- One more bit time of a timer that runs, up to its limit. -/
def countBit (limit : Nat) (t : Option Nat) : Option Nat := t.map fun n => min limit (n + 1)

/-- R70, Table 4-1: acquiring turns into converting. -/
def LoadCh.bit (l : LoadCh) : LoadCh :=
  match l.conv with
  | .idle => l
  | .acquiringLoad =>
    if acquireBits ≤ l.convTimer + 1 then { l with conv := .convertingLoad, convTimer := 0 }
    else { l with convTimer := l.convTimer + 1 }
  | .acquiringStrain =>
    if acquireBits ≤ l.convTimer + 1 then { l with conv := .convertingStrain, convTimer := 0 }
    else { l with convTimer := l.convTimer + 1 }
  | .convertingLoad | .convertingStrain => { l with convTimer := min convertBits (l.convTimer + 1) }

/-- R95, R96, R110: the extensometer unit's timers. -/
def Ext.bit (e : Ext) : Ext :=
  { e with
    closeTimer := countBit armLimitBits e.closeTimer
    identTimer := countBit identLimitBits e.identTimer
    openTimer := countBit armLimitBits e.openTimer
    shift := countBit identLimitBits e.shift }

/-- R31: the 1 MHz reference advances once in ten bit times. -/
def bitTravel (s : State) : State :=
  if bitsPerUs ≤ s.clock.usPhase + 1 then
    (s.setTravel (s.travel.advance 1)).setClock { usPhase := 0, sampleTimer := s.clock.sampleTimer + 1 }
  else s.setClock { usPhase := s.clock.usPhase + 1, sampleTimer := s.clock.sampleTimer + 1 }

/-- One bit time passes (assumption 3). -/
def passBitTime (s : State) : State :=
  let s1 := bitTravel s
  let s2 := s1.setStart { s1.start with intervalTimer := countBit startIntervalBits s1.start.intervalTimer }
  let s3 := s2.setLoad s2.load.bit
  let s4 := s3.setExt s3.ext.bit
  if s4.link.line = .quiet then s4.setLink { s4.link with quiet := s4.link.quiet + 1 } else s4

end Sys2Proof.Machine
end

