-- ==== Sys2Proof/Machine/Dispatch.lean ====
section
/-! DEFINITION. The meaning of every command: one arm for each constructor of Instr. -/

namespace Sys2Proof.Machine

def exec (i : Instr) (s : State) : Host.Outcome State Fault Refusal :=
  match i with
  | .powerOnReset strap => Sys2Proof.Machine.execPowerOnReset strap s
  | .startIntervalEnd lines => Sys2Proof.Machine.execStartIntervalEnd lines s
  | .sampleTick lines => Sys2Proof.Machine.execSampleTick lines s
  | .gateClose => Sys2Proof.Machine.execGateClose s
  | .encoderCount up us => Sys2Proof.Machine.execEncoderCount up us s
  | .periodTimerStop => Sys2Proof.Machine.execPeriodTimerStop s
  | .loadConversionEnd reading => Sys2Proof.Machine.execLoadConversionEnd reading s
  | .strainConversionEnd reading => Sys2Proof.Machine.execStrainConversionEnd reading s
  | .rangeDown => Sys2Proof.Machine.execRangeDown s
  | .rangeSettleEnd => Sys2Proof.Machine.execRangeSettleEnd s
  | .tareAttemptJudged => Sys2Proof.Machine.execTareAttemptJudged s
  | .gripsQualified => Sys2Proof.Machine.execGripsQualified s
  | .holdTimeout => Sys2Proof.Machine.execHoldTimeout s
  | .budgetTimeout => Sys2Proof.Machine.execBudgetTimeout s
  | .endingTimeout => Sys2Proof.Machine.execEndingTimeout s
  | .partnerLoss => Sys2Proof.Machine.execPartnerLoss s
  | .followLossTimeout => Sys2Proof.Machine.execFollowLossTimeout s
  | .levelTimer => Sys2Proof.Machine.execLevelTimer s
  | .statusTimer => Sys2Proof.Machine.execStatusTimer s
  | .presenceTimeout node => Sys2Proof.Machine.execPresenceTimeout node s
  | .coldStart => Sys2Proof.Machine.execColdStart s
  | .settlingComplete => Sys2Proof.Machine.execSettlingComplete s
  | .armClosedHigh => Sys2Proof.Machine.execArmClosedHigh s
  | .armClosedLow => Sys2Proof.Machine.execArmClosedLow s
  | .armOpenHigh => Sys2Proof.Machine.execArmOpenHigh s
  | .identWord word => Sys2Proof.Machine.execIdentWord word s
  | .extCloseTimeout => Sys2Proof.Machine.execExtCloseTimeout s
  | .identTimeout => Sys2Proof.Machine.execIdentTimeout s
  | .extOpenTimeout => Sys2Proof.Machine.execExtOpenTimeout s
  | .stopLineFall othersLow => Sys2Proof.Machine.execStopLineFall othersLow s
  | .startBitSensed => Sys2Proof.Machine.execStartBitSensed s
  | .receiveError taken => Sys2Proof.Machine.execReceiveError taken s
  | .grantFrame f => Sys2Proof.Machine.execGrantFrame f s
  | .levelFrame f => Sys2Proof.Machine.execLevelFrame f s
  | .stopFrame f => Sys2Proof.Machine.execStopFrame f s
  | .statusFrame f => Sys2Proof.Machine.execStatusFrame f s
  | .reportFrame cls f => Sys2Proof.Machine.execReportFrame cls f s
  | .config f => Sys2Proof.Machine.execConfig f s
  | .order f => Sys2Proof.Machine.execOrder f s
  | .abort f => Sys2Proof.Machine.execAbort f s
  | .clear f lines => Sys2Proof.Machine.execClear f lines s
  | .restart f lines => Sys2Proof.Machine.execRestart f lines s
  | .reclaim f => Sys2Proof.Machine.execReclaim f s
  | .frameStart quiet => Sys2Proof.Machine.execFrameStart quiet s
  | .frameComplete => Sys2Proof.Machine.execFrameComplete s
  | .frameAbandon => Sys2Proof.Machine.execFrameAbandon s
  | .lineIdle => Sys2Proof.Machine.execLineIdle s
  | .identStartBit => Sys2Proof.Machine.execIdentStartBit s

end Sys2Proof.Machine
end

