-- ==== Sys2Proof/Machine/Step.lean ====
section
/-! DEFINITION. One step: the command at the front of the queue, or the passing of one bit time. -/

namespace Sys2Proof.Machine

/-- The front command is taken with the queue's rest behind it; on an empty queue a bit time passes (assumption 3). -/
def step (s : State) : Host.Outcome State Fault Refusal :=
  match s.pending with
  | [] => .next (passBitTime s)
  | c :: rest => exec c (s.setPending rest)

/-- The command that a word of the table spells is put at the front of the queue; no row of the table has bits. -/
def State.withFetchWord (s : State) (nbits w : Nat) : State :=
  match decodeTableWord nbits w with
  | none => s
  | some c => s.setPending (c :: s.pending)

end Sys2Proof.Machine
end

