-- ==== Sys2Proof/Safety.lean ====
section
/-! DEFINITION. What the statements are about: the predicates of a safe or sound state, and the shapes of the
hypotheses that several statements share. -/

namespace Sys2Proof.Safety

open Sys2Proof.Machine

/-- R45: while a forcing condition is in force, the drive port applies zero. -/
abbrev PortSafe (s : State) : Prop := forced s = true → s.travel.applied = 0

/-- R49: the port applies no more than 20,000 µm/s in either direction. -/
abbrev PortBounded (s : State) : Prop := -20000 ≤ s.travel.applied ∧ s.travel.applied ≤ 20000

/-- R123, R124: the notice queue holds at most 8 notices. -/
abbrev QueueBounded (s : State) : Prop := s.link.notices.length ≤ 8

/-- R162: the indices of the samples of the store rise strictly. -/
def IndicesRise (store : List SampleRec) : Prop := store.Pairwise fun a b => a.index.toNat < b.index.toNat

/-- R162: at most 2048 samples, with strictly rising indices. -/
def StoreSound (s : State) : Prop := s.recorder.store.length ≤ 2048 ∧ IndicesRise s.recorder.store

/-- R133: entry 0 is always 0. -/
abbrev CellEntryZero (s : State) : Prop := s.budget.entry 0 = 0

/-- R164: the samples of a CURVE frame are the oldest of the store. -/
def CarriesOldest (c : Curve) (s : State) : Prop := c.samples <+: s.recorder.store

/-- R164: the CURVE frame in hand, pending or in flight and not disowned, carries the oldest samples, and there is
at most one. -/
def FrameInHand (s : State) : Prop :=
  (∀ c, s.link.curve = some c → CarriesOldest c s ∧ s.link.curveInFlight = false)
    ∧ ∀ i c, s.link.inFlight = some i → i.frame = .curve c → i.disowned = false → CarriesOldest c s

/-- R163: samples sent, samples held and samples lost make the samples offered. -/
abbrev CurveAccount (s : State) : Prop :=
  s.recorder.sent + s.recorder.store.length + s.recorder.lost = s.recorder.offered

/-- R137: the claim lock is set only while a raise of the station's own is pending or in flight. -/
abbrev LockBacked (s : State) : Prop :=
  s.budget.lock = true →
    s.link.pendingRaise = true ∨ ∃ g, s.link.grantInFlight = some g ∧ g.raise = true

/-- R148: until CONFIG no GRANT of the station's own is pending or in flight. -/
abbrev NoGrantBeforeConfig (s : State) : Prop :=
  s.start.config = none → s.link.grant = none ∧ s.link.grantInFlight = none

/-- R114, R120: a frame is in flight exactly while the station is SENDING. -/
abbrev FlightSound (s : State) : Prop := s.link.inFlight.isSome = true ↔ s.link.line = .sending

/-- R73 to R75: the converter waits for the end of the load conversion, and no strain conversion is to follow. -/
abbrev LoadEnds (s : State) : Prop :=
  (s.load.conv = .acquiringLoad ∨ s.load.conv = .convertingLoad) ∧ s.ext.state.asksStrain = false

/-- R70: the converter waits for the end of the strain conversion, with the load reading in hand. -/
abbrev StrainEnds (s : State) : Prop :=
  (s.load.conv = .acquiringStrain ∨ s.load.conv = .convertingStrain) ∧ s.load.reading.isSome = true

/-- R74: the command is the conversion end that completes the sample in this state. -/
abbrev CompletesSample (c : Instr) (s : State) : Prop :=
  (LoadEnds s ∧ ∃ x, c = .loadConversionEnd x) ∨ (StrainEnds s ∧ ∃ x, c = .strainConversionEnd x)

/-- The station is LEAD or SOLO with a good strap word. -/
abbrev TestStation (s : State) : Prop := s.start.strapFault = false ∧ s.start.role ≠ .follow

/-- The station takes the frame: its strap word is good, the line lets it, and the sender is another node of the
cell. -/
abbrev Takes (f : RxFrame) (s : State) : Prop :=
  s.start.strapFault = false ∧ s.link.takes = true ∧ f.sender ≠ 15 ∧ f.sender.toNat ≠ s.start.number

/-- R127: a command frame of the cell computer to this station, with the payload length 0 of ABORT, CLEAR and
RESTART. -/
abbrev Commands (f : RxFrame) (s : State) : Prop :=
  f.sender = 0 ∧ f.dest.toNat = s.start.number ∧ f.payload = []

/-- The commands that a rule names as those that may unlock the record. -/
def Unlocks : Instr → Bool
  | .powerOnReset _ | .clear _ _ | .restart _ _ => true
  | _ => false

/-- The commands that may clear the stop latch (R150). -/
def ClearsLatch : Instr → Bool
  | .powerOnReset _ | .clear _ _ => true
  | _ => false

/-- The next state of an outcome, if it is one. -/
def Next (o : Host.Outcome State Fault Refusal) (p : State → Prop) : Prop := ∃ t, o = .next t ∧ p t

/-! ## Shapes that several statements share -/

/-- The fields of the locked part of a report taken in this state (R152). -/
def LockedBy (cause : FaultCause) (s : State) (r : FaultRec) : Prop :=
  r.cause = cause ∧ r.state = s.ownState ∧ r.phase = s.ownPhase ∧ r.index = s.lastIndex
    ∧ r.position = s.lastPosition ∧ r.load = s.load.statusLoad

/-- R152: a report of this cause in `s` has locked the record, or raised its count, by `t`. -/
def Recorded (cause : FaultCause) (s t : State) : Prop :=
  (s.stop.record = none → t.stop.further = 0 ∧ ∃ r, t.stop.record = some r ∧ LockedBy cause s r)
    ∧ ∀ r, s.stop.record = some r → t.stop.record = some r ∧ t.stop.further = min 255 (s.stop.further + 1)

/-- R26: the test record, if there is one, has this outcome. -/
def Outcome (o : TestOutcome) (t : State) : Prop := ∀ r, t.testRec = some r → r.outcome = some o

/-- R24, R153: a local fault has been reported in a test state, and the test has ended as FAULTED. -/
def EndsFaulted (cause : FaultCause) (s t : State) : Prop :=
  t.seq.state = .faulted ∧ Recorded cause s t ∧ Outcome .faulted t ∧ t.travel.applied = 0 ∧ t.budget.requested = 0

/-- R51: the drive port has stayed TRIPPED over a release and has reported DRIVE_FAULT again. -/
def StaysTripped (t : State) : Prop :=
  t.travel.tripped = true ∧ t.travel.applied = 0 ∧ t.stop.latch = true ∧ t.stop.driving = true ∧ t.stop.further = 0
    ∧ t.link.stop = some .driveFault ∧ ∃ r, t.stop.record = some r ∧ r.cause = .driveFault

/-- R9, R98: an attach has failed: the unit opens the arm, and the sequencer, if it is ATTACHING, goes on without the
extensometer when the plan allows it, and faults when it does not. -/
def AttachFails (kind : ExtEventKind) (code : Nat) (cause : FaultCause) (s t : State) : Prop :=
  t.ext.state = .opening ∧ t.ext.openTimer = some 0
    ∧ (s.seq.state = .attaching → s.fallback = true →
        t.seq.state = .claiming ∧ t.budget.requested = s.shareOf 1 ∧ t.stop = s.stop
          ∧ (s.link.notices.length < 8 →
              t.link.notices = s.link.notices ++ [{ kind := .extEvent kind code, index := s.lastIndex }]))
    ∧ (s.seq.state = .attaching → s.fallback = false → EndsFaulted cause s t)
    ∧ (s.seq.state ≠ .attaching → t.seq = s.seq ∧ t.stop = s.stop)

/-- R23, R68, R150: what the stop latch does to the sequencer of the station's role when it enters SET. -/
def Stops (s t : State) : Prop :=
  t.stop.latch = true ∧ t.travel.applied = 0
    ∧ (s.stop.latch = true → t.seq = s.seq ∧ t.follow = s.follow)
    ∧ (s.stop.latch = false → s.isFollow = false → s.seq.state ≠ .unconfigured → s.seq.state ≠ .idle →
        s.seq.state ≠ .stopped →
        t.seq.state = .stopped ∧ t.budget.requested = 0 ∧ (s.seq.state.isTest = true → Outcome .stopped t))
    ∧ (s.stop.latch = false → s.isFollow = false → s.seq.state = .unconfigured ∨ s.seq.state = .idle →
        t.seq = s.seq)
    ∧ (s.stop.latch = false → s.isFollow = true →
        s.follow.state = .followClaim ∨ s.follow.state = .following ∨ s.follow.state = .held
          ∨ s.follow.state = .faulted →
        t.follow.state = .stopped ∧ t.follow.asked = 0 ∧ t.budget.requested = 0)

/-- The good frame that a command carries, of a class that the station knows. -/
def frameOf : Instr → Option RxFrame
  | .grantFrame f | .levelFrame f | .stopFrame f | .statusFrame f | .config f | .order f | .abort f | .clear f _
  | .restart f _ | .reclaim f => some f
  | .reportFrame cls f => if 1 ≤ cls.toNat ∧ cls.toNat ≤ 13 then some f else none
  | _ => none

/-- R135: the unit is still in step after the judgment of the header. -/
def staysInStep (f : RxFrame) (s : State) : Bool :=
  s.budget.inStep && !(f.inStep && f.epoch != s.budget.epoch)

/-- R141, R142: the epoch of the table after a change that a frame with this header brings. -/
def nextEpoch (f : RxFrame) (s : State) : Byte := (if staysInStep f s then s.budget.epoch else f.epoch) + 1

/-- The table of `t` is that of `s` but for entry `n`, which is `v`. -/
def EntrySet (n v : Nat) (s t : State) : Prop :=
  t.budget.entry n = v ∧ ∀ m, m ≠ n → t.budget.entry m = s.budget.entry m

/-- R125, R129, R135: what a valid frame leaves whose content no block takes. The table and its epoch, what is asked
for and what waits or is in flight stay, but for a raise and its lock that the judgment of the header may withdraw.
The notice queue, the presence list and the line are not spoken of. -/
def HeaderOnly (f : RxFrame) (s t : State) : Prop :=
  t.start = s.start ∧ t.clock = s.clock ∧ t.seq = s.seq ∧ t.testRec = s.testRec ∧ t.follow = s.follow
    ∧ t.travel = (if forced s then { s.travel with applied := 0 } else s.travel)
    ∧ t.pair = s.pair ∧ t.load = s.load ∧ t.ext = s.ext ∧ t.stop = s.stop ∧ t.recorder = s.recorder
    ∧ t.budget.table = s.budget.table ∧ t.budget.epoch = s.budget.epoch ∧ t.budget.inStep = staysInStep f s
    ∧ t.budget.requested = s.budget.requested ∧ t.budget.reason = s.budget.reason
    ∧ t.link.stop = s.link.stop ∧ t.link.level = s.link.level ∧ t.link.result = s.link.result
    ∧ t.link.curve = s.link.curve ∧ t.link.inFlight = s.link.inFlight ∧ t.link.errCheck = s.link.errCheck
    ∧ t.link.errLength = s.link.errLength ∧ t.link.errShort = s.link.errShort
    ∧ t.link.statusTimer = s.link.statusTimer ∧ t.link.status.isSome = s.link.status.isSome
    ∧ (staysInStep f s = s.budget.inStep →
        t.link.status = s.link.status ∧ t.link.grant = s.link.grant ∧ t.budget.lock = s.budget.lock)

/-- The lines that a command reports. -/
def reportedLines (c : Instr) (l : Lines) : Lines :=
  match c with
  | .clear _ new | .restart _ new => new
  | _ => l

/-- R126, R127, R180, R183: a frame of a station, or of the cell computer, that no block takes: a GRANT or LEVEL of the
cell computer, a GRANT of another length, and a command that is not the cell computer's, not for this station, or, of
ABORT, CLEAR and RECLAIM, of another length. -/
def Discards (c : Instr) (f : RxFrame) (s : State) : Prop :=
  (c = .grantFrame f ∧ (f.sender = 0 ∨ f.payload.length ≠ 2))
    ∨ (c = .levelFrame f ∧ f.sender = 0)
    ∨ ((c = .config f ∨ c = .order f) ∧ (f.sender ≠ 0 ∨ f.dest.toNat ≠ s.start.number))
    ∨ ((c = .abort f ∨ ∃ lines, c = .clear f lines)
        ∧ (f.sender ≠ 0 ∨ (f.dest.toNat ≠ s.start.number ∧ f.dest ≠ 15) ∨ f.payload ≠ []))
    ∨ (c = .reclaim f ∧ (f.sender ≠ 0 ∨ f.payload.length ≠ 1))

/-- No step of an earlier instant is overdue (assumption 5). -/
abbrev NothingOverdue (s : State) : Prop := settleAll s = s

/-- R39, R45, R49, R56, R63, R116, R123, R124, R133, R152, R162: the bounds that every step keeps. -/
def Bounded (s : State) : Prop :=
  PortBounded s ∧ QueueBounded s ∧ StoreSound s ∧ CellEntryZero s ∧ s.travel.window.length ≤ 8
    ∧ s.link.errCheck ≤ 255 ∧ s.link.errLength ≤ 255 ∧ s.link.errShort ≤ 255 ∧ s.link.lost ≤ 255
    ∧ s.stop.further ≤ 255 ∧ s.pair.age ≤ 255 ∧ s.pair.runCount ≤ 255

/-- R163, R164: the account of the curve and the frame in hand. -/
def CurveSound (s : State) : Prop := CurveAccount s ∧ FrameInHand s

/-! ## The sample on its way to the sequencer -/

/-- R35, R62, R63, R74, R101: `h` is the state in which a test station has handled the sample that it completed in `s`:
the sequencer's handling, with the partner checks before it or not yet made, and for a sample with extensometer strain
the examination before or after it. -/
def HandledIn (checked ended : Bool) (x : ExtView) (r : SampleRec) (s h : State) : Prop :=
  ∃ n m, let s1 := checkFirst checked r (s.setFree n)
    (r.ext = false ∧ h = handleSample r ended s1)
      ∨ (r.ext = true ∧ (h = handleSample r ended (examineSample x r (s1.setFree m))
          ∨ h = examineSample x r (handleSample r ended (s1.setFree m))))

/-- R101 to R104: what the examination looks at beside the record, from the state at the sample's completion. -/
def viewOf (reading : Int) (s : State) : ExtView := { reading, peak := s.load.peak, inSpan := s.load.spanOpen }

/-- R74: the load channel, the extensometer pair, the store and the pair unit have taken a sample. -/
def takenSample (v : LoadView) (s : State) : State :=
  pairSample v.record (offerSample v.record (takeMeasured v.record (completeLoad v s)))

/-! ## The frames built from the state -/

/-- R6, R54: the fields of a LEVEL frame of this state. -/
def LevelOf (s : State) (m : Level) : Prop :=
  m.position = s.travel.latched
    ∧ (s.isFollow = true → m.role = .follow ∧ m.state = s.follow.state)
    ∧ (s.isFollow = false → m.role = .lead ∧ m.state = s.seq.state ∧ m.phase = s.seq.phase ∧ m.index = s.lastIndex
        ∧ m.demand = (if s.seq.state = .running ∨ s.seq.state = .returning then s.travel.applied else 0)
        ∧ (m.kind = .test ↔ 5 ≤ s.seq.state.code ∧ s.seq.state.code ≤ 8)
        ∧ (m.kind = .ret ↔ s.seq.state = .returning)
        ∧ (m.kind = .none → m.share = 0)
        ∧ (s.seq.state = .claiming → m.share = s.shareOf 1)
        ∧ (s.seq.state = .running ∨ s.seq.state = .held ∨ s.seq.state = .ending → m.share = s.shareOf s.seq.phase)
        ∧ (s.seq.state = .returning → m.share = s.returnShare))

/-- R56, R131, R149: the fields of a STATUS frame of this state. -/
def StatusOf (s : State) (v : Status) : Prop :=
  v.role = s.start.role ∧ (s.isFollow = false → v.state = s.seq.state ∧ v.phase = s.seq.phase)
    ∧ (s.isFollow = true → v.state = s.follow.state ∧ v.phase = 0)
    ∧ (∀ r, s.load.last = some r → v.index = r.index ∧ v.position = r.position)
    ∧ v.latch = s.stop.latch ∧ v.driving = s.stop.driving ∧ v.lineLow = s.lines.stopLow
    ∧ (s.stop.record = none → v.lockedCause = none)
    ∧ (∀ k, s.stop.record = some k → v.lockedCause = some k.cause) ∧ v.further = s.stop.further
    ∧ v.inStep = s.budget.inStep ∧ v.epoch = s.budget.epoch
    ∧ (s.start.config = none → v.capacity = 0) ∧ (∀ c, s.start.config = some c → v.capacity = c.capacity)
    ∧ (s.budget.inStep = true → v.entries = some s.budget.table.toList)
    ∧ (s.budget.inStep = false → v.entries = none)
    ∧ v.velocity = s.travel.velocity ∧ v.standstill = s.travel.standstill
    ∧ v.load = s.load.statusLoad ∧ v.range = s.load.range ∧ v.extState = s.ext.state
    ∧ (s.ext.idRec = none → v.gauge = none)
    ∧ (∀ i, s.ext.idRec = some i → v.gauge = some (i.code, i.serial))
    ∧ (s.isFollow = false → v.leadIndex = 0 ∧ v.mirrorAge = 0)
    ∧ (∀ m, s.isFollow = true → s.pair.mirror = some m → v.leadIndex = m.index ∧ v.mirrorAge = s.pair.age)
    ∧ v.errCheck = s.link.errCheck ∧ v.errLength = s.link.errLength ∧ v.errShort = s.link.errShort
    ∧ v.lost = s.link.lost
    ∧ v.presence.Pairwise (· < ·) ∧ ∀ n, n ∈ v.presence ↔ ∃ h : n < 15, s.link.presence[n].isSome = true

/-! ## What the detectors and the examination look for -/

/-- R89, R90, R104: a load is at or below the peak less a fraction in tenths of a percent of it. -/
abbrev Dropped (peak : Option Peak) (tenths : Nat) (load : Int) : Prop :=
  ∃ p, peak = some p ∧ load ≤ (p.load * (1000 - tenths)).tdiv 1000

/-- R86: an accepted sample of the OPEN span. -/
abbrev InSpan (s : State) (r : SampleRec) : Prop := r.held = false ∧ s.load.spanOpen = true

/-- R86: a sample that is examined for break and yield. -/
abbrev Examined (s : State) (r : SampleRec) : Prop :=
  InSpan s r ∧ (s.seq.state = .running ∨ s.seq.state = .held)

/-- R87: a sample that becomes the peak. -/
abbrev IsPeak (s : State) (r : SampleRec) : Prop := InSpan s r ∧ ∀ p, s.load.peak = some p → p.load < r.load

/-- R102: the reading of the tick is saturated, or more than 95 % of the travel from the zero reading. -/
abbrev TravelPassed (e : Ext) (reading : Int) : Prop :=
  reading.natAbs = 1100000 ∨ 950000 < (reading - e.zero.getD 0).natAbs

/-- R103: the sample joins the slip window. -/
abbrev Joins (v : ExtView) (r : SampleRec) : Prop := r.held = false ∧ v.inSpan = true

/-- R103: slip against the seventh-newest entry of a full window, with the peak as it stood before the sample. -/
abbrev Slipped (tolerance : Nat) (v : ExtView) (window : List (Int × Int)) (r : SampleRec) : Prop :=
  Joins v r ∧ ∃ w, window.length = 8 ∧ window[1]? = some w
    ∧ ((v.peak.map fun p => p.load.natAbs * 10 / 1000).getD 0 : Nat) ≤ r.load - w.1 ∧ r.strain < w.2 - tolerance

/-- R104: the removal condition of the plan. -/
abbrev RemovalDue (s : State) (plan : ExtPlan) (v : ExtView) (r : SampleRec) : Prop :=
  (plan.removal = .atStrain ∧ (plan.value : Int) ≤ r.strain)
    ∨ (plan.removal = .atPeakDrop ∧ Joins v r ∧ s.load.breakArmed = true ∧ Dropped v.peak plan.value r.load)

/-- R161: the sample that completes now is eligible for the curve. -/
abbrev Eligible (s : State) : Prop :=
  s.isFollow = false ∧ s.recorder.collection = .collecting ∧ s.recorder.runBegun = true
    ∧ (s.seq.state = .running ∨ s.seq.state = .held ∨ s.seq.state = .ending)

/-- R162: the store has room for the sample. -/
abbrev HasRoom (u : Recorder) (r : SampleRec) : Prop :=
  u.store.length < 2048 ∧ ∀ newest, u.store.getLast? = some newest → newest.index.toNat < r.index.toNat

/-- R34: the zone covers the position. -/
abbrev Covers (z : Zone) (pos : Int) : Prop :=
  z.valid = true ∧ (z.base : Int) ≤ pos ∧ pos ≤ (z.base : Int) + (2 ^ z.k : Nat) - 1

/-! ## The layouts of the command payloads (R183) and the ranges of their fields (Tables 1-1, 1-2, 10-3) -/

def rangeModeByte : RangeMode → Nat
  | .auto => 0
  | .fixed r => r.code

def modeNibble : PhaseMode → Nat
  | .xhRate => 1
  | .loadRate => 2
  | .strainRate => 3
  | .hold => 4

def sourceNibble : SourceDemand → Nat
  | .extRequired => 1
  | .extPreferred => 2
  | .xh => 3

def endKindByte : EndKind → Nat
  | .strainAt => 1
  | .loadAt => 2
  | .positionAt => 3
  | .timeAt => 4
  | .yieldFound => 5
  | .brk => 6

def removalByte : RemovalKind → Nat
  | .atStrain => 1
  | .atPeakDrop => 2
  | .atPhaseEnd => 3

def phaseLayout (p : Phase) : List Byte :=
  natBytes 1 (modeNibble p.mode * 16 + sourceNibble p.source) ++ intBytes p.target ++ natBytes 1 p.step
    ++ natBytes 2 p.rateLimit ++ natBytes 1 (endKindByte p.endKind) ++ intBytes p.endValue ++ natBytes 1 p.share

/-- The 15 bytes of the header and the break part. -/
def headLayout (o : Order) : List Byte :=
  wordBytes o.testId ++ natBytes 4 o.parallelLength ++ natBytes 1 (o.holdTimeout.getD 0)
    ++ natBytes 1 (rangeModeByte o.rangeMode) ++ natBytes 1 o.decimation ++ natBytes 2 o.armFraction
    ++ natBytes 2 o.dropFraction

def yieldLayout (y : YieldPlan) : List Byte := natBytes 2 y.drop ++ natBytes 4 y.strainLimit

def planLayout (p : ExtPlan) : List Byte :=
  natBytes 1 (removalByte p.removal) ++ natBytes 4 p.value ++ natBytes 1 (flagBit p.fallback 0)
    ++ natBytes 2 p.slipTolerance ++ natBytes 1 p.gauge

def returnLayout (r : ReturnPlan) : List Byte := natBytes 2 r.rate ++ natBytes 4 r.position ++ natBytes 1 r.share

/-- An optional part with its tag. -/
def tagged (tag : Byte) : Option (List Byte) → List Byte
  | none => []
  | some bytes => tag :: bytes

def orderLayout (o : Order) : List Byte :=
  headLayout o ++ tagged 3 (o.yieldPlan.map yieldLayout) ++ tagged 4 (o.plan.map planLayout)
    ++ tagged 5 (o.returnPlan.map returnLayout) ++ 6 :: natBytes 1 o.phases.length ++ o.phases.flatMap phaseLayout

/-- A signed number that 4 bytes hold. -/
abbrev Signed32 (v : Int) : Prop := -2147483648 ≤ v ∧ v ≤ 2147483647

/-- R180: the bytes of a LEVEL payload, 17 of a lead and 6 of a follow. -/
def levelLayout (m : Level) : List Byte :=
  if m.role = .lead then
    natBytes 1 2 ++ intBytes m.position ++ intBytes m.demand ++ natBytes 1 m.state.code ++ natBytes 1 m.phase
      ++ natBytes 1 m.kind.code ++ natBytes 1 m.share ++ wordBytes m.index
  else natBytes 1 3 ++ intBytes m.position ++ natBytes 1 m.state.code

/-- R54: what a LEVEL frame of either role can say. -/
def LevelFits (m : Level) : Prop :=
  Signed32 m.position
    ∧ ((m.role = .lead ∧ Signed32 m.demand ∧ m.phase < 256 ∧ m.share < 256)
      ∨ (m.role = .follow ∧ m.demand = 0 ∧ m.phase = 0 ∧ m.kind = .none ∧ m.share = 0 ∧ m.index = 0))

/-- R181: every field of the STATUS fits the bytes that the layout gives it, and only an in-step sender has the 15
entries. -/
def StatusFits (v : Status) : Prop :=
  v.phase < 256 ∧ v.further < 256 ∧ v.capacity < 256 ∧ (∀ g, v.gauge = some g → g.1 < 256) ∧ v.mirrorAge < 256
    ∧ v.errCheck < 256 ∧ v.errLength < 256 ∧ v.errShort < 256 ∧ v.lost < 256
    ∧ v.presence.Pairwise (· < ·) ∧ (∀ n ∈ v.presence, n < 15)
    ∧ (v.inStep = true → ∃ es, v.entries = some es ∧ es.length = 15 ∧ ∀ e ∈ es, e < 256)
    ∧ (v.inStep = false → v.entries = none)

/-- Every field of the order fits the bytes that the layout gives it. -/
def OrderFits (o : Order) : Prop :=
  o.parallelLength < 2 ^ 32 ∧ (∀ t, o.holdTimeout = some t → 1 ≤ t ∧ t ≤ 255) ∧ o.decimation < 256
    ∧ o.armFraction < 65536 ∧ o.dropFraction < 65536 ∧ o.phases.length < 256
    ∧ (∀ y, o.yieldPlan = some y → y.drop < 65536 ∧ y.strainLimit < 2 ^ 32)
    ∧ (∀ p, o.plan = some p → p.value < 2 ^ 32 ∧ p.slipTolerance < 65536 ∧ p.gauge < 256)
    ∧ (∀ r, o.returnPlan = some r → r.rate < 65536 ∧ r.position < 2 ^ 32 ∧ r.share < 256)
    ∧ ∀ p ∈ o.phases, Signed32 p.target ∧ Signed32 p.endValue ∧ p.step < 256 ∧ p.rateLimit < 65536 ∧ p.share < 256

/-- R3 with Tables 1-1 and 1-2: what an order must satisfy at a station with this capacity, and with or without an
extensometer. A field that its phase ignores is not looked at (R183). -/
def OrderGood (capacity : Nat) (fitted : Bool) (o : Order) : Prop :=
  (1 ≤ o.phases.length ∧ o.phases.length ≤ 8) ∧ (1000 ≤ o.parallelLength ∧ o.parallelLength ≤ 1000000)
    ∧ (∀ t, o.holdTimeout = some t → 1 ≤ t ∧ t ≤ 60)
    ∧ (o.decimation = 1 ∨ o.decimation = 2 ∨ o.decimation = 4 ∨ o.decimation = 8)
    ∧ (5 ≤ o.armFraction ∧ o.armFraction ≤ 200) ∧ (200 ≤ o.dropFraction ∧ o.dropFraction ≤ 900)
    ∧ (∀ y, o.yieldPlan = some y → (5 ≤ y.drop ∧ y.drop ≤ 50) ∧ 1 ≤ y.strainLimit ∧ y.strainLimit ≤ 1000000)
    ∧ (∀ p, o.plan = some p → fitted = true ∧ (10 ≤ p.slipTolerance ∧ p.slipTolerance ≤ 1000)
        ∧ (1 ≤ p.gauge ∧ p.gauge ≤ 5)
        ∧ (p.removal = .atStrain → 1 ≤ p.value ∧ p.value ≤ 1000000)
        ∧ (p.removal = .atPeakDrop → 5 ≤ p.value ∧ p.value ≤ 900)
        ∧ (p.removal = .atPhaseEnd → 1 ≤ p.value ∧ p.value ≤ o.phases.length))
    ∧ (∀ r, o.returnPlan = some r → (1 ≤ r.rate ∧ r.rate ≤ 20000) ∧ r.position ≤ 2097151 ∧ r.share ≤ 255
        ∧ r.share ≤ capacity)
    ∧ ∀ p ∈ o.phases, (1 ≤ p.rateLimit ∧ p.rateLimit ≤ 20000) ∧ p.share ≤ 255 ∧ p.share ≤ capacity
        ∧ (p.mode = .loadRate ∨ p.mode = .strainRate → 1 ≤ p.step ∧ p.step ≤ 255)
        ∧ (p.source = .extRequired → o.plan ≠ none) ∧ (p.endKind = .yieldFound → o.yieldPlan ≠ none)

def zoneLayout (z : Zone) : List Byte :=
  natBytes 1 (flagBit z.valid 0 + flagBit z.permitsTest 1 + flagBit z.permitsReturn 2) ++ natBytes 1 z.k
    ++ natBytes 4 z.base ++ natBytes 2 z.speedCap

/-- The 67 bytes of a CONFIG payload; `fitted` is the byte that holds yes or no. -/
def settingsLayout (c : Settings) (fitted : Byte) : List Byte :=
  natBytes 1 c.period ++ natBytes 1 c.statusPeriod ++ natBytes 1 c.gateLength ++ natBytes 1 c.capacity
    ++ natBytes 4 c.loadCapacity ++ [fitted] ++ natBytes 4 c.startPosition ++ natBytes 2 c.trimLimit
    ++ natBytes 2 c.skewAlarm ++ natBytes 2 c.skewLimit ++ c.zones.flatMap zoneLayout

/-- Every field of the set fits the bytes that the layout gives it, and there are six zones. -/
def SettingsFit (c : Settings) : Prop :=
  c.period < 256 ∧ c.statusPeriod < 256 ∧ c.gateLength < 256 ∧ c.capacity < 256 ∧ c.loadCapacity < 2 ^ 32
    ∧ c.startPosition < 2 ^ 32 ∧ c.trimLimit < 65536 ∧ c.skewAlarm < 65536 ∧ c.skewLimit < 65536
    ∧ c.zones.length = 6 ∧ ∀ z ∈ c.zones, z.k < 256 ∧ z.base < 2 ^ 32 ∧ z.speedCap < 65536

/-- R176: the zone conditions of Table 10-3. -/
def ZoneGood (z : Zone) : Prop :=
  z.valid = true → (10 ≤ z.k ∧ z.k ≤ 21) ∧ z.base % 2 ^ z.k = 0 ∧ z.base + 2 ^ z.k ≤ 2097152
    ∧ 1 ≤ z.speedCap ∧ z.speedCap ≤ 20000

/-- R176, R183: field `n` of Table 10-3, numbered from 1 in table order, passes. -/
def SettingGood (c : Settings) (fitted : Byte) : Nat → Prop
  | 1 => c.period = 5 ∨ c.period = 10 ∨ c.period = 20
  | 2 => c.statusPeriod = 32 ∨ c.statusPeriod = 64 ∨ c.statusPeriod = 128
  | 3 => c.gateLength = 1 ∨ c.gateLength = 2 ∨ c.gateLength = 4 ∨ c.gateLength = 8
  | 4 => 1 ≤ c.capacity ∧ c.capacity ≤ 255
  | 5 => 1000 ≤ c.loadCapacity ∧ c.loadCapacity ≤ 10000000
  | 6 => fitted.toNat ≤ 1
  | 7 => c.startPosition ≤ 2097151
  | 8 => c.trimLimit ≤ 500
  | 9 => (10 ≤ c.skewAlarm ∧ c.skewAlarm ≤ 5000) ∧ c.skewAlarm < c.skewLimit
  | 10 => 20 ≤ c.skewLimit ∧ c.skewLimit ≤ 10000
  | n => ∀ z, c.zones[n - 11]? = some z → ZoneGood z

/-- R179: each byte as often as the second sum has taken it. -/
def weightedSum : List Byte → Nat
  | [] => 0
  | b :: bs => (bs.length + 1) * b.toNat + weightedSum bs

/-! ## The frame of a command -/

/-- The blocks of the state, with the lines and the test record. -/
inductive Block
  | lines | clock | start | seq | testRec | follow | travel | pair | load | ext | link | budget | stop | recorder
  deriving DecidableEq, Repr

/-- A block is the same in both states, but that a forcing condition may have taken the drive port to zero (R45). -/
def BlockKept (s t : State) : Block → Prop
  | .lines => t.lines = s.lines
  | .clock => t.clock = s.clock
  | .start => t.start = s.start
  | .seq => t.seq = s.seq
  | .testRec => t.testRec = s.testRec
  | .follow => t.follow = s.follow
  | .travel => t.travel = s.travel ∨ (forced t = true ∧ t.travel = { s.travel with applied := 0 })
  | .pair => t.pair = s.pair
  | .load => t.load = s.load
  | .ext => t.ext = s.ext
  | .link => t.link = s.link
  | .budget => t.budget = s.budget
  | .stop => t.stop = s.stop
  | .recorder => t.recorder = s.recorder

/-- The blocks that a fault report or a stop reaches (R23, R24, R68, R153). -/
def reportBlocks : List Block := [.seq, .testRec, .follow, .load, .ext, .link, .budget, .stop, .recorder]

/-- The blocks that a command may change. A received frame with the station's own number is a fault report. -/
def mayChange : Instr → List Block
  | .powerOnReset _ =>
    [.clock, .start, .seq, .testRec, .follow, .travel, .pair, .load, .ext, .link, .budget, .stop, .recorder]
  | .startIntervalEnd _ => .lines :: .start :: .pair :: reportBlocks
  | .sampleTick _ => .lines :: .clock :: .start :: .travel :: .pair :: reportBlocks
  | .gateClose | .encoderCount _ _ | .periodTimerStop => [.travel]
  | .loadConversionEnd _ | .strainConversionEnd _ => .travel :: .pair :: reportBlocks
  | .rangeDown | .rangeSettleEnd => [.load]
  | .gripsQualified => [.seq, .load]
  | .tareAttemptJudged | .holdTimeout | .budgetTimeout | .endingTimeout | .identWord _ | .extCloseTimeout
  | .identTimeout | .extOpenTimeout => reportBlocks
  | .partnerLoss => [.follow]
  | .followLossTimeout => [.follow, .travel, .link, .budget]
  | .levelTimer => [.pair, .link]
  | .statusTimer | .presenceTimeout _ | .startBitSensed | .lineIdle => [.link]
  | .coldStart | .receiveError _ | .frameStart _ | .frameAbandon => [.link, .budget]
  | .frameComplete => [.link, .budget, .recorder]
  | .settlingComplete => [.seq, .ext, .link, .budget]
  | .armClosedHigh | .armOpenHigh => [.lines, .ext]
  | .armClosedLow | .stopLineFall _ => .lines :: reportBlocks
  | .identStartBit => [.ext]
  | .grantFrame _ | .stopFrame _ | .statusFrame _ | .reportFrame _ _ | .abort _ | .reclaim _ => reportBlocks
  | .levelFrame _ | .order _ => .pair :: reportBlocks
  | .config _ => .clock :: .start :: .travel :: reportBlocks
  | .clear _ _ | .restart _ _ => .lines :: .travel :: .pair :: reportBlocks

end Sys2Proof.Safety
end

