-- ==== Sys2Proof/Certificates/Slice0/Obligations.lean ====
section
/-! DEFINITION. The statements for the provers: steps and invariants first, then each block's commands. A statement
about a command says that exec answers a next state, and what that state holds. -/

open Sys2Proof Sys2Proof.Machine Sys2Proof.Safety

/-! ## Steps and invariants -/

/-- A step takes the command at the front of the queue and runs it with the queue's rest behind it. -/
def Obligations.StepRunsFrontCommand : Prop :=
  ∀ (c : Instr) (rest : List Instr) (s : State), s.pending = c :: rest → step s = exec c (s.setPending rest)

/-- Every command, in every state, answers a next state. It leaves the waiting commands as they are, and the blocks
that it may not change, but for the drive port going to zero while a forcing condition holds (R45). A STATUS that is
pending after a command that changed the budget is the one built from the new state (R133); that it is built once, at
the end of the command, is the model's choice (assumption 50). -/
def Obligations.EveryCommandCompletesWithItsFrame : Prop :=
  ∀ (c : Instr) (s : State), Next (exec c s) fun t =>
    t.pending = s.pending ∧ (∀ b, b ∉ mayChange c → BlockKept s t b)
      ∧ (budgetChanged s t = true → t.link.status = none ∨ t.link.status = some (buildStatus t))

/-- R45: every command, in every state, ends with the drive port at zero while a forcing condition holds, and no
step lets the port apply a demand while one holds. -/
def Obligations.PortObeysForcing : Prop :=
  (∀ (c : Instr) (s : State), Next (exec c s) PortSafe)
    ∧ ∀ s t : State, PortSafe s → step s = .next t → PortSafe t

/-- R39, R49, R123, R124, R133, R162: the drive port, the notice queue, the store, the rate window and entry 0 keep
their bounds over every step, and so do the counts that stop at 255: receive errors (R116), lost notices (R123),
further faults (R152), mirror age (R56) and running count (R63). -/
def Obligations.BoundsHoldOverSteps : Prop :=
  ∀ s t : State, Bounded s → step s = .next t → Bounded t

/-- R163, R164: over every step, samples sent, held and lost make the samples offered, and the CURVE frame in hand
carries the oldest samples of the store. -/
def Obligations.CurveAccountHoldsOverSteps : Prop :=
  ∀ s t : State, CurveSound s → step s = .next t → CurveSound t

/-- R137, R148: over every step, the claim lock is set only while a raise of the station's own is pending or in flight,
and until CONFIG no GRANT of the station's own is pending or in flight. That the lowering of R143 after an adoption
waits for CONFIG too is the model's reading (assumption 51). -/
def Obligations.ClaimLockStaysBacked : Prop :=
  (∀ s t : State, LockBacked s → FlightSound s → step s = .next t → LockBacked t ∧ FlightSound t)
    ∧ ∀ s t : State, NoGrantBeforeConfig s → step s = .next t → NoGrantBeforeConfig t

/-- The invariants of the statements above hold in the state right after reset. -/
def Obligations.ResetMeetsInvariants : Prop :=
  PortSafe State.reset ∧ Bounded State.reset ∧ CurveSound State.reset ∧ LockBacked State.reset
    ∧ FlightSound State.reset ∧ NoGrantBeforeConfig State.reset

/-- Power-on reset, block by block, for every value that a rule gives: R5, R29, R33, R37, R39, R49, R53, R56, R59, R60,
R63 to R65, R67, R70, R73, R75, R76, R79, R80, R84 to R86, R93, R113, R114, R116, R120, R123, R124, R129, R130, R148,
R159, R160, R163, R171, R174, R175 and Tables 2-4, 4-3, 6-2, 7-1 and 8-2. The values that the spec does not give
(assumption 26) have no clause. -/
def Obligations.ResetLeavesSpecValues : Prop :=
  State.reset.start.config = none ∧ State.reset.start.intervalEnded = false
    ∧ State.reset.seq.state = .unconfigured ∧ State.reset.seq.order = none ∧ State.reset.seq.phase = 0
    ∧ State.reset.seq.holdCount = 0
    ∧ State.reset.testRec = none
    ∧ State.reset.follow.state = .unconfigured ∧ State.reset.follow.share = 0 ∧ State.reset.follow.asked = 0
    ∧ State.reset.follow.lossSamples = 0
    ∧ State.reset.travel.counter = 0 ∧ State.reset.travel.measure = .gate ∧ State.reset.travel.gateOpen = false
    ∧ State.reset.travel.periodTimer = 0 ∧ State.reset.travel.velocity = 0 ∧ State.reset.travel.standstill = false
    ∧ State.reset.travel.regValue = 0 ∧ State.reset.travel.regMode = .zero ∧ State.reset.travel.window = []
    ∧ State.reset.travel.applied = 0 ∧ State.reset.travel.tripped = false
    ∧ State.reset.pair.mirror = none ∧ State.reset.pair.age = 0 ∧ State.reset.pair.levelTimer = none
    ∧ State.reset.pair.alarmed = false ∧ State.reset.pair.overLimit = false ∧ State.reset.pair.joined = false
    ∧ State.reset.pair.runCount = 0
    ∧ State.reset.load.conv = .idle ∧ State.reset.load.nextIndex = 0 ∧ State.reset.load.last = none
    ∧ State.reset.load.statusLoad = 0 ∧ State.reset.load.range = .r1 ∧ State.reset.load.pendingRange = none
    ∧ State.reset.load.rangeMode = .auto ∧ State.reset.load.settleCount = 0 ∧ State.reset.load.downCount = 0
    ∧ State.reset.load.tareOffset = 0 ∧ State.reset.load.tare = none ∧ State.reset.load.overPrev = false
    ∧ State.reset.load.spanOpen = false ∧ State.reset.load.peak = none ∧ State.reset.load.breakArmed = false
    ∧ State.reset.load.breakFound = false ∧ State.reset.load.yieldSearch = .inactive
    ∧ State.reset.ext.state = .opening ∧ State.reset.ext.idRec = none ∧ State.reset.ext.openTimer = some 0
    ∧ State.reset.ext.closeTimer = none ∧ State.reset.ext.identTimer = none ∧ State.reset.ext.zero = none
    ∧ State.reset.ext.pair = none ∧ State.reset.ext.offset = 0 ∧ State.reset.ext.slip = []
    ∧ State.reset.link.line = .receiving ∧ State.reset.link.stop = none ∧ State.reset.link.grant = none
    ∧ State.reset.link.level = none ∧ State.reset.link.status = none ∧ State.reset.link.result = none
    ∧ State.reset.link.curve = none ∧ State.reset.link.inFlight = none ∧ State.reset.link.notices = []
    ∧ State.reset.link.lost = 0 ∧ State.reset.link.errCheck = 0 ∧ State.reset.link.errLength = 0
    ∧ State.reset.link.errShort = 0 ∧ State.reset.link.presence = Vector.replicate 15 none
    ∧ State.reset.link.statusTimer = none
    ∧ State.reset.budget.table = Vector.replicate 15 0 ∧ State.reset.budget.epoch = 0
    ∧ State.reset.budget.inStep = false ∧ State.reset.budget.lock = false ∧ State.reset.budget.requested = 0
    ∧ State.reset.budget.coldTimer = none ∧ State.reset.budget.lastHeard = 0
    ∧ State.reset.stop.latch = false ∧ State.reset.stop.driving = false ∧ State.reset.stop.record = none
    ∧ State.reset.stop.further = 0
    ∧ State.reset.recorder.collection = .none ∧ State.reset.recorder.store = [] ∧ State.reset.recorder.offered = 0
    ∧ State.reset.recorder.lost = 0 ∧ State.reset.recorder.sent = 0 ∧ State.reset.recorder.decCount = 0
    ∧ State.reset.recorder.runBegun = false ∧ State.reset.recorder.waiting = none

/-! ## Stop, fault and what stays -/

/-- R150, R152, R172, R178: what only named commands change: the locked part of the fault record (CLEAR, RESTART,
power-on reset), a set latch (CLEAR, power-on reset), the configuration and what the strap word fixed (power-on
reset). -/
def Obligations.OnlyNamedCommandsRelease : Prop :=
  (∀ (c : Instr) (s : State) (r : FaultRec), Unlocks c = false → s.stop.record = some r →
    Next (exec c s) fun t => t.stop.record = some r)
    ∧ (∀ (c : Instr) (s : State), ClearsLatch c = false → s.stop.latch = true →
        Next (exec c s) fun t => t.stop.latch = true)
    ∧ ∀ (c : Instr) (s : State) (k : Settings), (∀ w, c ≠ .powerOnReset w) → s.start.config = some k →
        Next (exec c s) fun t =>
          t.start.config = some k ∧ t.start.strapWord = s.start.strapWord ∧ t.start.number = s.start.number
            ∧ t.start.role = s.start.role ∧ t.start.partner = s.start.partner
            ∧ t.start.strapFault = s.start.strapFault

/-- R114, R118, R173: a station in STRAP_FAULT keeps its line state but judges no frame and starts none, and its
latch, line drive and fault record stay as they are. -/
def Obligations.StrapFaultTakesNoPart : Prop :=
  (∀ (c : Instr) (f : RxFrame) (s : State), s.start.strapFault = true → PortSafe s → frameOf c = some f →
    ∃ l : Lines,
      exec c s = .next ((s.setLines l).setLink (if s.link.takes then s.link.endReception else s.link)))
    ∧ (∀ (q : Nat) (s : State), s.start.strapFault = true → PortSafe s → s.link.line = .quiet →
        exec (.frameStart q) s = .next (s.setLink { s.link with quiet := s.link.quiet + q }))
    ∧ ∀ (c : Instr) (s : State), (∀ w, c ≠ .powerOnReset w) → s.start.strapFault = true →
        Next (exec c s) fun t => t.stop = s.stop

/-- R24, R68, R123, R151 to R153: a report locks an unlocked record with the state of the instant, or raises the count
of a locked one, and queues its FAULT notice, with the locked part when it locked the record. A cell-stop report drives
the line, places a STOP frame with its cause and sets the latch; a local report takes the sequencer of the station's
role to FAULTED. A notice that finds the queue full, that of a report too, is dropped and counted. -/
def Obligations.ReportIsRecordedAndActsByClass : Prop :=
  (∀ (cause : FaultCause) (s : State), s.start.strapFault = false →
      Recorded cause s (report cause s)
        ∧ (s.link.notices.length < 8 → s.stop.record = none → ∃ r more, LockedBy cause s r ∧
            (report cause s).link.notices
              = s.link.notices ++ { kind := .fault cause (some r), index := s.lastIndex } :: more)
        ∧ (s.link.notices.length < 8 → s.stop.record ≠ none → ∃ more,
            (report cause s).link.notices
              = s.link.notices ++ { kind := .fault cause none, index := s.lastIndex } :: more))
    ∧ (∀ (cause : FaultCause) (s : State), s.start.strapFault = false →
      (cause.code < 16 → (report cause s).stop.driving = true ∧ (report cause s).stop.latch = true
          ∧ (report cause s).link.stop = some cause)
        ∧ (16 ≤ cause.code → (report cause s).stop.driving = s.stop.driving
            ∧ (report cause s).stop.latch = s.stop.latch ∧ (report cause s).link.stop = s.link.stop
            ∧ (s.isFollow = false →
                (report cause s).seq.state
                  = if s.seq.state = .unconfigured ∨ s.seq.state = .idle ∨ s.seq.state = .stopped then s.seq.state
                    else .faulted)
            ∧ (s.isFollow = true →
                (report cause s).follow.state
                  = if s.follow.state = .followClaim ∨ s.follow.state = .following ∨ s.follow.state = .held
                    then .faulted else s.follow.state)))
    ∧ ((∀ (k : NoticeKind) (s : State),
        (s.link.notices.length < 8 → pushNotice k s
          = s.setLink { s.link with notices := s.link.notices ++ [{ kind := k, index := s.lastIndex }] })
        ∧ (8 ≤ s.link.notices.length → pushNotice k s
            = s.setLink { s.link with lost := min 255 (s.link.lost + 1) }))
      ∧ ∀ (cause : FaultCause) (s : State), s.start.strapFault = false → 8 ≤ s.link.notices.length →
          (report cause s).link.notices = s.link.notices
            ∧ ((report cause s).link.lost = min 255 (s.link.lost + 1)
                ∨ (report cause s).link.lost = min 255 (s.link.lost + 2)))

/-- R23, R68, R150: a falling edge and a STOP frame, whatever its payload, set the latch. -/
def Obligations.StopEdgeAndFrameSetLatch : Prop :=
  (∀ (low : Bool) (s : State), s.start.strapFault = false →
    Next (exec (.stopLineFall low) s) fun t => Stops s t ∧ t.lines = { s.lines with stopLow := low })
    ∧ ∀ (f : RxFrame) (s : State), Takes f s → Next (exec (.stopFrame f) s) fun t => Stops s t ∧ t.lines = s.lines

/-! ## Start-up -/

/-- R172, R184: power-on reset puts every block at its reset value and examines the strap word, whose fields are read
here bit by bit. That the reported line levels, the waiting commands and the count of open choices are kept is the
model's choice (assumption 2), and so are the reset values that the spec does not give (assumption 26). -/
def Obligations.PowerOnResetExaminesStrap : Prop :=
  ∀ (w : BitVec 16) (s : State), ∃ st : StartUp,
    exec (.powerOnReset w) s
        = .next ((((State.reset.setStart st).setLines s.lines).setPending s.pending).setFree s.free)
      ∧ st.strapWord = w ∧ st.intervalEnded = false ∧ st.config = none
      ∧ ((w.extractLsb' 0 6).toNat = ((w.extractLsb' 11 5).toNat + (w.extractLsb' 6 5).toNat) % 64
            ∧ w.extractLsb' 12 4 ≠ 0 ∧ w.extractLsb' 12 4 ≠ 15 ∧ w.extractLsb' 10 2 ≠ 0 →
          st.strapFault = false ∧ st.number = (w.extractLsb' 12 4).toNat
            ∧ st.role.code = (w.extractLsb' 10 2).toNat ∧ st.partner = (w.extractLsb' 6 4).toNat
            ∧ st.intervalTimer = some 0)
      ∧ (¬((w.extractLsb' 0 6).toNat = ((w.extractLsb' 11 5).toNat + (w.extractLsb' 6 5).toNat) % 64
            ∧ w.extractLsb' 12 4 ≠ 0 ∧ w.extractLsb' 12 4 ≠ 15 ∧ w.extractLsb' 10 2 ≠ 0) →
          st.strapFault = true ∧ st.intervalTimer = none)

/-- R53, R130, R150, R174: the end of the start interval. The event is believed at any value of the interval timer, the
model's choice (assumption 4), and the first STATUS shows the latch that a low line sets at the same instant
(assumption 70). -/
def Obligations.StartIntervalEndOpensTheLink : Prop :=
  ∀ (lines : Lines) (s : State) (k : Nat), s.start.strapFault = false → s.start.intervalTimer = some k →
    Next (exec (.startIntervalEnd lines) s) fun t =>
      t.lines = lines ∧ t.start = { s.start with intervalTimer := none, intervalEnded := true }
        ∧ t.stop = { s.stop with latch := s.stop.latch || lines.stopLow }
        ∧ t.pair = { s.pair with levelRun := decide (s.start.role ≠ .solo) }
        ∧ t.link.statusTimer = some 0 ∧ t.link.status = some (buildStatus t)

/-- R5, R29, R33, R64, R76, R93, R130, R145, R176 to R178: a CONFIG to an unconfigured station that passes the checks
is taken by every block; the measure unit discards an open gate and keeps its velocity, where no closed gate waits
(assumption 32). One that fails a check, or comes to a configured station, is refused: it changes no setting, and
leaves its notice, or one lost, beside what any valid frame brings. -/
def Obligations.ConfigIsAcceptedOrRefused : Prop :=
  (∀ (f : RxFrame) (s : State) (k : Settings), Takes f s → f.sender = 0 → f.dest.toNat = s.start.number →
      s.start.config = none → parseConfig f.payload = .ok k →
      Next (exec (.config f) s) fun t =>
        t.start = { s.start with config := some k } ∧ t.clock.sampleTimer = 0
          ∧ t.travel.counter = BitVec.ofNat 32 k.startPosition
          ∧ (s.travel.gateDue = none → t.travel.velocity = s.travel.velocity ∧ t.travel.measure = s.travel.measure
              ∧ t.travel.standstill = s.travel.standstill ∧ t.travel.gateDue = none)
          ∧ (t.travel.measure = .gate →
              t.travel.gateOpen = false ∧ t.travel.gateTicks = 0 ∧ t.travel.gateSum = 0)
          ∧ t.travel.periodTimer = s.travel.periodTimer ∧ t.travel.regValue = s.travel.regValue
          ∧ (k.extFitted = false → t.ext.state = .absent ∧ t.ext.openTimer = none)
          ∧ (k.extFitted = true → t.ext = s.ext)
          ∧ (s.isFollow = false → t.seq.state = .idle ∧ t.load.rangeMode = .auto)
          ∧ (s.isFollow = true → t.follow.state = .idle ∧ t.follow.share = 0 ∧ t.load.rangeMode = .fixed .r1)
          ∧ (t.budget.inStep = false → t.budget.coldTimer = some 0)
          ∧ t.link.statusTimer = s.link.statusTimer.map (fun _ => 0)
          ∧ t.stop = s.stop ∧ t.load.nextIndex = s.load.nextIndex ∧ t.load.conv = s.load.conv
          ∧ t.budget.table = s.budget.table ∧ t.budget.epoch = s.budget.epoch
          ∧ (s.link.notices.length < 8 →
              t.link.notices = s.link.notices ++ [{ kind := .configAccepted, index := s.lastIndex }]))
    ∧ (∀ (f : RxFrame) (s : State) (why : ConfigRefusal), Takes f s → f.sender = 0 → f.dest.toNat = s.start.number →
      (s.start.config.isSome = true ∧ why = .alreadyConfigured)
        ∨ (s.start.config = none ∧ ∃ n, parseConfig f.payload = .error n ∧ why = .badConfig n) →
      Next (exec (.config f) s) fun t =>
        HeaderOnly f s t
          ∧ (s.link.notices.length < 8 → t.link.lost = s.link.lost
              ∧ t.link.notices = s.link.notices ++ [{ kind := .configRefused why, index := s.lastIndex }])
          ∧ (8 ≤ s.link.notices.length →
              t.link.lost = min 255 (s.link.lost + 1) ∧ t.link.notices = s.link.notices))

/-- R176, R183: the bytes of a CONFIG payload give the set back when every field passes; otherwise the first field in
table order that fails is named, and a wrong length is named 17. -/
def Obligations.ConfigContentIsChecked : Prop :=
  (∀ (c : Settings) (fitted : Byte), SettingsFit c →
    ((∀ n, 1 ≤ n → n ≤ 16 → SettingGood c fitted n) →
      parseConfig (settingsLayout c fitted) = .ok { c with extFitted := fitted == 1 })
    ∧ ∀ n, 1 ≤ n → n ≤ 16 → ¬SettingGood c fitted n → (∀ m, 1 ≤ m → m < n → SettingGood c fitted m) →
        parseConfig (settingsLayout c fitted) = .error n)
    ∧ ∀ bytes : List Byte, bytes.length ≠ 67 → parseConfig bytes = .error 17

/-! ## The sample tick -/

/-- R28, R30, R53, R56, R70, R72, R80, R129, R130, R145: a tick latches the position and starts a conversion pair, in
every station state; the counter, the sample index and the last record stay, and an unfinished pair is dropped, the
model's choice (assumption 23). Where no step of an earlier instant is overdue (assumption 5), a range decision takes
effect, the ages and the LEVEL, STATUS and cold-start timers advance, and the tick opens a gate, counts it, or closes
it and opens the next; the sum of a closed gate waits for its event (assumption 9). A range that takes effect discards
the loads that a tare attempt has collected (R82). -/
def Obligations.TickLatchesAgesAndGates : Prop :=
  (∀ (lines : Lines) (s : State), Next (exec (.sampleTick lines) s) fun t =>
      t.lines = lines ∧ t.clock.sampleTimer = 0 ∧ t.travel.latched = s.travel.counter.toInt
        ∧ t.travel.counter = s.travel.counter ∧ t.load.conv = .acquiringLoad ∧ t.load.convTimer = 0
        ∧ t.load.reading = none ∧ t.load.nextIndex = s.load.nextIndex ∧ t.load.last = s.load.last
        ∧ t.load.overCheck = (t.start.intervalEnded && !t.start.strapFault))
    ∧ (∀ (lines : Lines) (s : State), NothingOverdue s → s.start.strapFault = false →
      Next (exec (.sampleTick lines) s) fun t =>
        (∀ r, s.load.pendingRange = some r → t.load.range = r ∧ t.load.settleCount = 2 ∧ t.load.settling = true
            ∧ t.load.pendingRange = none ∧ t.load.downCount = 0
            ∧ (t.load.tare = none ∨ ∃ a, s.load.tare = some a ∧ t.load.tare = some { a with loads := [] })
            ∧ (lines.grips = true → lines.ampFault = false →
                t.load.tare = s.load.tare.map fun a => { a with loads := [] }))
          ∧ (s.load.pendingRange = none → t.load.range = s.load.range ∧ t.load.settleCount = s.load.settleCount
              ∧ t.load.settling = s.load.settling ∧ t.load.downCount = s.load.downCount
              ∧ (lines.grips = true → lines.ampFault = false → t.load.tare = s.load.tare))
          ∧ t.link.presence = s.link.presence.map (fun a => a.map (· + 1))
          ∧ t.link.statusTimer = s.link.statusTimer.map (· + 1)
          ∧ t.budget.coldTimer = s.budget.coldTimer.map (· + 1)
          ∧ (s.start.role ≠ .solo → t.pair = { s.pair with
                age := min 255 (s.pair.age + 1)
                levelTimer := match s.pair.levelTimer with
                  | some n => some (n + 1)
                  | none => if s.pair.levelRun then some 0 else none })
          ∧ (s.start.role = .solo → t.pair = s.pair))
    ∧ (∀ (lines : Lines) (s : State), NothingOverdue s → Next (exec (.sampleTick lines) s) fun t =>
      t.travel.measure = s.travel.measure ∧ t.travel.velocity = s.travel.velocity
        ∧ (s.travel.measure = .period → t.travel.gateOpen = s.travel.gateOpen ∧ t.travel.gateSum = s.travel.gateSum
            ∧ t.travel.gateTicks = s.travel.gateTicks ∧ t.travel.gateDue = s.travel.gateDue)
        ∧ (s.travel.measure = .gate → t.travel.gateOpen = true)
        ∧ (s.travel.measure = .gate → s.travel.gateOpen = false →
            t.travel.gateTicks = 0 ∧ t.travel.gateSum = 0 ∧ t.travel.gateDue = s.travel.gateDue)
        ∧ (s.travel.measure = .gate → s.travel.gateOpen = true → s.travel.gateTicks + 1 < s.gateLength →
            t.travel.gateTicks = s.travel.gateTicks + 1 ∧ t.travel.gateSum = s.travel.gateSum
              ∧ t.travel.gateDue = s.travel.gateDue)
        ∧ (s.travel.measure = .gate → s.travel.gateOpen = true → s.gateLength ≤ s.travel.gateTicks + 1 →
            t.travel.gateTicks = 0 ∧ t.travel.gateSum = 0 ∧ t.travel.gateDue = some s.travel.gateSum))

/-- R7, R8, R84: the grips line at a tick. The tick on which the count reaches 16 leaves it at 16 in ARMED for its
event, and a low line that waits for the report of the tick is a mark of the model's (assumption 9). Where the sample
of this tick may end the attempt, the line and the report are taken in either order: both results are possible,
whatever the open choice (assumption 1). No step of an earlier instant is overdue (assumption 5). -/
def Obligations.TickWatchesGrips : Prop :=
  ∀ (lines : Lines) (s : State), NothingOverdue s → s.start.strapFault = false → lines.ampFault = false →
    Next (exec (.sampleTick lines) s) fun t =>
      t.load.tareOffset = s.load.tareOffset
        ∧ (s.seq.state = .armed → t.seq.state = .armed
            ∧ t.seq.gripsCount = if lines.grips then min 16 (s.seq.gripsCount + 1) else 0)
        ∧ (s.seq.state = .taring → lines.grips = true → t.seq = s.seq ∧ t.load.tare.isSome = s.load.tare.isSome)
        ∧ (s.seq.state = .taring → lines.grips = false → s.load.pendingRange.isSome = true
              ∨ (∀ a, s.load.tare = some a → a.loads.length ≠ 15) →
            t.seq.state = .armed ∧ t.seq.gripsCount = 0 ∧ t.load.tare = none)
        ∧ (s.seq.state = .taring → lines.grips = false →
            (t.seq.state = .armed ∧ t.seq.gripsCount = 0 ∧ t.load.tare = none)
              ∨ (t.seq.state = .taring ∧ t.seq.gripsLowWaits = true ∧ t.load.tare = s.load.tare))

/-! ## Travel -/

/-- R28, R30, R31, R32: a gate that has closed gives a velocity, and its sum decides the mode; the period timer that
stops gives standstill in PERIOD, at any value of the timer (assumption 4); with no closed gate waiting the event has
no effect (assumption 22). A count moves the counter by one and restarts the period timer; in GATE it joins an open
gate's sum, in PERIOD it ends a period `us` microseconds after the timer was last brought up to date (assumption 6).
-/
def Obligations.MeasureUnitTakesGatesAndCounts : Prop :=
  ((∀ (s : State) (sum : Int), PortSafe s → s.travel.gateDue = some sum →
      exec .gateClose s = .next (s.setTravel
        (if 16 ≤ sum.natAbs then
          { s.travel with gateDue := none, standstill := false,
                          velocity := (sum * 1000000).tdiv (s.gateLength * s.period * 100 : Nat) }
        else
          { s.travel with
              gateDue := none, measure := .period, gateOpen := false, gateTicks := 0, gateSum := 0
              standstill := decide (s.travel.periodTimer = 65535)
              velocity := if s.travel.periodTimer = 65535 then 0
                else (sum * 1000000).tdiv (s.gateLength * s.period * 100 : Nat) })))
      ∧ (∀ s : State, PortSafe s → s.travel.gateDue = none → exec .gateClose s = .next s)
      ∧ (∀ s : State, PortSafe s → s.travel.measure = .period → exec .periodTimerStop s
          = .next (s.setTravel { s.travel with periodTimer := 65535, standstill := true, velocity := 0 }))
      ∧ ∀ s : State, PortSafe s → s.travel.measure = .gate → exec .periodTimerStop s
          = .next (s.setTravel { s.travel with periodTimer := 65535 }))
    ∧ (∀ (up : Bool) (us : Nat) (s : State), PortSafe s → ∃ v : Travel,
      exec (.encoderCount up us) s = .next (s.setTravel v)
        ∧ v = { s.travel with
                  counter := v.counter, periodTimer := 0, measure := v.measure, velocity := v.velocity
                  standstill := v.standstill, gateOpen := v.gateOpen, gateTicks := v.gateTicks, gateSum := v.gateSum }
        ∧ v.counter = (if up then s.travel.counter + 1 else s.travel.counter - 1)
        ∧ (s.travel.measure = .gate →
            v.measure = .gate ∧ v.velocity = s.travel.velocity ∧ v.standstill = s.travel.standstill
              ∧ v.gateOpen = s.travel.gateOpen ∧ v.gateTicks = s.travel.gateTicks
              ∧ v.gateSum = s.travel.gateSum + (if s.travel.gateOpen then (if up then 1 else -1) else 0))
        ∧ (s.travel.measure = .period → 65535 ≤ s.travel.periodTimer + us →
            v.measure = .period ∧ v.velocity = 0 ∧ v.standstill = true)
        ∧ (s.travel.measure = .period → s.travel.periodTimer + us < 65535 →
            v.standstill = false
              ∧ v.velocity = (1000000 / max 1 (s.travel.periodTimer + us) : Nat) * (if up then 1 else -1)
              ∧ v.measure = (if 16 * (s.travel.periodTimer + us) ≤ s.gateLength * s.period * 100 then .gate
                  else .period)))

/-- R44: the limit stage clamps the regulator value of each sample to the mode limit, to the cap of the zone in force
where there is one, and to the port limit. The sign is kept, DIRECT has no mode limit, and in LOAD_RATE and STRAIN_RATE
the result becomes the regulator value carried to the next sample. -/
def Obligations.LimitStageClamps : Prop :=
  (∀ (target : Int) (step l : Nat),
      (Request.xhRate target l).limit = some l ∧ (Request.loadRate target step l).limit = some l
        ∧ (Request.strainRate target step l).limit = some l ∧ (Request.hold l).limit = some l
        ∧ (Request.ret target l).limit = some l ∧ (Request.direct target).limit = none)
    ∧ (∀ p : Phase, p.request.limit = some p.rateLimit)
    ∧ (∀ (s : State) (o : Order) (p : ReturnPlan), s.isFollow = false → s.seq.state = .returning →
        s.seq.order = some o → o.returnPlan = some p →
        demandRequest s = .zero ∨ (demandRequest s).limit = some p.rate)
    ∧ (∀ (q : Request) (zone : Option Zone) (v : Int),
        (0 ≤ v → 0 ≤ limitStage q zone v) ∧ (v ≤ 0 → limitStage q zone v ≤ 0)
          ∧ (limitStage q zone v).natAbs
              = min 20000 (min ((zone.map (·.speedCap)).getD v.natAbs) (min (q.limit.getD v.natAbs) v.natAbs)))
    ∧ ∀ (q : Request) (r : SampleRec) (s : State), forced s = false → q ≠ .zero →
        let v := regulate s.travel q (windowAfter s.travel.window q r) s.period r
        (regulateSample q r s).travel.applied = limitStage q (zoneInForce s.zones r.position) v
          ∧ (q.mode = .loadRate ∨ q.mode = .strainRate →
              (regulateSample q r s).travel.regValue = limitStage q (zoneInForce s.zones r.position) v)

/-- R5, R21, R37 to R43, R46, R64: which request each state of the owning sequencer makes, and what each request does
to the regulator and the port on a sample, and that a forced sample applies zero, keeps the value and empties the
window. An entry that joins a window of 8 removes the oldest, and the measured rate is zero below 8 entries and else
the difference of the newest and the oldest value over that of their indices times the period. That the clamped value
is written back in every mode but ZERO is read from the sentence of R44 that the write-back has no further effect in
the other modes (assumption 12). -/
def Obligations.RegulatorActsByMode : Prop :=
  (∀ (w : List (Int × Word32)) (x : Int × Word32) (period : Nat),
      (w.length < 8 → pushWindow w x = w ++ [x] ∧ measuredRate w period = 0)
        ∧ (∀ oldest rest, w = oldest :: rest → w.length = 8 → pushWindow w x = rest ++ [x])
        ∧ ∀ oldest middle newest, w = oldest :: middle ++ [newest] → w.length = 8 →
            measuredRate w period
              = ((newest.1 - oldest.1) * 10000).tdiv (((newest.2 - oldest.2).toNat * period : Nat) : Int))
  ∧ (∀ s : State, s.isFollow = false →
      (∀ p, s.seq.state = .running → s.curPhase = some p →
        (p.mode = .xhRate → demandRequest s = .xhRate p.target p.rateLimit)
          ∧ (p.mode = .loadRate → demandRequest s = .loadRate p.target p.step p.rateLimit)
          ∧ (p.mode = .strainRate → demandRequest s = .strainRate p.target p.step p.rateLimit)
          ∧ (p.mode = .hold → demandRequest s = .hold p.rateLimit))
        ∧ (∀ o p, s.seq.state = .returning → s.seq.order = some o → o.returnPlan = some p →
            demandRequest s = if s.holdsShare p.share then .ret p.position p.rate else .zero)
        ∧ (s.seq.state ≠ .running → s.seq.state ≠ .returning → demandRequest s = .zero))
  ∧ (∀ s : State, s.isFollow = true →
      (∀ m, s.follow.state = .following → s.pair.mirror = some m →
        demandRequest s = .direct (m.demand + s.pair.trim))
        ∧ (s.follow.state ≠ .following → demandRequest s = .zero))
  ∧ ∀ (r : SampleRec) (s : State),
    (∀ q, forced s = true →
      (regulateSample q r s).travel = { s.travel with regMode := q.mode, window := [], applied := 0 })
      ∧ (forced s = false →
          (regulateSample .zero r s).travel = { s.travel with regMode := .zero, applied := 0 }
          ∧ (∀ q, q ≠ .zero → (regulateSample q r s).travel.applied = (regulateSample q r s).travel.regValue)
          ∧ (∀ target l, (regulateSample (.xhRate target l) r s).travel.regValue
              = limitStage (.xhRate target l) (zoneInForce s.zones r.position) target)
          ∧ (∀ target step l, r.held = true → (regulateSample (.loadRate target step l) r s).travel.window
              = s.travel.window)
          ∧ (∀ target step l, r.held = true → (regulateSample (.loadRate target step l) r s).travel.regValue
              = limitStage (.loadRate target step l) (zoneInForce s.zones r.position) s.travel.regValue)
          ∧ (∀ target step l, r.held = false →
              (regulateSample (.loadRate target step l) r s).travel.window
                = pushWindow s.travel.window (r.load, r.index)
              ∧ (regulateSample (.loadRate target step l) r s).travel.regValue
                = limitStage (.loadRate target step l) (zoneInForce s.zones r.position)
                    (if measuredRate (pushWindow s.travel.window (r.load, r.index)) s.period < target then
                      s.travel.regValue + step
                    else if target < measuredRate (pushWindow s.travel.window (r.load, r.index)) s.period then
                      s.travel.regValue - step
                    else s.travel.regValue))
          ∧ (∀ target step l,
              (regulateSample (.strainRate target step l) r s).travel.window
                = pushWindow s.travel.window (r.strain, r.index)
              ∧ (regulateSample (.strainRate target step l) r s).travel.regValue
                = limitStage (.strainRate target step l) (zoneInForce s.zones r.position)
                    (if measuredRate (pushWindow s.travel.window (r.strain, r.index)) s.period < target then
                      s.travel.regValue + step
                    else if target < measuredRate (pushWindow s.travel.window (r.strain, r.index)) s.period then
                      s.travel.regValue - step
                    else s.travel.regValue))
          ∧ (∀ l, (regulateSample (.hold l) r s).travel.applied
              = limitStage (.hold l) (zoneInForce s.zones r.position)
                  (if (s.travel.holdPosition - r.position).natAbs ≤ 10 then 0
                    else 10 * (s.travel.holdPosition - r.position)))
          ∧ (∀ goal l, (goal - r.position).natAbs ≤ 10 →
              (regulateSample (.ret goal l) r s).travel.applied = 0)
          ∧ (∀ goal l, 10 < (goal - r.position).natAbs →
              (regulateSample (.ret goal l) r s).travel.applied
                = limitStage (.ret goal l) (zoneInForce s.zones r.position) (10 * (goal - r.position)))
          ∧ (∀ v, (regulateSample (.direct v) r s).travel.applied
              = limitStage (.direct v) (zoneInForce s.zones r.position) v))

/-! ## The load channel -/

/-- R70, R71, R73, R74, R75, R78, R80: the load conversion leads to the strain conversion that the extensometer asks
for, or completes a sample record with crosshead strain, and the sample index moves on. A reading beyond the span is
taken as its end (assumption 29), and the end is believed in ACQUIRING and at any converter time (assumption 4). A
saturated reading on range 1 while the range settles is HELD (assumption 69). Each sample lowers the settle count, and
the gross load of an accepted one joins the tare attempt in progress (R80, R82). -/
def Obligations.LoadConversionLeadsOrCompletes : Prop :=
  (∀ (reading : Int) (s : State), PortSafe s → s.load.conv = .acquiringLoad ∨ s.load.conv = .convertingLoad →
    s.ext.state = .settling ∨ s.ext.state = .measuring →
    exec (.loadConversionEnd reading) s
      = .next (s.setLoad { s.load with conv := .acquiringStrain, convTimer := 0, reading := some reading }))
    ∧ ∀ (reading : Int) (s : State), LoadEnds s → Next (exec (.loadConversionEnd reading) s) fun t =>
      t.load.conv = .idle ∧ t.load.reading = none ∧ t.load.nextIndex = s.load.nextIndex + 1
        ∧ t.start = s.start ∧ t.clock = s.clock ∧ t.lines = s.lines ∧ t.travel.counter = s.travel.counter
        ∧ t.travel.velocity = s.travel.velocity ∧ t.load.range = s.load.range
        ∧ t.load.settleCount = s.load.settleCount - 1
        ∧ ∃ r, t.load.last = some r ∧ r.index = s.load.nextIndex ∧ r.position = s.travel.latched
          ∧ (s.isFollow = false →
              r.phase = s.seq.phase ∧ r.ext = false ∧ r.strain = s.crossheadStrain s.travel.latched
                ∧ r.hold = decide (s.seq.state = .held) ∧ t.load.statusLoad = r.load
                ∧ (r.held = true ↔ s.load.settling = true ∨ (s.load.range ≠ .r1 ∧ 1100000 ≤ reading.natAbs))
                ∧ (r.held = true → ∀ p, s.load.last = some p → r.load = p.load)
                ∧ (r.held = false → s.start.config = none → r.load = 0)
                ∧ (r.held = false → s.start.config ≠ none → reading.natAbs ≤ 1100000 →
                    r.load = clamp32 ((reading * (s.loadCapacity * s.load.range.percent)).tdiv 100000000
                      - s.load.tareOffset))
                ∧ (∀ a, s.start.strapFault = false → s.load.tare = some a → t.seq.state = .taring →
                    a.loads.length < 15 ∨ s.stop.latch = false → t.load.tare
                      = if r.held ∨ 16 ≤ a.loads.length then some a
                      else some { a with loads := a.loads ++ [(max (-1100000) (min 1100000 reading)
                        * (s.loadCapacity * s.load.range.percent)).tdiv 100000000] }))

/-- R70, R73, R74, R78, R80, R99, R100: the strain conversion completes the sample. A MEASURING unit gives it
extensometer strain and keeps the pair, a SETTLING unit counts the reading; the record's load is that of the load
reading in hand, and a FOLLOW station's record has index and position. A reading beyond the span is taken as its end
(assumption 29), and the end is believed in ACQUIRING and at any converter time (assumption 4). A saturated reading on
range 1 while the range settles is HELD (assumption 69). The 16th reading of a SETTLING unit becomes the zero on this
sample only where the sample has a fault (assumptions 9 and 62). The settle count and the tare attempt are as on a
sample that the load conversion completes (R80, R82). -/
def Obligations.StrainConversionCompletesSample : Prop :=
  ∀ (reading l : Int) (s : State), s.load.conv = .acquiringStrain ∨ s.load.conv = .convertingStrain →
    s.load.reading = some l →
    let v := max (-1100000) (min 1100000 reading)
    Next (exec (.strainConversionEnd reading) s) fun t =>
      t.load.conv = .idle ∧ t.load.reading = none ∧ t.load.nextIndex = s.load.nextIndex + 1
        ∧ t.load.settleCount = s.load.settleCount - 1
        ∧ (s.ext.state = .settling → t.ext.strainCount = s.ext.strainCount + 1 ∧ t.ext.lastReading = v)
        ∧ (s.ext.state = .settling → 15 ≤ s.ext.strainCount → t.ext.pair = s.ext.pair
            ∨ (t.ext.pair = some (0, s.travel.latched) ∧ t.ext.zero = some v))
        ∧ (s.isFollow = true ∨ s.ext.state ≠ .measuring → s.ext.state ≠ .settling ∨ s.ext.strainCount < 15 →
            t.ext.pair = s.ext.pair)
        ∧ ∃ r, t.load.last = some r ∧ r.index = s.load.nextIndex ∧ r.position = s.travel.latched
          ∧ (s.isFollow = false →
              (r.ext = true ↔ s.ext.state = .measuring)
                ∧ (∀ i z, s.ext.state = .measuring → s.ext.idRec = some i → s.ext.zero = some z →
                    r.strain = ((v - z) * i.travel).tdiv (gaugeLength i.code)
                      ∧ t.ext.pair = some (r.strain, s.travel.latched))
                ∧ (s.ext.state ≠ .measuring → r.strain = s.crossheadStrain s.travel.latched)
                ∧ r.phase = s.seq.phase ∧ r.hold = decide (s.seq.state = .held) ∧ t.load.statusLoad = r.load
                ∧ (r.held = true ↔ s.load.settling = true ∨ (s.load.range ≠ .r1 ∧ 1100000 ≤ l.natAbs))
                ∧ (r.held = true → ∀ p, s.load.last = some p → r.load = p.load)
                ∧ (r.held = false → s.start.config = none → r.load = 0)
                ∧ (r.held = false → s.start.config ≠ none → r.load
                    = clamp32 ((max (-1100000) (min 1100000 l)
                        * (s.loadCapacity * s.load.range.percent)).tdiv 100000000 - s.load.tareOffset))
                ∧ (∀ a, s.start.strapFault = false → s.load.tare = some a → t.seq.state = .taring →
                    a.loads.length < 15 ∨ s.stop.latch = false → t.load.tare
                      = if r.held ∨ 16 ≤ a.loads.length then some a
                      else some { a with loads := a.loads ++ [(max (-1100000) (min 1100000 l)
                        * (s.loadCapacity * s.load.range.percent)).tdiv 100000000] }))

/-- R86 to R91: the detectors on a sample of a LEAD or SOLO station, whichever conversion ends it: the peak, the break
arming, the break, the yield, and the end of the yield search, each with what it writes into the test record and the
notice it queues. -/
def Obligations.DetectorsActOnSample : Prop :=
  ∀ (c : Instr) (s : State) (o : Order) (old : TestRecord), CompletesSample c s → TestStation s →
    s.seq.order = some o → s.testRec = some old → Next (exec c s) fun t =>
      ∃ r new, t.load.last = some r ∧ t.testRec = some new
        ∧ (IsPeak s r → t.load.peak = some { load := r.load, position := r.position, strain := r.strain }
            ∧ new.maxLoad = r.load ∧ new.posAtMax = r.position ∧ new.strainAtMax = r.strain)
        ∧ (¬IsPeak s r → t.load.peak = s.load.peak ∧ new.maxLoad = old.maxLoad ∧ new.posAtMax = old.posAtMax
            ∧ new.strainAtMax = old.strainAtMax)
        ∧ (t.load.breakArmed = true ↔ s.load.breakArmed = true
            ∨ (Examined s r ∧ (s.loadCapacity * o.armFraction : Int) < r.load * 1000))
        ∧ (r.brk = true ↔ Examined s r ∧ s.load.breakArmed = true ∧ s.load.breakFound = false
            ∧ Dropped s.load.peak o.dropFraction r.load)
        ∧ (t.load.breakFound = true ↔ s.load.breakFound = true ∨ r.brk = true)
        ∧ new.breakPart = (if r.brk then some (r.strain, r.position) else old.breakPart)
        ∧ (r.brk = true → new.extOnAtBreak = decide (s.ext.state ≠ .absent ∧ s.ext.state ≠ .parked))
        ∧ (o.yieldPlan = none → r.yieldFlag = false)
        ∧ (∀ y, o.yieldPlan = some y →
            (r.yieldFlag = true ↔ Examined s r ∧ s.load.yieldSearch = .searching ∧ r.strain ≤ y.strainLimit
                ∧ s.load.breakArmed = true ∧ r.brk = false ∧ Dropped s.load.peak y.drop r.load)
              ∧ (Examined s r → s.load.yieldSearch = .searching → (y.strainLimit : Int) < r.strain ∨ r.brk = true →
                  t.load.yieldSearch = .ended)
              ∧ (r.yieldFlag = true → t.load.yieldSearch = .found)
              ∧ (s.load.yieldSearch = .found ∨ s.load.yieldSearch = .ended → ¬s.seq.state = .claiming →
                  t.load.yieldSearch = s.load.yieldSearch))
        ∧ (∀ p, r.yieldFlag = true → s.load.peak = some p → new.yieldPart = some (p.load, p.strain))
        ∧ (r.yieldFlag = false → new.yieldPart = old.yieldPart)
        ∧ (s.link.notices.length < 8 → r.yieldFlag = true →
            ∃ n ∈ t.link.notices, n.kind = .yieldFound ∧ n.index = r.index)
        ∧ (s.link.notices.length < 8 → r.brk = true →
            ∃ n ∈ t.link.notices, n.kind = .breakFound ∧ n.index = r.index)

/-- R45, R50, R85: the cell-stop faults of the drive port and the load channel: an active amplifier fault line at a
tick after the start interval trips an ACTIVE port, and a conversion newly in overload stops the cell on its sample,
which either conversion completes (assumption 65). Its STOP frame is the pending one afterwards. The last premise
leaves out only states that no run reaches, a SET latch or a FOLLOW role beside a sequencer in TARING. -/
def Obligations.DriveFaultAndOverloadStopCell : Prop :=
  (∀ (lines : Lines) (s : State), s.start.strapFault = false → s.start.intervalEnded = true →
      s.travel.tripped = false → lines.ampFault = true →
      Next (exec (.sampleTick lines) s) fun t =>
        t.travel.tripped = true ∧ t.travel.applied = 0 ∧ t.stop.latch = true ∧ t.stop.driving = true
          ∧ t.stop.record.isSome = true ∧ t.link.stop = some .driveFault)
    ∧ ∀ (c : Instr) (reading : Int) (s : State),
        (LoadEnds s ∧ c = .loadConversionEnd reading)
          ∨ (StrainEnds s ∧ s.load.reading = some reading ∧ ∃ strain, c = .strainConversionEnd strain) →
        s.start.strapFault = false → s.load.overCheck = true → s.load.overPrev = false → reading.natAbs ≤ 1100000 →
        (s.start.config ≠ none
            ∧ 105 * s.loadCapacity
              < 100 * ((reading * (s.loadCapacity * s.load.range.percent)).tdiv 100000000).natAbs)
          ∨ (s.load.range = .r1 ∧ reading.natAbs = 1100000) →
        Next (exec c s) fun t =>
          t.stop.latch = true ∧ t.stop.driving = true ∧ t.stop.record.isSome = true ∧ t.travel.applied = 0
            ∧ t.load.overPrev = true
            ∧ (s.seq.state ≠ .taring ∨ (s.stop.latch = false ∧ s.isFollow = false) → t.link.stop = some .overload)

/-- R77 to R80: what a reading decides about the range, the count of 32 that decides the next narrower range, and
the end of the settling. The count waits at 32 for its event (assumption 9). -/
def Obligations.RangeDecisions : Prop :=
  (∀ (l : LoadCh) (capacity : Nat) (gross reading : Int),
      (l.range ≠ .r1 → reading.natAbs = 1100000 →
        (l.decideRange capacity true gross reading).pendingRange = some .r1
          ∧ (∀ r, l.rangeMode = .fixed r → (l.decideRange capacity true gross reading).rangeMode = .fixed .r1))
        ∧ (l.range = .r1 ∨ reading.natAbs ≠ 1100000 → l.settling = true ∨ l.rangeMode ≠ .auto →
            l.decideRange capacity true gross reading = l)
        ∧ (l.range = .r1 ∨ reading.natAbs ≠ 1100000 → l.settling = false → l.rangeMode = .auto →
            (∀ w, l.range.wider = some w → 95 * (capacity * l.range.percent) < 10000 * (gross.natAbs : Int) →
                (l.decideRange capacity true gross reading).pendingRange = some w)
            ∧ (∀ n, l.range.narrower = some n → 10000 * (gross.natAbs : Int) < 35 * (capacity * n.percent) →
                (l.decideRange capacity true gross reading).downCount = min 32 (l.downCount + 1))
            ∧ (∀ n, l.range.narrower = some n → 35 * (capacity * n.percent) ≤ 10000 * (gross.natAbs : Int) →
                (l.decideRange capacity true gross reading).downCount = 0)))
    ∧ (∀ (s : State) (n : LoadRange), PortSafe s → s.load.rangeMode = .auto → 32 ≤ s.load.downCount →
      s.load.range.narrower = some n →
      exec .rangeDown s = .next (s.setLoad { s.load with pendingRange := some n, downCount := 0 }))
      ∧ ∀ s : State, PortSafe s → s.load.settling = true → s.load.settleCount = 0 →
          exec .rangeSettleEnd s = .next (s.setLoad { s.load with settling := false })

/-! ## The sequencers and the pair -/

/-- R7 to R10, R24, R82, R83, R94: sixteen ticks with the grips closed take the sequencer from ARMED to TARING, with a
fresh tare; the count waits at 16 for its event (assumption 9). A stable attempt sets the offset to the mean of its 16
loads and takes the sequencer on; an unstable one starts the next attempt, and the fourth faults the test. A low grips
line that waits for the report of the same tick, the model's mark for an open order (assumptions 1 and 9), is taken
after the judgment, and on a HELD sample, which brings none, with that sample. -/
def Obligations.TareBeginsAndIsJudged : Prop :=
  (∀ s : State, PortSafe s → s.seq.state = .armed → 16 ≤ s.seq.gripsCount →
      exec .gripsQualified s
        = .next ((s.setSeq { s.seq with
            state := .taring, stateSamples := 0, gripsCount := 0, gripsLowWaits := false, due := none }).setLoad
              { s.load with tare := some { attempt := 1, loads := [] } }))
    ∧ ((∀ (s : State) (a : Tare), TestStation s → s.seq.state = .taring → s.load.tare = some a → a.loads.length = 16 →
        (∀ x ∈ a.loads, ∀ y ∈ a.loads, (x - y) * 1000 ≤ 2 * s.loadCapacity) →
        Next (exec .tareAttemptJudged s) fun t =>
          t.load.tareOffset = a.loads.sum.tdiv 16 ∧ t.load.tare = none ∧ t.load.last = s.load.last
            ∧ (s.extPlan = none → t.seq.state = .claiming ∧ t.budget.requested = s.shareOf 1
                ∧ t.budget.reason = .phase ∧ t.ext = s.ext)
            ∧ (s.extPlan ≠ none → s.ext.state = .parked → t.seq.state = .attaching ∧ t.ext.state = .closing
                ∧ t.ext.closeTimer = some 0 ∧ t.ext.idRec = none)
            ∧ (s.extPlan ≠ none → s.ext.state = .opening → t.seq.state = .attaching ∧ t.ext.state = .opening
                ∧ t.ext.attachWaits = true)
            ∧ (s.extPlan ≠ none → s.ext.state = .jammed → t.seq.state = .faulted ∧ t.stop.record.isSome = true))
      ∧ ∀ (s : State) (a : Tare) (x y : Int), TestStation s → s.seq.state = .taring → s.load.tare = some a →
          a.loads.length = 16 → x ∈ a.loads → y ∈ a.loads → 2 * s.loadCapacity < (x - y) * 1000 →
          Next (exec .tareAttemptJudged s) fun t =>
            t.load.tareOffset = s.load.tareOffset
              ∧ (a.attempt < 4 → s.seq.gripsLowWaits = false →
                  t.load.tare = some { attempt := a.attempt + 1, loads := [] } ∧ t.seq = s.seq ∧ t.stop = s.stop
                    ∧ t.link = s.link)
              ∧ (a.attempt < 4 → s.seq.gripsLowWaits = true → t.seq.state = .armed ∧ t.load.tare = none)
              ∧ (4 ≤ a.attempt → EndsFaulted .tareUnstable s t ∧ t.load.tare = none))
    ∧ (∀ (c : Instr) (s : State) (a : Tare), CompletesSample c s → TestStation s → s.seq.state = .taring →
      s.stop.latch = false → s.seq.gripsLowWaits = true → s.load.tare = some a → a.loads.length = 15 →
      Next (exec c s) fun t =>
        ∃ r, t.load.last = some r
          ∧ (r.held = true → t.load.tare = none ∧ t.seq.state ≠ .taring ∧ t.load.tareOffset = s.load.tareOffset)
          ∧ (r.held = false → t.seq.state = .taring → t.load.tareOffset = s.load.tareOffset
              ∧ ∃ x, t.load.tare = some { a with loads := a.loads ++ [x] }))

/-- R10, R17, R19, R21: the three timeouts of the test sequencer, each in its states, end the test as FAULTED. The
sample that finds one reached leaves a mark that the event takes (assumption 9). A sample in ENDING without standstill
waits, and so does one in RETURNING until the position is within 10 µm with the share held, which ends the test; the
mark is left in RETURNING on the sample on which the hold timeout is reached without the share (assumption 14). -/
def Obligations.SequencerTimeoutsFault : Prop :=
  (∀ s : State, TestStation s →
    (s.seq.state = .held → s.seq.due = some .hold → Next (exec .holdTimeout s) (EndsFaulted .holdTimeout s))
      ∧ (s.seq.state = .claiming ∨ s.seq.state = .returning → s.seq.due = some .budget →
          Next (exec .budgetTimeout s) (EndsFaulted .budgetTimeout s))
      ∧ (s.seq.state = .ending → s.seq.due = some .ending →
          Next (exec .endingTimeout s) (EndsFaulted .holdTimeout s)))
    ∧ ∀ (r : SampleRec) (ended : Bool) (s : State) (o : Order) (p : ReturnPlan),
      let c := s.setSeq { s.seq with stateSamples := s.seq.stateSamples + 1 }
      let wait := (s.seq.stateSamples + 1) * s.period
      (s.seq.state = .ending → s.travel.standstill = false →
        handleSample r ended s = if s.holdTimeout ≤ wait then c.setSeq { c.seq with due := some .ending } else c)
        ∧ (s.seq.state = .returning → s.seq.order = some o → o.returnPlan = some p →
          (s.holdsShare p.share = true → ((p.position : Int) - r.position).natAbs ≤ 10 →
              (handleSample r ended s).seq.state = .done ∧ (handleSample r ended s).budget.requested = 0)
            ∧ (s.holdsShare p.share = true → 10 < ((p.position : Int) - r.position).natAbs →
                handleSample r ended s = c)
            ∧ (s.holdsShare p.share = false → handleSample r ended s
                = if s.holdTimeout ≤ wait ∧ wait < s.holdTimeout + s.period then
                    c.setSeq { c.seq with due := some .budget } else c))

/-- R5, R10, R11, R12, R14, R16, R17, R74, R86, R136: the conversion end that completes a sample hands it to the
sequencer of a test station, and the regulator acts on the state that its handling left, when no fault is reported and
no report waits that leads to one. A sample in CLAIMING on which the claim is satisfied begins phase 1 at its position;
a HELD sequencer goes on holding while a cause is present, runs again when none is, begins a phase that has not begun,
and ends the test on a break; a RUNNING one takes break, end condition, removal at the phase end, holds and phase time
in this order. Each change of phase requests the new share, and one equal to the own entry withdraws a pending GRANT
while none is in flight. A timeout leaves a mark that its event takes (assumption 9), the sample on which a hold ends
does not advance the phase time (assumption 34), and the order of the partner checks and the examination beside the
sequencer is open (assumption 1). -/
def Obligations.SequencerHandlesSample : Prop :=
  ((∀ (reading : Int) (s : State), TestStation s → LoadEnds s →
        let v := loadView reading none s
        ∃ (checked : Bool) (h : State),
          HandledIn checked (decide (v.yieldStep = .limit)) (viewOf 0 s) v.record
              (takeGripsUnreported (takenSample v s)) h
            ∧ (partnerSuspect (takenSample v s) = false → checked = false)
            ∧ exec (.loadConversionEnd reading) s
                = .next (finish s (moveSample checked (overloadFires s v.gross v.reading) v.record h)))
      ∧ (∀ (reading l : Int) (s : State), TestStation s → StrainEnds s → s.load.reading = some l →
        let y := max (-1100000) (min 1100000 reading)
        let v := loadView l (some y) (countSettling y s)
        ∃ (checked : Bool) (h : State),
          HandledIn checked (decide (v.yieldStep = .limit)) (viewOf y s) v.record
              (takeGripsUnreported (takenSample v (countSettling y s))) h
            ∧ (partnerSuspect (takenSample v (countSettling y s)) = false → checked = false)
            ∧ exec (.strainConversionEnd reading) s
                = .next (finish s (moveSample checked (overloadFires s v.gross v.reading) v.record h)))
      ∧ (∀ (checked : Bool) (r : SampleRec) (s : State), sampleFaults checked false s (demandRequest s) r = [] →
          entryFaults s = [] →
          moveSample checked false r s = regulateSample (demandRequest s) r (rememberSkew s))
      ∧ ∀ (r : SampleRec) (ended : Bool) (s : State),
        let c := s.setSeq { s.seq with
          stateSamples := s.seq.stateSamples + 1
          runSamples := if s.seq.state = .running then s.seq.runSamples + 1 else s.seq.runSamples }
        (s.seq.state = .claiming → handleSample r ended s = claimingSample r c)
          ∧ (s.seq.state = .running → handleSample r ended s = runningSample r ended c)
          ∧ (s.seq.state = .held → handleSample r ended s = heldSample r c)
          ∧ (s.seq.state.code ≤ 4 ∨ 10 ≤ s.seq.state.code → handleSample r ended s = c))
    ∧ ((∀ (r : SampleRec) (s : State),
      (s.holdsShare (s.shareOf 1) = true →
        (claimingSample r s).seq.phase = 1 ∧ (claimingSample r s).seq.testZero = r.position
          ∧ (claimingSample r s).load.spanOpen = true ∧ (claimingSample r s).recorder.runBegun = true
          ∧ ((claimingSample r s).seq.state = .running ∨ (claimingSample r s).seq.state = .held))
        ∧ (s.holdsShare (s.shareOf 1) = false →
            claimingSample r s = if s.holdTimeout ≤ s.seq.stateSamples * s.period then
              s.setSeq { s.seq with due := some .budget } else s))
      ∧ ∀ (r : SampleRec) (s : State), s.seq.state = .held →
        (r.brk = false → (holdCauses s).any = true →
            heldSample r s = if s.holdTimeout ≤ s.seq.stateSamples * s.period then
              s.setSeq { s.seq with due := some .hold } else s)
          ∧ (r.brk = false → (holdCauses s).any = false → s.seq.phaseBegun = true →
              (heldSample r s).seq.state = .running ∧ (heldSample r s).seq.phase = s.seq.phase
                ∧ (heldSample r s).seq.phaseTime = s.seq.phaseTime
                ∧ (heldSample r s).seq.refValue = s.seq.refValue)
          ∧ (r.brk = false → (holdCauses s).any = false → s.seq.phaseBegun = false →
              ∃ s1, heldSample r s = beginPhase r s1 ∧ s1.travel = s.travel ∧ s1.budget = s.budget
                ∧ s1.load = s.load ∧ s1.ext = s.ext
                ∧ s1.seq = { s.seq with state := .running, stateSamples := 0, runSamples := 1, gripsCount := 0,
                                        gripsLowWaits := false, due := none }
                ∧ (s.link.notices.length < 8 →
                    s1.link.notices = s.link.notices ++ [{ kind := .holdEnded, index := s.lastIndex }]))
          ∧ (r.brk = true → s.travel.standstill = false →
              (heldSample r s).seq.state = .ending ∧ (heldSample r s).seq.phase = s.seq.phase
                ∧ Outcome .broken (heldSample r s)))
    ∧ (∀ (r : SampleRec) (ended : Bool) (s : State) (o : Order), s.seq.state = .running → s.seq.order = some o →
      (r.brk = true → s.travel.standstill = false →
          (runningSample r ended s).seq.state = .ending ∧ (runningSample r ended s).seq.phase = s.seq.phase
            ∧ Outcome .broken (runningSample r ended s))
        ∧ (r.brk = false → phaseEnds s r ended = true → o.phaseAt (s.seq.phase + 1) = none →
            s.travel.standstill = false →
            (runningSample r ended s).seq.state = .ending ∧ (runningSample r ended s).seq.phase = s.seq.phase
              ∧ Outcome .ended (runningSample r ended s))
        ∧ (∀ p, r.brk = false → phaseEnds s r ended = true → o.phaseAt (s.seq.phase + 1) = some p →
            s.holdsShare p.share = true →
            (runningSample r ended s).seq.phase = s.seq.phase + 1
              ∧ (runningSample r ended s).seq.phaseBegun = true
              ∧ ((runningSample r ended s).seq.state = .running ∨ (runningSample r ended s).seq.state = .held)
              ∧ (runningSample r ended s).budget.requested = p.share
              ∧ (runningSample r ended s).budget.reason = .phase
              ∧ (p.share = s.ownEntry → s.link.grantInFlight = none →
                  (runningSample r ended s).link.grant = none ∧ (runningSample r ended s).budget.lock = false))
        ∧ (∀ p, r.brk = false → phaseEnds s r ended = true → o.phaseAt (s.seq.phase + 1) = some p →
            s.holdsShare p.share = false →
            (runningSample r ended s).seq.state = .held ∧ (runningSample r ended s).seq.phase = s.seq.phase + 1
              ∧ (runningSample r ended s).seq.phaseBegun = false
              ∧ (runningSample r ended s).seq.holdCount = s.seq.holdCount + 1
              ∧ (runningSample r ended s).budget.requested = p.share
              ∧ (runningSample r ended s).budget.reason = .phase)
        ∧ (∀ p e x, r.brk = false → phaseEnds s r ended = true → o.plan = some p → p.removal = .atPhaseEnd →
            p.value = s.seq.phase → s.ext.state = .measuring → s.ext.pair = some (e, x) →
            (runningSample r ended s).ext.state = .opening
              ∧ ∀ w, (runningSample r ended s).testRec = some w → w.switchPart = some (.removal, e, x))
        ∧ (r.brk = false → phaseEnds s r ended = false → (holdCauses s).any = true →
            (runningSample r ended s).seq.state = .held ∧ (runningSample r ended s).seq.stateSamples = 0
              ∧ (runningSample r ended s).seq.phase = s.seq.phase
              ∧ (runningSample r ended s).seq.phaseTime = s.seq.phaseTime
              ∧ (runningSample r ended s).seq.holdCount = s.seq.holdCount + 1
              ∧ (∀ w, (runningSample r ended s).testRec = some w → w.holdCount = s.seq.holdCount + 1)
              ∧ (s.link.notices.length < 8 → (runningSample r ended s).link.notices
                  = s.link.notices ++ [{ kind := .holdBegun (holdCauses s), index := s.lastIndex }]))
        ∧ (r.brk = false → phaseEnds s r ended = false → (holdCauses s).any = false →
            runningSample r ended s = s.setSeq { s.seq with phaseTime := s.seq.phaseTime + s.period }))

/-- R13, R15: when an end condition is met, kind by kind, and when each hold cause is present. The samples in RUNNING
are counted anew at every entry to RUNNING (assumption 13). A partner's HELD or FOLLOW_CLAIM taken within the 12-sample
allowance and still the latest report raises PARTNER on the 13th RUNNING sample (assumption 54). -/
def Obligations.EndConditionsAndHoldCauses : Prop :=
  (∀ (r : SampleRec) (ended : Bool) (p : Phase) (s : State),
    (s.curPhase = some p → phaseEnds s r ended = endMet s p r ended) ∧ (s.curPhase = none → phaseEnds s r ended = false)
      ∧ (p.endKind = .strainAt → (endMet s p r ended = true ↔ r.strain = p.endValue ∨ s.seq.refValue = p.endValue
          ∨ (s.seq.refValue < p.endValue ∧ p.endValue < r.strain)
          ∨ (p.endValue < s.seq.refValue ∧ r.strain < p.endValue)))
      ∧ (p.endKind = .loadAt → (endMet s p r ended = true ↔ r.held = false ∧ (r.load = p.endValue
          ∨ s.seq.refValue = p.endValue ∨ (s.seq.refValue < p.endValue ∧ p.endValue < r.load)
          ∨ (p.endValue < s.seq.refValue ∧ r.load < p.endValue))))
      ∧ (p.endKind = .positionAt → (endMet s p r ended = true ↔ r.position - s.seq.testZero = p.endValue
          ∨ s.seq.refValue = p.endValue
          ∨ (s.seq.refValue < p.endValue ∧ p.endValue < r.position - s.seq.testZero)
          ∨ (p.endValue < s.seq.refValue ∧ r.position - s.seq.testZero < p.endValue)))
      ∧ (p.endKind = .timeAt → (endMet s p r ended = true ↔ p.endValue * 10 ≤ (s.seq.phaseTime : Int)))
      ∧ (p.endKind = .yieldFound → (endMet s p r ended = true ↔ r.yieldFlag = true ∨ ended = true))
      ∧ (p.endKind = .brk → endMet s p r ended = false))
    ∧ ∀ s : State,
      ((holdCauses s).budget = true ↔ s.ownEntry < s.moveShare
          ∨ (s.start.role = .lead ∧ s.partnerEntry < s.moveShare))
        ∧ ((holdCauses s).partner = true ↔ s.start.role = .lead ∧ (s.pair.mirror = none ∨ 12 < s.pair.age
            ∨ (s.seq.state = .running ∧ 12 < s.seq.runSamples
                ∧ ∃ m, s.pair.mirror = some m ∧ (m.state = .held ∨ m.state = .followClaim))))
        ∧ ((holdCauses s).extNotReady = true ↔ s.ext.state ≠ .measuring ∧ s.fallback = false
            ∧ ∃ p, s.curPhase = some p ∧ p.source = .extRequired)
        ∧ ((holdCauses s).any = true ↔ (holdCauses s).budget = true ∨ (holdCauses s).partner = true
            ∨ (holdCauses s).extNotReady = true)

/-- R11, R16, R39, R41, R42: what the sample on which a phase begins does: phase time and reference value, PHASE_BEGUN,
the regulator, the removal of an XH phase, and the hold or the first sample period of the phase. -/
def Obligations.PhaseBeginsOnItsSample : Prop :=
  ∀ (r : SampleRec) (p : Phase) (s : State), s.curPhase = some p →
    (beginPhase r s).seq.phase = s.seq.phase ∧ (beginPhase r s).seq.phaseBegun = true
      ∧ (p.endKind = .strainAt → (beginPhase r s).seq.refValue = r.strain)
      ∧ (p.endKind = .loadAt → (beginPhase r s).seq.refValue = r.load)
      ∧ (p.endKind = .positionAt → (beginPhase r s).seq.refValue = r.position - s.seq.testZero)
      ∧ ((holdCauses s).any = false →
          (beginPhase r s).seq.state = s.seq.state ∧ (beginPhase r s).seq.phaseTime = s.period)
      ∧ ((holdCauses s).any = true → (beginPhase r s).seq.state = .held ∧ (beginPhase r s).seq.phaseTime = 0
          ∧ (beginPhase r s).seq.holdCount = s.seq.holdCount + 1)
      ∧ (beginPhase r s).travel.regValue = (if s.seq.phase = 1 then 0 else s.travel.regValue)
      ∧ ((∃ o q, s.seq.order = some o ∧ o.phaseAt (s.seq.phase - 1) = some q ∧ q.mode = p.mode) →
          (beginPhase r s).travel.window = s.travel.window)
      ∧ (¬(∃ o q, s.seq.order = some o ∧ o.phaseAt (s.seq.phase - 1) = some q ∧ q.mode = p.mode) →
          (beginPhase r s).travel.window = [])
      ∧ (p.mode = .hold → (beginPhase r s).travel.holdPosition = r.position)
      ∧ (p.source = .xh → s.ext.state = .measuring → (beginPhase r s).ext.state = .opening)
      ∧ (p.source ≠ .xh ∨ s.ext.state ≠ .measuring → (beginPhase r s).ext = s.ext)
      ∧ (s.link.notices.length < 8 → ∃ more, (beginPhase r s).link.notices
          = s.link.notices ++ { kind := .phaseBegun s.seq.phase, index := s.lastIndex } :: more)

/-- R19, R20, R21: standstill in ENDING takes a broken test with a return part that is not cancelled to RETURNING,
which a crosshead already at the return position with the return share held leaves on the same sample; every other test
is DONE. Standstill that is already reported when the end of the last phase or a break takes the sequencer to ENDING
ends ENDING on that sample. -/
def Obligations.StandstillInEndingReturnsOrEnds : Prop :=
  (∀ (r : SampleRec) (ended : Bool) (s : State), s.seq.state = .ending → s.travel.standstill = true →
    (∀ o p t, s.seq.order = some o → o.returnPlan = some p → s.testRec = some t → t.outcome = some .broken →
      s.seq.returnCancelled = false →
      (handleSample r ended s).seq.state
        = if s.holdsShare p.share = true ∧ ((p.position : Int) - r.position).natAbs ≤ 10 then .done
          else .returning)
      ∧ (s.seq.order = none ∨ (∃ o, s.seq.order = some o ∧ o.returnPlan = none) ∨ s.testRec = none
            ∨ (∃ t, s.testRec = some t ∧ t.outcome ≠ some .broken) ∨ s.seq.returnCancelled = true →
          (handleSample r ended s).seq.state = .done))
    ∧ ∀ (r : SampleRec) (ended : Bool) (s : State) (o : Order), s.travel.standstill = true →
      s.seq.order = some o → s.testRec.isSome = true →
      (s.seq.state = .running ∨ s.seq.state = .held → r.brk = true →
        (∀ p, o.returnPlan = some p → s.seq.returnCancelled = false → (handleSample r ended s).seq.state
            = if s.holdsShare p.share = true ∧ ((p.position : Int) - r.position).natAbs ≤ 10 then .done
              else .returning)
          ∧ (o.returnPlan = none ∨ s.seq.returnCancelled = true → (handleSample r ended s).seq.state = .done)
          ∧ Outcome .broken (handleSample r ended s))
        ∧ (s.seq.state = .running → r.brk = false → phaseEnds s r ended = true →
            o.phaseAt (s.seq.phase + 1) = none →
            (handleSample r ended s).seq.state = .done ∧ Outcome .ended (handleSample r ended s))

/-- R61, R66, R67: a follow that has lost its partner holds, and after 60 s of loss it gives its units back and rests,
with the regulator at 0 (R37). The sample on which it enters HELD counts as the first of the loss (assumption 46). -/
def Obligations.FollowLosesItsPartner : Prop :=
  (∀ s : State, PortSafe s → s.isFollow = true → s.pair.lost = true →
    s.follow.state = .followClaim ∨ s.follow.state = .following ∨ s.follow.state = .held →
    exec .partnerLoss s = .next (s.setFollow { s.follow with state := .held }))
    ∧ ∀ s : State, s.isFollow = true → s.follow.state = .held → 600000 ≤ s.follow.lossSamples * s.period →
        Next (exec .followLossTimeout s) fun t =>
          t.follow = { state := .idle, share := 0, asked := 0, lossSamples := 0 }
            ∧ t.budget.requested = 0 ∧ t.budget.reason = .release ∧ t.stop = s.stop ∧ t.seq = s.seq
            ∧ t.travel.regValue = 0 ∧ t.travel.regMode = .zero ∧ t.travel.window = []
            ∧ (s.link.grantInFlight = none → s.ownEntry ≠ 0 → s.start.config ≠ none →
                t.link.grant = some { units := 0, reason := .release, raise := false })

/-- R37, R64 to R67: what the follow sequencer does on a sample, by the lead's state in the mirror; the claim from
IDLE, an empty mirror, and the states in which nothing is done; the end of the load conversion of a FOLLOW station
hands it the sample, and the regulator acts on the state that it left. The sample on which it enters HELD counts as
the first of a loss (assumption 46). -/
def Obligations.FollowTracksLead : Prop :=
  (∀ (m : Level) (s : State), s.pair.mirror = some m →
      s.follow.state = .followClaim ∨ s.follow.state = .following ∨ s.follow.state = .held →
      (12 < s.pair.age → (followSample s).follow = { s.follow with
          state := .held, lossSamples := s.follow.lossSamples + 1 })
        ∧ (s.pair.age ≤ 12 → m.state.code ≤ 4 ∨ (10 ≤ m.state.code ∧ m.state.code ≤ 12) →
            (followSample s).follow = { state := .idle, share := 0, asked := 0, lossSamples := 0 }
              ∧ (followSample s).budget.requested = 0 ∧ (followSample s).travel.regValue = 0
              ∧ (followSample s).travel.window = [])
        ∧ (s.pair.age ≤ 12 → m.state = .held ∨ m.state = .ending →
            (followSample s).follow.state = .held ∧ (followSample s).follow.lossSamples = 0)
        ∧ (s.pair.age ≤ 12 → m.state = .claiming → (followSample s).follow.state = .followClaim)
        ∧ (s.pair.age ≤ 12 → m.state = .running ∨ m.state = .returning →
            (followSample s).follow.state = if m.share ≤ s.ownEntry then .following else .followClaim)
        ∧ (s.pair.age ≤ 12 → m.state.claims = true →
            (followSample s).follow.share = m.share ∧ (followSample s).follow.asked = m.share
              ∧ (m.share ≠ s.follow.asked → (followSample s).budget.requested = m.share
                  ∧ (followSample s).budget.reason = .follow)))
    ∧ (∀ s : State, s.follow.state = .idle →
      (∀ m, s.pair.mirror = some m → s.pair.age ≤ 12 → m.state.claims = true → s.stop.latch = false →
          s.stop.record = none → s.start.intervalEnded = true →
          (followSample s).follow.share = m.share ∧ (followSample s).follow.asked = m.share
            ∧ (m.share ≠ s.follow.asked → (followSample s).budget.requested = m.share
                ∧ (followSample s).budget.reason = .follow)
            ∧ (m.state = .claiming → (followSample s).follow.state = .followClaim)
            ∧ (m.state = .held → (followSample s).follow.state = .held)
            ∧ (m.state = .running ∨ m.state = .returning →
                (followSample s).follow.state = if m.share ≤ s.ownEntry then .following else .followClaim))
        ∧ (s.pair.mirror = none ∨ 12 < s.pair.age ∨ (∃ m, s.pair.mirror = some m ∧ m.state.claims = false)
              ∨ s.stop.latch = true ∨ s.stop.record ≠ none ∨ s.start.intervalEnded = false → followSample s = s))
    ∧ (∀ s : State, s.pair.mirror = none →
      s.follow.state = .followClaim ∨ s.follow.state = .following ∨ s.follow.state = .held →
      (followSample s).follow = { s.follow with state := .held, lossSamples := s.follow.lossSamples + 1 })
    ∧ (∀ s : State, s.follow.state = .unconfigured ∨ s.follow.state = .stopped ∨ s.follow.state = .faulted →
      followSample s = s)
    ∧ ∀ (reading : Int) (s : State), s.isFollow = true → LoadEnds s →
      let v := loadView reading none s
      exec (.loadConversionEnd reading) s = .next (finish s
        (moveSample false (overloadFires s v.gross v.reading) v.record (followSample (takenSample v s))))

/-- R57, R58, R59: the skew of a sample, the trim of a FOLLOW station, and the skew alarm. -/
def Obligations.SkewTrimAndAlarm : Prop :=
  ∀ (r : SampleRec) (m : Level) (s : State), s.paired = true → s.pair.mirror = some m →
    (s.pair.age ≤ 8 → s.ownState ≠ .unconfigured → m.state ≠ .unconfigured →
      (pairSample r s).pair.skewKnown = true
        ∧ (pairSample r s).pair.skew = max (-2147483648) (min 2147483647 (m.position - r.position))
        ∧ (pairSample r s).pair.trim = (if s.isFollow then
            max (-(s.trimLimit : Int)) (min (s.trimLimit : Int) ((pairSample r s).pair.skew.tdiv 8)) else 0)
        ∧ (pairSample r s).pair.alarmed = decide (s.skewAlarm < (pairSample r s).pair.skew.natAbs)
        ∧ (s.link.notices.length < 8 → s.pair.alarmed = false → (pairSample r s).pair.alarmed = true →
            (pairSample r s).link.notices = s.link.notices
              ++ [{ kind := .skewAlarm (pairSample r s).pair.skew, index := s.lastIndex }])
        ∧ (s.pair.alarmed = true ∨ (pairSample r s).pair.alarmed = false → (pairSample r s).link = s.link))
      ∧ (8 < s.pair.age ∨ s.ownState = .unconfigured ∨ m.state = .unconfigured →
          (pairSample r s).pair.skewKnown = false ∧ (pairSample r s).pair.trim = 0
            ∧ (pairSample r s).pair.skew = s.pair.skew ∧ (pairSample r s).pair.alarmed = s.pair.alarmed
            ∧ (pairSample r s).link = s.link)

/-- R34 to R36, R45, R60, R84, R85, R154: the zone in force, the faults that a sample finds in the travel map and in
the skew, and the reports of one sample. The faults are read from the state that the sequencer's handling left
(assumption 19), and a ZERO request counts as zero (assumption 11). With them are reported a partner fault and a
timeout of the same sample, in an open order (assumptions 1 and 53), OVERLOAD after them, and a tare judged on the same
sample before, between or after them: its failure counts in every order, and its success is discarded where another
report comes first (assumption 57). A sample that brings the report that leads to CLAIMING is checked with kind TEST
once that report is taken, and a CLAIMING test in a zone without TEST faults before it starts (assumption 59). -/
def Obligations.MovementFaultsOfSample : Prop :=
  (∀ (zs : List Zone) (pos : Int),
      (∀ z, zoneInForce zs pos = some z ↔ ∃ i : Nat, zs[i]? = some z ∧ Covers z pos
          ∧ ∀ (j : Nat) (y : Zone), j < i → zs[j]? = some y → ¬Covers y pos)
        ∧ (zoneInForce zs pos = none ↔ ∀ z ∈ zs, ¬Covers z pos))
    ∧ (∀ (q : Request) (r : SampleRec) (s : State),
        (∀ z, zoneInForce s.zones r.position = some z → zoneFault s q r
            = if (s.moveKind = .test ∧ z.permitsTest = false) ∨ (s.moveKind = .ret ∧ z.permitsReturn = false) then
                some .zoneForbidden else none)
          ∧ (zoneInForce s.zones r.position = none →
              (zoneFault s q r = some .travelUnmapped ↔ requestedValue s q r ≠ 0 ∨ s.travel.appliedAtTick ≠ 0
                ∨ (s.isFollow = true ∧ s.follow.state = .following)
                ∨ (s.isFollow = false ∧ (s.seq.state = .running ∨ s.seq.state = .returning)))
              ∧ (zoneFault s q r = some .travelUnmapped ∨ zoneFault s q r = none)))
    ∧ (∀ s : State,
        (skewFires s = true ↔ s.start.strapFault = false ∧ s.start.role ≠ .solo ∧ s.pair.skewKnown = true
          ∧ s.moveKind ≠ .none ∧ s.skewLimit < s.pair.skew.natAbs ∧ s.pair.overLimit = false))
    ∧ (∀ (checked overload : Bool) (r : SampleRec) (s : State), s.start.strapFault = false →
        let faults := sampleFaults checked overload s (demandRequest s) r
        (∀ c, c ∈ movementFaults s (demandRequest s) r ↔ (c = .skewLimit ∧ skewFires s = true)
            ∨ zoneFault s (demandRequest s) r = some c)
          ∧ (∀ c, c ∈ laterFaults checked s (demandRequest s) r ↔ (checked = false ∧ partnerCause s = some c)
              ∨ c ∈ movementFaults s (demandRequest s) r)
          ∧ (∀ c, c ∈ faults ↔ c ∈ laterFaults checked s (demandRequest s) r
              ∨ (dueCause s = some c ∧ (overload = true ∨ laterFaults checked s (demandRequest s) r ≠ [])))
          ∧ ((s.seq.state = .held ∧ s.seq.due = some .hold) ∨ (s.seq.state = .ending ∧ s.seq.due = some .ending) →
              dueCause s = some .holdTimeout)
          ∧ (s.seq.state = .claiming ∨ s.seq.state = .returning → s.seq.due = some .budget →
              dueCause s = some .budgetTimeout)
          ∧ (∀ c, c ∈ faults ∨ (overload = true ∧ c = .overload) →
              (moveSample checked overload r s).stop.record.isSome = true
                ∧ (c.code < 16 → (moveSample checked overload r s).stop.latch = true
                    ∧ (moveSample checked overload r s).stop.driving = true))
          ∧ (faults ≠ [] → (moveSample checked overload r s).travel.applied = 0)
          ∧ (∀ c cs, s.stop.record = none → judgmentDue s = false → entryFaults s = [] →
              faults ++ overloadFault overload = c :: cs →
              (moveSample checked overload r s).stop.further = min 255 cs.length
                ∧ ∃ k, (moveSample checked overload r s).stop.record = some k ∧ k.cause ∈ c :: cs
                    ∧ (faults ≠ [] → k.cause ∈ faults))
          ∧ (∀ c cs, s.stop.record = none → judgmentDue s = true → tareFails s = true →
              faults ++ overloadFault overload = c :: cs →
              (moveSample checked overload r s).stop.further = min 255 (cs.length + 1)
                ∧ ∃ k, (moveSample checked overload r s).stop.record = some k ∧ k.cause ∈ .tareUnstable :: c :: cs)
          ∧ (∀ a, s.isFollow = false → s.stop.latch = false → judgmentDue s = true → s.load.tare = some a →
              faults ++ overloadFault overload ≠ [] →
              (moveSample checked overload r s).load.tare = none
                ∧ ((moveSample checked overload r s).seq.state = .faulted
                    ∨ (moveSample checked overload r s).seq.state = .stopped)
                ∧ ((moveSample checked overload r s).load.tareOffset = s.load.tareOffset
                    ∨ (tareStable s.loadCapacity a.loads = true
                      ∧ (moveSample checked overload r s).load.tareOffset = a.loads.sum.tdiv 16)))
          ∧ (faults = [] → overload = false → entryFaults s = [] → (moveSample checked overload r s).stop = s.stop)
          ∧ (faults = [] → overload = false → entryFaults s ≠ [] → s.isFollow = false → s.stop.latch = false →
              ((moveSample checked overload r s).seq.state = .faulted
                  ∨ (moveSample checked overload r s).seq.state = .stopped)
                ∧ (moveSample checked overload r s).travel.applied = 0
                ∧ (s.stop.record = none →
                    (moveSample checked overload r s).stop.further = (entryFaults s).length - 1
                      ∧ ∃ k, (moveSample checked overload r s).stop.record = some k ∧ k.cause ∈ entryFaults s
                          ∧ k.state = .claiming))
          ∧ (s.isFollow = false → ∀ c, c ∈ entryFaults s ↔
              ((s.seq.state = .attaching ∧ s.ext.state = .settling ∧ 16 ≤ s.ext.strainCount)
                  ∨ (s.seq.state = .taring ∧ s.extPlan = none ∧ ∃ a, s.load.tare = some a ∧ a.loads.length = 16
                      ∧ tareStable s.loadCapacity a.loads = true))
                ∧ ((c = .skewLimit ∧ s.start.role = .lead ∧ s.pair.skewKnown = true ∧ s.pair.overLimit = false
                      ∧ s.skewLimit < s.pair.skew.natAbs)
                    ∨ (c = .zoneForbidden
                        ∧ ∃ z, zoneInForce s.zones s.lastPosition = some z ∧ z.permitsTest = false))))
    ∧ ∀ (c : Instr) (s : State), CompletesSample c s → TestStation s → s.seq.state = .claiming →
        (∃ z, zoneInForce s.zones s.travel.latched = some z ∧ z.permitsTest = false) →
        Next (exec c s) fun t => (t.seq.state = .faulted ∨ t.seq.state = .stopped) ∧ t.seq.phase = s.seq.phase
          ∧ t.recorder.runBegun = s.recorder.runBegun ∧ t.travel.applied = 0
          ∧ (s.stop.record = none → ∃ k, t.stop.record = some k ∧ k.state = .claiming)
          ∧ ∀ n k, n ∈ t.link.notices → n.kind = .phaseBegun k → n ∈ s.link.notices

/-- R35, R60, R62, R63, R154: the faults that the partner checks of a lead find on a sample, and the checks made
before the handling: a CLAIMING test in a zone without TEST (assumption 59) and, where the open order has them first,
the partner checks; what they find is reported with the fault of the skew limit check in an open order (assumption
56). A sample of an ARMED lead beside a stopped or faulted partner faults it. -/
def Obligations.PartnerChecksFaultLead : Prop :=
  (∀ s : State,
      (partnerCause s = some .partnerFault ↔ s.start.role = .lead ∧ s.seq.state.isTest = true ∧ s.pair.age ≤ 12
          ∧ ∃ m, s.pair.mirror = some m ∧ (m.state = .stopped ∨ m.state = .faulted))
        ∧ (partnerCause s = some .partnerRestarted ↔ s.start.role = .lead
            ∧ (s.seq.state = .running ∨ s.seq.state = .held) ∧ s.pair.age ≤ 12
            ∧ (s.pair.joined = true ∨ 12 < s.pair.runCount)
            ∧ ∃ m, s.pair.mirror = some m ∧ (m.state = .idle ∨ m.state = .unconfigured))
        ∧ ∀ (checked : Bool) (r : SampleRec), s.start.strapFault = false →
          let cs := firstFaults checked s r ++ skewFault s
          let t := checkFirst checked r s
          (claimForbidden s r = true ↔ s.isFollow = false ∧ s.seq.state = .claiming
              ∧ ∃ z, zoneInForce s.zones r.position = some z ∧ z.permitsTest = false)
            ∧ (∀ c, c ∈ firstFaults checked s r ↔ (c = .zoneForbidden ∧ claimForbidden s r = true)
                ∨ (partnerCause s = some c ∧ (checked = true ∨ claimForbidden s r = true)))
            ∧ (firstFaults checked s r = [] → t = s)
            ∧ (firstFaults checked s r ≠ [] → (t.seq.state = .faulted ∨ t.seq.state = .stopped)
                ∧ (Outcome .faulted t ∨ Outcome .stopped t) ∧ t.seq.phase = s.seq.phase
                ∧ (skewFires s = true → t.stop.latch = true ∧ (s.stop.latch = false → t.seq.state = .stopped))
                ∧ (s.stop.record = none → t.stop.further = cs.length - 1
                    ∧ ∃ k, t.stop.record = some k ∧ k.cause ∈ cs))
            ∧ (∀ c, firstFaults checked s r = [c] → skewFires s = false →
                t.seq.state = .faulted ∧ Recorded c s t ∧ Outcome .faulted t))
    ∧ ∀ (c : Instr) (s : State), CompletesSample c s → s.start.strapFault = false →
        s.seq.state = .armed → partnerCause s = some .partnerFault →
        Next (exec c s) fun t => t.stop.record.isSome = true ∧ t.travel.applied = 0
          ∧ (t.seq.state = .faulted ∨ t.seq.state = .stopped) ∧ (Outcome .faulted t ∨ Outcome .stopped t)
          ∧ (s.travel.appliedAtTick = 0 → Outcome .faulted t)

/-! ## The extensometer unit -/

/-- R9, R10, R94, R95, R96, R99, R110: the arm lines found high and the start of an identification word, each in the
state that watches for it and in the others, where it has no effect (assumption 22); the 16th reading in SETTLING
becomes the zero, and the sequencer claims. That reading waits for SETTLING_COMPLETE (assumption 9); on a sample with
a partner fault, OVERLOAD or a fault of the claim it leads to (assumption 59) the unit enters MEASURING before the arm
is opened, so the test record has a switchover, and the sequencer claims before OVERLOAD (assumption 62). -/
def Obligations.ArmLinesStartBitAndSettling : Prop :=
  (∀ s : State, PortSafe s →
      (s.ext.state = .closing → exec .armClosedHigh s
        = .next ((s.setLines { s.lines with armClosed := true }).setExt
            { s.ext with state := .ident, closeTimer := none, identTimer := some 0, shift := none }))
        ∧ (s.ext.state ≠ .closing → exec .armClosedHigh s = .next (s.setLines { s.lines with armClosed := true }))
        ∧ (s.ext.state = .opening → s.ext.attachWaits = false → exec .armOpenHigh s
            = .next ((s.setLines { s.lines with armOpen := true }).setExt
                { s.ext with state := .parked, openTimer := none }))
        ∧ (s.ext.state = .opening → s.ext.attachWaits = true → exec .armOpenHigh s
            = .next ((s.setLines { s.lines with armOpen := true }).setExt
                { s.ext with state := .closing, openTimer := none, closeTimer := some 0, idRec := none,
                             attachWaits := false }))
        ∧ (s.ext.state ≠ .opening → exec .armOpenHigh s = .next (s.setLines { s.lines with armOpen := true }))
        ∧ (s.ext.state = .ident → s.ext.shift = none → exec .identStartBit s
            = .next (s.setExt { s.ext with shift := some 0 }))
        ∧ (s.ext.state ≠ .ident ∨ s.ext.shift ≠ none → exec .identStartBit s = .next s))
    ∧ (∀ s : State, s.ext.state = .settling → 16 ≤ s.ext.strainCount →
      Next (exec .settlingComplete s) fun t =>
        t.ext = { s.ext with state := .measuring, zero := some s.ext.lastReading, slip := []
                             pair := some (0, s.travel.latched) }
          ∧ t.stop = s.stop
          ∧ (s.seq.state = .attaching → t.seq.state = .claiming ∧ t.budget.requested = s.shareOf 1
              ∧ t.budget.reason = .phase)
          ∧ (s.seq.state ≠ .attaching → t.seq = s.seq ∧ t.budget = s.budget))
    ∧ ∀ (reading l : Int) (s : State), TestStation s → StrainEnds s → s.load.reading = some l →
      s.ext.state = .settling → s.ext.strainCount = 15 → s.seq.state = .attaching → s.stop.latch = false →
      let y := max (-1100000) (min 1100000 reading)
      let v := loadView l (some y) (countSettling y s)
      Next (exec (.strainConversionEnd reading) s) fun t =>
        (overloadFires s v.gross v.reading = true ∨ partnerCause s ≠ none
              ∨ entryFaults (takenSample v (countSettling y s)) ≠ [] →
            t.ext.state = .opening ∧ t.ext.zero = some y ∧ t.ext.pair = some (0, s.travel.latched)
              ∧ (t.seq.state = .faulted ∨ t.seq.state = .stopped)
              ∧ ∀ w, t.testRec = some w → ∃ cause, w.switchPart = some (cause, 0, s.travel.latched))
          ∧ (overloadFires s v.gross v.reading = true → partnerCause s = none → s.travel.appliedAtTick = 0 →
              entryFaults (takenSample v (countSettling y s)) = [] → s.stop.record = none →
              ∃ k, t.stop.record = some k ∧ k.cause = .overload ∧ k.state = .claiming)
          ∧ (overloadFires s v.gross v.reading = false → partnerCause s = none → s.travel.appliedAtTick = 0 →
              entryFaults (takenSample v (countSettling y s)) = [] →
              t.ext.state = .settling ∧ t.ext.strainCount = 16 ∧ t.seq.state = .attaching)

/-- R9, R93 to R96, R98, R99, R105, R106, R110: the ways an attach fails by a timeout or by the seat lost before
measuring; the seat lost while MEASURING, which makes the switchover from the last measured pair and raises no fault;
the open timer's expiry, which jams the arm and is a local fault of a LEAD, SOLO or FOLLOW station once CONFIG has said
that an extensometer is fitted. The three timeouts are believed whatever their timers read (assumption 4). -/
def Obligations.AttachAndArmFailures : Prop :=
  (∀ s : State, TestStation s →
      (s.ext.state = .closing →
        Next (exec .extCloseTimeout s) (AttachFails .closeTimeout 0 .extCloseTimeout s))
        ∧ (s.ext.state = .ident → Next (exec .identTimeout s) (AttachFails .idFault 0 .extIdFault s))
        ∧ (s.ext.state = .ident ∨ s.ext.state = .settling →
            Next (exec .armClosedLow s) (AttachFails .idFault 0 .extIdFault s)))
    ∧ (∀ (s : State) (e p : Int), s.ext.state = .measuring → s.ext.pair = some (e, p) →
      Next (exec .armClosedLow s) fun t =>
        t.lines = { s.lines with armClosed := false }
          ∧ t.ext = { s.ext with
              state := .opening, openTimer := some 0, closeTimer := none, identTimer := none, shift := none
              offset := if s.seq.phase = 0 then 0 else e - s.rawStrain p }
          ∧ t.testRec = s.testRec.map (fun r => { r with switchPart := some (.idFault, e, p) })
          ∧ t.seq = s.seq ∧ t.stop = s.stop
          ∧ (s.link.notices.length < 8 →
              t.link.notices = s.link.notices ++ [{ kind := .extEvent .idFault 0, index := s.lastIndex }]))
    ∧ (∀ s : State, s.ext.state = .opening → Next (exec .extOpenTimeout s) fun t =>
      t.ext.state = .jammed ∧ t.ext.openTimer = none ∧ t.ext.attachWaits = false
        ∧ (s.start.config = none → t.stop = s.stop ∧ t.seq = s.seq)
        ∧ (∀ k, s.start.config = some k → k.extFitted = false → t.stop = s.stop ∧ t.seq = s.seq)
        ∧ (∀ k, s.start.strapFault = false → s.start.config = some k → k.extFitted = true →
            Recorded .extOpenTimeout s t ∧ t.travel.applied = 0
              ∧ (s.isFollow = false → s.seq.state.isTest = true → EndsFaulted .extOpenTimeout s t)
              ∧ (s.isFollow = true →
                  s.follow.state = .followClaim ∨ s.follow.state = .following ∨ s.follow.state = .held →
                  t.follow.state = .faulted ∧ t.follow.asked = 0 ∧ t.budget.requested = 0)))

/-- R101 to R104, R106: the examination of a sample completed while MEASURING: break, travel, slip and removal in this
order, then the slip window; and what a switchover writes. The span and the peak are those of the sample's completion.
A sample past the travel limit opens the arm whichever block handles it first; that a phase 1 beginning on it gives an
offset by that order is the model's reading (assumption 52). -/
def Obligations.ExaminationSwitchesOver : Prop :=
  (∀ (v : ExtView) (r : SampleRec) (plan : ExtPlan) (s : State), s.ext.state = .measuring →
    s.extPlan = some plan → s.ext.slip.length ≤ 8 → v.reading.natAbs ≤ 1100000 →
    (r.brk = true → examineSample v r s = switchover .testEnd s)
      ∧ (r.brk = false → TravelPassed s.ext v.reading → examineSample v r s = switchover .travel s)
      ∧ (r.brk = false → ¬TravelPassed s.ext v.reading → Slipped plan.slipTolerance v s.ext.slip r →
          examineSample v r s = switchover .slip s)
      ∧ (r.brk = false → ¬TravelPassed s.ext v.reading → ¬Slipped plan.slipTolerance v s.ext.slip r →
          RemovalDue s plan v r → examineSample v r s = switchover .removal s)
      ∧ (r.brk = false → ¬TravelPassed s.ext v.reading → ¬Slipped plan.slipTolerance v s.ext.slip r →
          ¬RemovalDue s plan v r → Joins v r → examineSample v r s = s.setExt { s.ext with
            slip := (if s.ext.slip.length = 8 then s.ext.slip.tail else s.ext.slip) ++ [(r.load, r.strain)] })
      ∧ (r.brk = false → ¬TravelPassed s.ext v.reading → ¬RemovalDue s plan v r → ¬Joins v r →
          examineSample v r s = s))
    ∧ (∀ (v : ExtView) (r : SampleRec) (s : State), s.ext.state ≠ .measuring → examineSample v r s = s)
    ∧ (∀ (cause : SwitchCause) (e p : Int) (s : State), s.ext.pair = some (e, p) →
        (switchover cause s).ext = { s.ext with
            state := .opening, openTimer := some 0, closeTimer := none, identTimer := none, shift := none
            offset := if s.seq.phase = 0 then 0 else e - s.rawStrain p }
          ∧ (switchover cause s).testRec = s.testRec.map (fun w => { w with switchPart := some (cause, e, p) })
          ∧ (cause = .testEnd ∨ cause = .stop ∨ cause = .abort → (switchover cause s).link = s.link)
          ∧ (∀ k, s.link.notices.length < 8 → (cause = .removal ∧ k = .removal) ∨ (cause = .slip ∧ k = .slip)
                ∨ (cause = .travel ∧ k = .travel) ∨ (cause = .idFault ∧ k = .idFault) →
              (switchover cause s).link.notices
                = s.link.notices ++ [{ kind := .extEvent k 0, index := s.lastIndex }]))
    ∧ ∀ (reading : Int) (s : State), TestStation s → s.ext.state = .measuring → StrainEnds s →
        TravelPassed s.ext (max (-1100000) (min 1100000 reading)) →
        Next (exec (.strainConversionEnd reading) s) fun t =>
          t.ext.state = .opening ∧ t.ext.openTimer = some 0

/-! ## The record unit -/

/-- R161 to R163: the sample that completes is offered when it is eligible and its turn in the decimation; it joins the
store when there is room and is lost otherwise. At the largest count the decimation does not advance either
(assumption 36). -/
def Obligations.SamplesAreOffered : Prop :=
  ∀ (c : Instr) (s : State), CompletesSample c s → Next (exec c s) fun t => ∃ r, t.load.last = some r
    ∧ (¬Eligible s → t.recorder.offered = s.recorder.offered ∧ t.recorder.lost = s.recorder.lost
        ∧ t.recorder.store = s.recorder.store ∧ t.recorder.decCount = s.recorder.decCount)
    ∧ (Eligible s → s.recorder.decCount ≠ 0 → t.recorder.offered = s.recorder.offered
        ∧ t.recorder.lost = s.recorder.lost ∧ t.recorder.store = s.recorder.store)
    ∧ (Eligible s → s.recorder.decCount = 0 → s.recorder.offered < 4294967295 → HasRoom s.recorder r →
        t.recorder.offered = s.recorder.offered + 1 ∧ t.recorder.store = s.recorder.store ++ [r]
          ∧ t.recorder.lost = s.recorder.lost)
    ∧ (Eligible s → s.recorder.decCount = 0 → s.recorder.offered < 4294967295 → ¬HasRoom s.recorder r →
        t.recorder.offered = s.recorder.offered + 1 ∧ t.recorder.store = s.recorder.store
          ∧ t.recorder.lost = s.recorder.lost + 1)
    ∧ (Eligible s → s.recorder.decCount = 0 → 4294967295 ≤ s.recorder.offered →
        t.recorder.offered = s.recorder.offered ∧ t.recorder.lost = s.recorder.lost
          ∧ t.recorder.store = s.recorder.store ∧ t.recorder.decCount = s.recorder.decCount)
    ∧ (∀ o, Eligible s → s.seq.order = some o → s.recorder.decCount ≠ 0 ∨ s.recorder.offered < 4294967295 →
        t.recorder.decCount = if o.decimation ≤ s.recorder.decCount + 1 then 0 else s.recorder.decCount + 1)
    ∧ t.recorder.sent = s.recorder.sent

/-- R22, R26, R164, R168, R169: the end of a test fixes outcome, end phase and counts, queues TEST_ENDED, builds the
RESULT, which takes the slot or waits, and lets the tail of the curve go; DONE and STOPPED come to it. -/
def Obligations.TestEndPlacesResult : Prop :=
  (∀ (o : TestOutcome) (w : TestRecord) (s : State), s.testRec = some w →
    let done := { w with outcome := some o, endPhase := s.seq.phase, offered := s.recorder.offered
                         stored := s.recorder.offered - s.recorder.lost, lost := s.recorder.lost }
    (endTest o s).testRec = some done ∧ (endTest o s).recorder.collection = .ended
      ∧ (endTest o s).recorder.store = s.recorder.store ∧ (endTest o s).load.spanOpen = false
      ∧ (endTest o s).load.peak = s.load.peak
      ∧ (s.link.result = none → s.link.resultInFlight = false →
          (endTest o s).link.result = some done ∧ (endTest o s).recorder.waiting = s.recorder.waiting)
      ∧ (s.link.result ≠ none ∨ s.link.resultInFlight = true →
          (endTest o s).link.result = s.link.result ∧ (endTest o s).recorder.waiting = some done)
      ∧ (s.link.notices.length < 8 → (endTest o s).link.notices
          = s.link.notices ++ [{ kind := .testEnded o, index := s.lastIndex }])
      ∧ (s.link.curve = none → s.link.curveInFlight = false → s.recorder.store ≠ [] →
          (endTest o s).link.curve = some { testId := w.testId, samples := s.recorder.store.take 8 })
      ∧ (s.link.curve ≠ none ∨ s.link.curveInFlight = true ∨ s.recorder.store = [] →
          (endTest o s).link.curve = s.link.curve))
    ∧ (∀ (w : TestRecord) (k : TestOutcome) (s : State), s.testRec = some w → w.outcome = some k →
        (enterDone s).seq.state = .done ∧ (enterDone s).budget.requested = 0
          ∧ (enterDone s).budget.reason = .release ∧ (enterDone s).recorder.collection = .ended
          ∧ Outcome k (enterDone s))
    ∧ ∀ (low : Bool) (w : TestRecord) (s : State), TestStation s → s.stop.latch = false →
        s.seq.state.isTest = true → s.testRec = some w → s.link.result = none → s.link.resultInFlight = false →
        Next (exec (.stopLineFall low) s) fun t => ∃ done, t.testRec = some done ∧ t.link.result = some done
          ∧ done.outcome = some .stopped ∧ done.endPhase = s.seq.phase ∧ done.offered = s.recorder.offered
          ∧ done.lost = s.recorder.lost ∧ t.recorder.collection = .ended

/-- R97, R98, R99, R184: the examination of an identification word, its fields read bit by bit. -/
def Obligations.IdentWordIsExamined : Prop :=
  ∀ (w : BitVec 32) (s : State), TestStation s → s.ext.state = .ident → s.ext.shift ≠ none →
    Next (exec (.identWord w) s) fun t =>
      let code := (w.extractLsb' 29 3).toNat
      let travel := (w.extractLsb' 24 5).toNat
      let serial := (w.extractLsb' 8 16).toNat
      let good := (w.extractLsb' 0 8).toNat = (code * 32 + travel + serial / 256 + serial % 256) % 256
      (¬good → t.ext.idRec = s.ext.idRec ∧ AttachFails .idFault 0 .extIdFault s t)
        ∧ (good → t.ext.idRec = some { code, travel, serial })
        ∧ (good → code = 0 ∨ code = 6 ∨ code = 7 ∨ travel = 0 → AttachFails .idFault 0 .extIdFault s t)
        ∧ (good → code ≠ 0 → code ≠ 6 → code ≠ 7 → travel ≠ 0 → code ≠ s.expectedGauge →
            AttachFails .gaugeMismatch code .extGaugeMismatch s t)
        ∧ (good → code ≠ 0 → code ≠ 6 → code ≠ 7 → travel ≠ 0 → code = s.expectedGauge →
            t.ext.state = .settling ∧ t.ext.strainCount = 0 ∧ t.ext.identTimer = none ∧ t.ext.shift = none
              ∧ t.seq = s.seq ∧ t.stop = s.stop ∧ t.link.notices = s.link.notices)

/-! ## The link -/

/-- R114 to R116, R119, R122, R134, R173: a start bit sensed in QUIET, and the idle line after a frame that is not
judged, as any in STRAP_FAULT; elsewhere they have no effect (assumption 22). A receive error counts its kind,
dispatches nothing and makes the budget unit stale. -/
def Obligations.LineStateAndReceiveErrors : Prop :=
  (∀ s : State, PortSafe s →
      (s.link.line = .quiet → exec .startBitSensed s
        = .next (s.setLink { s.link with line := .receiving, taking := true, quiet := 0 }))
        ∧ (s.link.line ≠ .quiet → exec .startBitSensed s = .next s)
        ∧ (s.link.line = .receiving → s.link.taking = false ∨ s.start.strapFault = true → exec .lineIdle s
            = .next (s.setLink { s.link with line := .quiet, taking := false, quiet := 1 }))
        ∧ (s.link.line ≠ .receiving ∨ (s.link.taking = true ∧ s.start.strapFault = false) →
            exec .lineIdle s = .next s))
    ∧ (∀ (x : Taken) (s : State), s.start.strapFault = false → s.link.takes = true → judgeTaken x ≠ .good →
      Next (exec (.receiveError x) s) fun t =>
        (judgeTaken x = .short ↔ x.bytes.length < 6)
          ∧ t.link.errShort = (if judgeTaken x = .short then min 255 (s.link.errShort + 1) else s.link.errShort)
          ∧ t.link.errLength = (if judgeTaken x = .length then min 255 (s.link.errLength + 1) else s.link.errLength)
          ∧ t.link.errCheck = (if judgeTaken x = .check then min 255 (s.link.errCheck + 1) else s.link.errCheck)
          ∧ t.link.line = .quiet ∧ t.link.presence = s.link.presence ∧ t.link.notices = s.link.notices
          ∧ t.stop = s.stop ∧ t.seq = s.seq ∧ t.pair = s.pair
          ∧ t.budget.inStep = false ∧ t.budget.table = s.budget.table ∧ t.budget.epoch = s.budget.epoch
          ∧ t.budget.requested = s.budget.requested ∧ t.budget.lastHeard = s.budget.lastHeard
          ∧ (s.budget.inStep = true → t.budget.lock = false
              ∧ t.budget.coldTimer = (if s.start.config.isSome then some 0 else none)
              ∧ t.link.grant = (if s.link.pendingRaise then none else s.link.grant))
          ∧ (s.budget.inStep = false → t.budget = s.budget ∧ t.link.grant = s.link.grant))

/-- R115, R179: the judgment of what was taken from the line, with the two sums of the check written out, and that the
frames that the station sends pass it. -/
def Obligations.ReceivedBytesAreJudged : Prop :=
  (∀ x : Taken,
      let n := (x.bytes.getD 4 0).toNat * 256 + (x.bytes.getD 5 0).toNat
      let body := x.bytes.take (6 + n)
      (x.bytes.length < 6 → judgeTaken x = .short)
        ∧ (6 ≤ x.bytes.length → 160 < n ∨ x.partialByte = true ∨ x.bytes.length ≠ 6 + n + 2 →
            judgeTaken x = .length)
        ∧ (6 ≤ x.bytes.length → n ≤ 160 → x.partialByte = false → x.bytes.length = 6 + n + 2 →
            judgeTaken x = if (x.bytes.getD (6 + n) 0).toNat = (body.map (·.toNat)).sum % 255
                ∧ (x.bytes.getD (7 + n) 0).toNat = weightedSum body % 255 then .good else .check))
    ∧ ∀ (number : Nat) (i : InFlight), i.frame.payload.length ≤ 160 →
        judgeTaken { bytes := wireBytes number i, partialByte := false } = .good

/-- R117, R118, R120, R135: at a quiet line the pending frame of the lowest eligible level starts once its window is
reached, not before; a raise whose claim lock is clear is withdrawn instead. In STRAP_FAULT no slot is eligible, during
the start interval and with a duplicate number only STATUS, and else all. The operand is the silence since the last
report (assumption 6). -/
def Obligations.ArbiterStartsLowestLevel : Prop :=
  (∀ (q level : Nat) (x : OutFrame) (s : State), PortSafe s → s.link.line = .quiet → eligible s level = true →
      pendingFrame s level = some x → (∀ k, k < level → eligible s k = false ∨ pendingFrame s k = none) →
      (s.link.quiet + q < 8 + 16 * level + s.start.number →
        exec (.frameStart q) s = .next (s.setLink { s.link with quiet := s.link.quiet + q }))
        ∧ (8 + 16 * level + s.start.number ≤ s.link.quiet + q →
            (∀ g, x = .grant g → g.raise = true → s.budget.lock = true) →
            exec (.frameStart q) s = .next (s.setLink
              { s.link.leaveSlot x with
                  line := .sending, taking := false, quiet := 0
                  inFlight := some { frame := x, epoch := s.budget.epoch, inStep := s.budget.inStep
                                     disowned := false } }))
        ∧ (∀ g, 8 + 16 * level + s.start.number ≤ s.link.quiet + q → x = .grant g → g.raise = true →
            s.budget.lock = false → s.link.inFlight = none →
            Next (exec (.frameStart q) s) fun t =>
              t.link.line = .quiet ∧ t.link.inFlight = none ∧ t.link.quiet = s.link.quiet + q
                ∧ (s.budget.inStep = false → s.ownEntry < s.budget.requested →
                    t.link.grant = none ∧ t.budget.lock = false)
                ∧ (s.budget.inStep = true → s.start.config ≠ none → s.ownEntry < s.budget.requested →
                    s.fits s.budget.requested = true →
                    t.link.grant = some { units := s.budget.requested, reason := s.budget.reason, raise := true }
                      ∧ t.budget.lock = true)))
    ∧ (∀ (level : Nat) (s : State),
      (s.start.strapFault = true → eligible s level = false)
        ∧ (s.start.strapFault = false → s.start.intervalEnded = false → eligible s level = decide (level = 4))
        ∧ (∀ k, s.start.strapFault = false → s.stop.record = some k → k.cause = .duplicateNumber →
            eligible s level = decide (level = 4))
        ∧ (s.start.strapFault = false → s.start.intervalEnded = true →
            (∀ k, s.stop.record = some k → k.cause ≠ .duplicateNumber) → eligible s level = true))

/-- R121, R124, R140: what the completion of each of the station's own frames does. A lowering is applied, a raise
only when its epoch is the unit's and the sum fits; an applied frame advances the epoch, and the other entries stay.
R140 gives the epoch of a STALE unit no start; that it is the header's, as R141 has it for a receiver, is the model's
reading (assumption 28). -/
def Obligations.CompletionOfOwnFrames : Prop :=
  (∀ (i : InFlight) (s : State), s.link.line = .sending → s.link.inFlight = some i →
      Next (exec .frameComplete s) fun t =>
        t.link.line = .quiet ∧ t.link.quiet = 0 ∧ t.link.inFlight = none ∧ t.stop = s.stop ∧ t.seq = s.seq
          ∧ ((∀ g, i.frame ≠ .grant g) → t.budget = s.budget)
          ∧ (∀ n, i.frame = .notice n → i.disowned = false → s.link.lost = 0 →
              t.link.notices = s.link.notices.tail ∧ t.link.lost = 0)
          ∧ (∀ n, i.frame = .notice n → i.disowned = false → s.link.lost ≠ 0 →
              t.link.notices = s.link.notices.tail ++ [{ kind := .noticesLost s.link.lost, index := s.lastIndex }]
                ∧ t.link.lost = 0)
          ∧ (∀ n, i.frame = .notice n → i.disowned = true →
              t.link.notices = s.link.notices ∧ t.link.lost = s.link.lost)
          ∧ (∀ r w, i.frame = .result r → s.recorder.waiting = some w → s.link.result = none →
              t.link.result = some w ∧ t.recorder.waiting = none)
          ∧ (∀ c, i.frame = .curve c → i.disowned = false →
              t.recorder.store = s.recorder.store.drop c.samples.length
                ∧ t.recorder.sent = s.recorder.sent + c.samples.length)
          ∧ (∀ c, i.frame = .curve c → i.disowned = true → t.recorder = s.recorder))
    ∧ (∀ (i : InFlight) (g : GrantFrame) (s : State), s.link.line = .sending → s.link.inFlight = some i →
      i.frame = .grant g → 1 ≤ s.start.number → s.start.number ≤ 14 →
      Next (exec .frameComplete s) fun t =>
        t.link.line = .quiet ∧ t.link.inFlight = none ∧ t.budget.requested = s.budget.requested
          ∧ (g.units ≤ s.ownEntry ∨ (i.epoch = s.budget.epoch ∧ s.fits g.units = true) →
              EntrySet s.start.number g.units s t ∧ t.budget.inStep = s.budget.inStep
                ∧ t.budget.epoch = (if s.budget.inStep then s.budget.epoch else i.epoch) + 1)
          ∧ (s.ownEntry < g.units → i.epoch ≠ s.budget.epoch ∨ (s.start.config ≠ none ∧ s.fits g.units = false) →
              t.budget.table = s.budget.table ∧ t.budget.epoch = s.budget.epoch ∧ t.budget.inStep = false))

/-- R121, R122, R124, R140: an abandoned frame returns to its slot unless the slot holds a newer one; a notice stays
at the head; a GRANT goes back to the budget unit and is not applied; no error is counted. -/
def Obligations.AbandonmentReturnsFrame : Prop :=
  ∀ (i : InFlight) (s : State), s.link.line = .sending → s.link.inFlight = some i →
    Next (exec .frameAbandon s) fun t =>
      t.link.line = .receiving ∧ t.link.taking = false ∧ t.link.inFlight = none
        ∧ t.link.errCheck = s.link.errCheck ∧ t.link.errLength = s.link.errLength
        ∧ t.link.errShort = s.link.errShort ∧ t.link.notices = s.link.notices ∧ t.link.lost = s.link.lost
        ∧ t.budget.table = s.budget.table ∧ t.budget.epoch = s.budget.epoch ∧ t.budget.inStep = s.budget.inStep
        ∧ t.recorder = s.recorder ∧ t.stop = s.stop ∧ t.seq = s.seq
        ∧ (∀ c, i.frame = .stop c → t.link.stop = if s.link.stop = none then some c else s.link.stop)
        ∧ (∀ l, i.frame = .level l → t.link.level = if s.link.level = none then some l else s.link.level)
        ∧ (∀ x, i.frame = .status x → t.link.status = if s.link.status = none then some x else s.link.status)
        ∧ (∀ r, i.frame = .result r → i.disowned = false → s.link.result = none → t.link.result = some r)
        ∧ (∀ c, i.frame = .curve c → i.disowned = false → s.link.curve = none → t.link.curve = some c)
        ∧ (∀ c, i.frame = .curve c → i.disowned = true → t.link.curve = s.link.curve)
        ∧ (∀ g, i.frame = .grant g → s.budget.requested = s.ownEntry →
            t.link.grant = none ∧ t.budget.lock = false)

/-- R6, R53, R54, R56, R129, R130, R131, R149: the LEVEL and STATUS timers place a frame built from the state and begin
again, and what the fields of each frame are; a member whose age has passed the presence timeout leaves the list, and
no other member does. Before the first sample index and position are 0, the model's choice (assumption 33), and the
lead index that a follow with an empty mirror sends is not spoken of (assumption 45). -/
def Obligations.TimersAndPresence : Prop :=
  (∀ s : State, LevelOf s (buildLevel s) ∧ StatusOf s (buildStatus s))
  ∧ ((∀ (s : State) (n : Nat), PortSafe s → s.pair.levelTimer = some n → 4 ≤ n →
      exec .levelTimer s
        = .next ((s.setPair { s.pair with levelTimer := some 0 }).setLink
            { s.link with level := some (buildLevel s) }))
      ∧ ∀ (s : State) (n : Nat), PortSafe s → s.link.statusTimer = some n → s.statusPeriod ≤ n →
          exec .statusTimer s
            = .next (s.setLink { s.link with statusTimer := some 0, status := some (buildStatus s) }))
    ∧ ∀ (n : Node) (s : State) (h : n.toNat < 15) (a : Nat), PortSafe s → s.link.presence[n.toNat] = some a →
        (4 * s.statusPeriod < a →
          exec (.presenceTimeout n) s
            = .next (s.setLink { s.link with presence := s.link.presence.set n.toNat none h }))
          ∧ (a ≤ 4 * s.statusPeriod → exec (.presenceTimeout n) s = .next s)

/-- R125, R129, R132, R135: every good frame of a class the station knows, from another node, ends the reception,
makes its sender present, gives the last heard epoch and has its header judged; a frame without use for the station,
and one that R126 or R127 discards or whose payload has not the length that its owner asks for, does nothing more; one
with sender 15 or of a class that the station does not know ends the reception and does nothing else; a frame with the
station's own number is reported as DUPLICATE_NUMBER, and is neither dispatched nor made present. -/
def Obligations.GoodFrameIsExamined : Prop :=
  (∀ (c : Instr) (f : RxFrame) (s : State), frameOf c = some f → Takes f s → Next (exec c s) fun t =>
    t.link.line = .quiet ∧ t.link.taking = false ∧ t.link.quiet = 1 ∧ t.budget.lastHeard = f.epoch
      ∧ (c ≠ .grantFrame f → c ≠ .statusFrame f → t.budget.inStep = staysInStep f s)
      ∧ ∀ k (h : k < 15), t.link.presence[k] = if k = f.sender.toNat then some 0 else s.link.presence[k])
    ∧ (∀ (cls : Byte) (f : RxFrame) (s : State), 1 ≤ cls.toNat → cls.toNat ≤ 13 → Takes f s →
        Next (exec (.reportFrame cls f) s) fun t =>
          HeaderOnly f s t ∧ t.link.notices = s.link.notices ∧ t.link.lost = s.link.lost)
    ∧ (∀ (c : Instr) (f : RxFrame) (s : State), Takes f s → Discards c f s → Next (exec c s) fun t =>
        HeaderOnly f s t ∧ t.link.notices = s.link.notices ∧ t.link.lost = s.link.lost
          ∧ t.lines = reportedLines c s.lines)
    ∧ (∀ (c : Instr) (f : RxFrame) (s : State), PortSafe s → s.link.takes = true →
        (frameOf c = some f ∧ f.sender = 15)
          ∨ (∃ cls, c = .reportFrame cls f ∧ (cls.toNat = 0 ∨ 13 < cls.toNat)) →
        exec c s = .next ((s.setLines (reportedLines c s.lines)).setLink
          { s.link with line := .quiet, taking := false, quiet := 1 }))
    ∧ ∀ (c : Instr) (f : RxFrame) (s : State), frameOf c = some f → s.start.strapFault = false →
        s.link.takes = true → f.sender ≠ 15 → f.sender.toNat = s.start.number →
        Next (exec c s) fun t =>
          Recorded .duplicateNumber s t ∧ t.link.presence = s.link.presence ∧ t.budget.lastHeard = s.budget.lastHeard
            ∧ t.budget.table = s.budget.table ∧ t.budget.epoch = s.budget.epoch
            ∧ t.budget.inStep = s.budget.inStep ∧ t.stop.latch = s.stop.latch ∧ t.start = s.start
            ∧ (s.isFollow = false → s.seq.state.isTest = true → EndsFaulted .duplicateNumber s t)

/-! ## Frames of stations -/

/-- R138, R140, R141: a GRANT of another station: a lowering is applied, a raise when its epoch is the unit's and the
sum fits, and is refused with entry to STALE otherwise. Either way the claim lock is cleared, and set again only with
a raise placed afresh. -/
def Obligations.GrantIsAppliedOrRefused : Prop :=
  ∀ (f : RxFrame) (units reason : Byte) (s : State), Takes f s → f.sender ≠ 0 → f.payload = [units, reason] →
    Next (exec (.grantFrame f) s) fun t =>
      t.budget.requested = s.budget.requested ∧ t.stop = s.stop ∧ t.seq = s.seq
        ∧ (s.link.pendingRaise = true → t.budget.lock = false)
        ∧ (s.link.grantInFlight ≠ none → t.budget.lock = false)
        ∧ (t.budget.lock = true → t.link.grant
            = some { units := t.budget.requested, reason := t.budget.reason, raise := true })
        ∧ (units.toNat ≤ s.budget.entry f.sender.toNat
              ∨ (f.epoch = s.budget.epoch
                  ∧ (s.start.config = none
                      ∨ tableSum (s.budget.setEntry f.sender.toNat units.toNat) ≤ s.capacity)) →
            EntrySet f.sender.toNat units.toNat s t ∧ t.budget.epoch = nextEpoch f s
              ∧ t.budget.inStep = staysInStep f s)
        ∧ (s.budget.entry f.sender.toNat < units.toNat →
            f.epoch ≠ s.budget.epoch
              ∨ (s.start.config ≠ none
                  ∧ s.capacity < tableSum (s.budget.setEntry f.sender.toNat units.toNat)) →
            t.budget.table = s.budget.table ∧ t.budget.epoch = s.budget.epoch ∧ t.budget.inStep = false)

/-- R55, R63, R180: the bytes of a LEVEL payload of a LEAD and of a FOLLOW, as a station sends and as it reads them; no
other bytes are a LEVEL. One of the partner in the other role becomes the mirror with age 0; any other, and one that is
no LEVEL, leaves the pair unit as it is. -/
def Obligations.LevelFrameBecomesMirror : Prop :=
  (∀ m : Level, LevelFits m → (OutFrame.level m).payload = levelLayout m ∧ parseLevel (levelLayout m) = some m)
  ∧ (∀ (bytes : List Byte) (m : Level), parseLevel bytes = some m → bytes = levelLayout m ∧ LevelFits m)
  ∧ ∀ (f : RxFrame) (s : State), Takes f s →
    (∀ m, parseLevel f.payload = some m → f.sender.toNat = s.start.partner → f.sender ≠ 0 →
        (s.start.role = .lead ∧ m.role = .follow) ∨ (s.start.role = .follow ∧ m.role = .lead) →
        Next (exec (.levelFrame f) s) fun t =>
          t.pair = { s.pair with mirror := some m, age := 0, joined := t.pair.joined }
            ∧ (t.pair.joined = true ↔ s.pair.joined = true
                ∨ (s.start.role = .lead ∧ s.seq.state.isTest = true
                    ∧ (m.state = .followClaim ∨ m.state = .following ∨ m.state = .held)))
            ∧ t.stop = s.stop ∧ t.seq = s.seq ∧ t.follow = s.follow)
      ∧ ((∀ m, parseLevel f.payload = some m → ¬(f.sender.toNat = s.start.partner ∧ f.sender ≠ 0
            ∧ ((s.start.role = .lead ∧ m.role = .follow) ∨ (s.start.role = .follow ∧ m.role = .lead)))) →
          Next (exec (.levelFrame f) s) fun t =>
            HeaderOnly f s t ∧ t.link.notices = s.link.notices ∧ t.link.lost = s.link.lost)

/-- R133, R143, R144, R181: the bytes of a STATUS payload, as a station sends them; what a receiver reads from one of 55
bytes with bit 3 set, or of 40 with bit 3 clear, and that it uses no other. A STATUS with another capacity is a local
fault and is not adopted; one offered for recovery gives the whole table and the epoch; an in-step unit that agrees
keeps what it has. A unit that the recovery takes IN_STEP replaces a pending STATUS, one that the same header took out
of step too. The epoch adopted is that of the payload (assumption 21), and before CONFIG the judgment that follows
places no GRANT (assumption 51). -/
def Obligations.StatusFrameRecoversTable : Prop :=
  (∀ v : Status, StatusFits v →
      let bs := (OutFrame.status v).payload
      let at_ := fun i => (bs.getD i 0).toNat
      bs.length = (if v.inStep then 55 else 40)
        ∧ at_ 0 = v.role.code ∧ at_ 1 = v.state.code ∧ at_ 2 = v.phase
        ∧ (at_ 3).testBit 7 = v.latch ∧ (at_ 3).testBit 6 = v.driving ∧ (at_ 3).testBit 5 = v.lineLow
        ∧ (at_ 3).testBit 4 = v.lockedCause.isSome ∧ (at_ 3).testBit 3 = v.inStep ∧ (at_ 3).testBit 2 = v.standstill
        ∧ (at_ 3).testBit 1 = decide (v.extState = .measuring) ∧ (at_ 3).testBit 0 = v.gauge.isSome
        ∧ at_ 4 = (v.lockedCause.map (·.code)).getD 0 ∧ at_ 5 = v.further ∧ bs.getD 6 0 = v.epoch
        ∧ at_ 7 = v.capacity ∧ (bs.drop 8).take 4 = wordBytes v.index ∧ (bs.drop 12).take 4 = intBytes v.position
        ∧ (bs.drop 16).take 4 = intBytes v.velocity ∧ (bs.drop 20).take 4 = intBytes v.load
        ∧ at_ 24 = v.range.code ∧ at_ 25 = v.extState.code ∧ at_ 26 = (v.gauge.map (·.1)).getD 0
        ∧ (bs.drop 27).take 2 = natBytes 2 ((v.gauge.map (·.2)).getD 0)
        ∧ (bs.drop 29).take 4 = wordBytes v.leadIndex ∧ at_ 33 = v.mirrorAge
        ∧ at_ 34 = v.errCheck ∧ at_ 35 = v.errLength ∧ at_ 36 = v.errShort ∧ at_ 37 = v.lost
        ∧ (∀ n, (at_ 38 * 256 + at_ 39).testBit n = decide (n ∈ v.presence))
        ∧ (∀ es, v.entries = some es → (bs.drop 40).map (·.toNat) = es))
  ∧ (∀ (bs : List Byte) (v : StatusView), parseStatus bs = some v ↔
      ((bs.length = 55 ∧ (bs.getD 3 0).toNat.testBit 3 = true ∧ v.entries = some ((bs.drop 40).map (·.toNat)))
          ∨ (bs.length = 40 ∧ (bs.getD 3 0).toNat.testBit 3 = false ∧ v.entries = none))
        ∧ v.capacity = (bs.getD 7 0).toNat ∧ v.epoch = bs.getD 6 0)
  ∧ (∀ (f : RxFrame) (s : State), Takes f s → parseStatus f.payload = none → Next (exec (.statusFrame f) s) fun t =>
      HeaderOnly f s t ∧ t.link.notices = s.link.notices ∧ t.link.lost = s.link.lost)
  ∧ ∀ (f : RxFrame) (v : StatusView) (s : State), Takes f s → parseStatus f.payload = some v →
    Next (exec (.statusFrame f) s) fun t =>
      (s.start.config ≠ none → v.capacity ≠ 0 → v.capacity ≠ s.capacity →
          Recorded .configMismatch s t ∧ t.budget.table = s.budget.table ∧ t.budget.epoch = s.budget.epoch
            ∧ t.budget.inStep = staysInStep f s)
        ∧ (∀ es, staysInStep f s = false → v.entries = some es → s.start.config = none ∨ v.capacity = s.capacity →
            (∀ k, 0 < k → k < 15 → t.budget.entry k = es.getD k 0) ∧ t.budget.entry 0 = 0
              ∧ t.budget.epoch = v.epoch ∧ t.budget.inStep = s.start.config.isSome ∧ t.stop = s.stop
              ∧ (s.start.config ≠ none → t.budget.coldTimer = none)
              ∧ (s.start.config = none → s.link.grantInFlight = none → t.link.grant = none)
              ∧ (s.start.config ≠ none → s.link.status ≠ none → t.link.status = some (buildStatus t))
              ∧ t.budget.requested = s.budget.requested)
        ∧ (s.start.config ≠ none → v.capacity = 0 → s.capacity ≠ 0 →
            t.stop = s.stop ∧ t.budget.table = s.budget.table ∧ t.budget.epoch = s.budget.epoch
              ∧ t.budget.inStep = staysInStep f s)
        ∧ (s.start.config = none ∨ v.capacity = 0 ∨ v.capacity = s.capacity →
            staysInStep f s = true ∨ v.entries = none →
            t.budget.table = s.budget.table ∧ t.budget.epoch = s.budget.epoch
              ∧ t.budget.inStep = staysInStep f s ∧ t.stop = s.stop)

/-- R145: the cold start forgets every entry but the own one, takes the last heard epoch and is in step. -/
def Obligations.ColdStartKeepsOwnEntry : Prop :=
  ∀ (s : State) (n : Nat), s.budget.coldTimer = some n → 4 * s.statusPeriod ≤ n → s.budget.inStep = false →
    Next (exec .coldStart s) fun t =>
      (∀ k, k < 15 → t.budget.entry k = if k ≠ 0 ∧ k = s.start.number then s.budget.entry k else 0)
        ∧ t.budget.epoch = s.budget.lastHeard ∧ t.budget.inStep = true ∧ t.budget.coldTimer = none
        ∧ t.budget.requested = s.budget.requested ∧ t.stop = s.stop ∧ t.seq = s.seq

/-! ## Commands of the cell computer -/

/-- R2 to R4, R63, R76, R86, R107, R166, R167: an ORDER that is refused queues its one notice and leaves the test
sequencer, the order held, the test record and the curve store as they are; an accepted one arms the sequencer with a
fresh test record and an empty store. -/
def Obligations.OrderIsAcceptedOrRefused : Prop :=
  (∀ (f : RxFrame) (s : State) (why : OrderRefusal), Takes f s → f.sender = 0 → f.dest.toNat = s.start.number →
      (s.isFollow = true ∧ why = .notLead)
        ∨ (s.isFollow = false ∧ why = .busy
            ∧ ((s.seq.state ≠ .idle ∧ s.seq.state ≠ .done) ∨ s.start.intervalEnded = false ∨ s.stop.latch = true
                ∨ s.stop.record.isSome = true))
        ∨ (s.isFollow = false ∧ why = .badOrder ∧ (s.seq.state = .idle ∨ s.seq.state = .done)
            ∧ s.start.intervalEnded = true ∧ s.stop.latch = false ∧ s.stop.record = none
            ∧ ∀ k, s.start.config = some k → acceptableOrder k f.payload = none) →
      Next (exec (.order f) s) fun t =>
        t.seq = s.seq ∧ t.testRec = s.testRec ∧ t.recorder = s.recorder ∧ t.load = s.load ∧ t.ext = s.ext
          ∧ t.pair = s.pair ∧ t.stop = s.stop ∧ t.follow = s.follow
          ∧ (s.link.notices.length < 8 →
              t.link.notices = s.link.notices ++ [{ kind := .orderRefused why, index := s.lastIndex }]))
    ∧ (∀ (f : RxFrame) (s : State) (k : Settings) (o : Order), Takes f s → f.sender = 0 →
      f.dest.toNat = s.start.number → s.isFollow = false → s.seq.state = .idle ∨ s.seq.state = .done →
      s.start.intervalEnded = true → s.stop.latch = false → s.stop.record = none →
      s.start.config = some k → acceptableOrder k f.payload = some o →
      Next (exec (.order f) s) fun t =>
        t.seq.state = .armed ∧ t.seq.order = some o ∧ t.seq.phase = 0 ∧ t.seq.holdCount = 0 ∧ t.seq.gripsCount = 0
          ∧ t.seq.testZero = s.lastPosition
          ∧ (∃ r, t.testRec = some r ∧ r.testId = o.testId ∧ r.outcome = none ∧ r.maxLoad = 0 ∧ r.yieldPart = none
              ∧ r.switchPart = none ∧ r.breakPart = none ∧ r.holdCount = 0 ∧ r.faultCause = none)
          ∧ t.recorder = { Recorder.reset with collection := .collecting, waiting := s.recorder.waiting }
          ∧ t.link.curve = none ∧ t.link.result = s.link.result
          ∧ t.load.spanOpen = false ∧ t.load.peak = none ∧ t.load.rangeMode = o.rangeMode
          ∧ t.load.tareOffset = s.load.tareOffset ∧ t.ext.offset = 0 ∧ t.ext.state = s.ext.state
          ∧ t.pair.joined = false ∧ t.budget.table = s.budget.table ∧ t.stop = s.stop
          ∧ (s.link.notices.length < 8 →
              t.link.notices = s.link.notices ++ [{ kind := .orderAccepted o.testId, index := s.lastIndex }]))

/-- R3, R183: the bytes of an ORDER payload give the order back when every content check passes, and no order when one
fails, when the payload is cut short or runs on, or when a part is declared twice. No other bytes are accepted: an
accepted payload is the layout of the order read from it, which passes every check. -/
def Obligations.OrderContentIsChecked : Prop :=
  (∀ (c : Settings) (o : Order), OrderFits o →
    (OrderGood c.capacity c.extFitted o → acceptableOrder c (orderLayout o) = some o)
      ∧ (¬OrderGood c.capacity c.extFitted o → acceptableOrder c (orderLayout o) = none)
      ∧ (∀ more, more ≠ [] → acceptableOrder c (orderLayout o ++ more) = none)
      ∧ ∀ n, n < (orderLayout o).length → acceptableOrder c ((orderLayout o).take n) = none)
    ∧ (∀ (c : Settings) (o : Order) (y : YieldPlan) (p : ExtPlan) (r : ReturnPlan) (rest : List Byte),
        acceptableOrder c (headLayout o ++ 3 :: yieldLayout y ++ 3 :: rest) = none
          ∧ acceptableOrder c (headLayout o ++ 4 :: planLayout p ++ 4 :: rest) = none
          ∧ acceptableOrder c (headLayout o ++ 5 :: returnLayout r ++ 5 :: rest) = none)
    ∧ ∀ (c : Settings) (bytes : List Byte) (o : Order), acceptableOrder c bytes = some o →
        bytes = orderLayout o ∧ OrderFits o ∧ OrderGood c.capacity c.extFitted o

/-- R18, R19, R84: an ABORT to this station or to all: a test not yet ending enters ENDING as ABORTED, a return move
is cancelled with BROKEN kept; in the other states, and on a FOLLOW station, the frame brings what any valid frame
brings and nothing else. -/
def Obligations.AbortEndsTest : Prop :=
  ∀ (f : RxFrame) (s : State), Takes f s → f.sender = 0 → f.dest.toNat = s.start.number ∨ f.dest = 15 →
    f.payload = [] →
    Next (exec (.abort f) s) fun t =>
      (s.isFollow = false → 2 ≤ s.seq.state.code → s.seq.state.code ≤ 7 →
          t.seq.state = .ending ∧ t.seq.phase = s.seq.phase ∧ Outcome .aborted t ∧ t.load.tare = none
            ∧ t.load.tareOffset = s.load.tareOffset
            ∧ (s.ext.state = .closing ∨ s.ext.state = .ident ∨ s.ext.state = .settling
                ∨ s.ext.state = .measuring → t.ext.state = .opening)
            ∧ (s.ext.state = .parked → t.ext.state = .parked))
        ∧ (s.isFollow = false → s.seq.state = .returning →
            t.seq.state = .ending ∧ t.seq.returnCancelled = true ∧ Outcome .broken t)
        ∧ (s.isFollow = true ∨ s.seq.state = .ending ∨ s.seq.state.code ≤ 1 ∨ 10 ≤ s.seq.state.code →
            HeaderOnly f s t ∧ t.link.lost = s.link.lost)
        ∧ t.stop = s.stop ∧ t.link.notices = s.link.notices

/-- R25, R51, R68, R111, R156, R157: a CLEAR unlocks the record and releases the line; it clears the latch and takes
the sequencer to IDLE when the line is high, and is refused when the line is low. A TRIPPED port becomes ACTIVE when
the amplifier fault line is inactive; while it is active the port stays TRIPPED and reports DRIVE_FAULT again. -/
def Obligations.ClearReleasesStop : Prop :=
  ∀ (f : RxFrame) (lines : Lines) (s : State), Takes f s → f.sender = 0 →
    f.dest.toNat = s.start.number ∨ f.dest = 15 → f.payload = [] →
    Next (exec (.clear f lines) s) fun t =>
      (s.travel.tripped = false ∨ lines.ampFault = false →
          t.stop.record = none ∧ t.stop.further = 0 ∧ t.stop.driving = false ∧ t.stop.latch = lines.stopLow
            ∧ t.travel.tripped = false
            ∧ (lines.stopLow = true → s.stop.latch = true → s.link.notices.length < 8 →
                t.link.notices = s.link.notices ++ [{ kind := .clearRefused, index := s.lastIndex }]))
        ∧ (s.travel.tripped = true → lines.ampFault = true →
            StaysTripped t
              ∧ (lines.stopLow = false → s.link.notices.length < 8 → ∃ r more, t.stop.record = some r
                  ∧ t.link.notices
                    = s.link.notices ++ { kind := .fault .driveFault (some r), index := s.lastIndex } :: more))
        ∧ t.lines = lines ∧ t.load.overPrev = false ∧ t.pair.overLimit = false ∧ t.travel.counter = s.travel.counter
        ∧ t.load.nextIndex = s.load.nextIndex ∧ t.start = s.start
        ∧ (s.travel.tripped = true → t.travel.applied = 0)
        ∧ (lines.stopLow = false → s.isFollow = false → s.seq.state = .stopped ∨ s.seq.state = .faulted →
            t.seq.state = .idle ∧ t.seq.order = none ∧ t.seq.phase = 0 ∧ t.load.rangeMode = .auto
              ∧ t.load.spanOpen = false ∧ t.ext.offset = 0 ∧ t.travel.window = [] ∧ t.travel.regValue = 0)
        ∧ (lines.stopLow = false → s.isFollow = true → s.follow.state = .stopped ∨ s.follow.state = .faulted →
            t.follow = { state := .idle, share := 0, asked := 0, lossSamples := 0 } ∧ t.travel.regValue = 0
              ∧ t.travel.window = [])
        ∧ (s.ext.state = .jammed → t.ext.state = if lines.armOpen then .parked else .jammed)
        ∧ (lines.stopLow = true → s.stop.latch = true → t.seq = s.seq ∧ t.follow = s.follow)

/-- R27, R51, R68, R72, R76, R80, R108, R111, R128, R147, R158, R171: a RESTART of a configured station. A TRIPPED port
whose amplifier fault line is still active stays TRIPPED and reports DRIVE_FAULT again. On range 1 a range change that
is decided and not yet in effect is cancelled (assumption 63). A RESTART that comes to an UNCONFIGURED station, or that
is not a RESTART of this station, brings what any valid frame brings and nothing else. -/
def Obligations.RestartReturnsToIdle : Prop :=
  (∀ (f : RxFrame) (lines : Lines) (s : State), Takes f s → Commands f s → s.start.config ≠ none →
    Next (exec (.restart f lines) s) fun t =>
      (s.travel.tripped = false ∨ lines.ampFault = false →
          t.stop = { s.stop with record := none, further := 0 } ∧ t.travel.tripped = false
            ∧ t.link.stop = s.link.stop ∧ t.link.notices = [])
        ∧ (s.travel.tripped = true → lines.ampFault = true →
            StaysTripped t ∧ ∃ r, t.stop.record = some r
              ∧ t.link.notices = [{ kind := .fault .driveFault (some r), index := s.lastIndex }])
        ∧ (s.travel.tripped = true → t.travel.applied = 0)
        ∧ (s.isFollow = false → t.seq.state = .idle ∧ t.seq.order = none ∧ t.seq.phase = 0 ∧ t.seq.holdCount = 0
            ∧ t.testRec = none)
        ∧ (s.isFollow = true → t.follow = { state := .idle, share := 0, asked := 0, lossSamples := 0 })
        ∧ t.travel.regValue = 0 ∧ t.travel.regMode = .zero ∧ t.travel.window = []
        ∧ t.load.conv = .idle ∧ t.load.reading = none ∧ t.load.nextIndex = s.load.nextIndex
        ∧ t.load.tareOffset = s.load.tareOffset ∧ t.load.range = s.load.range
        ∧ t.load.pendingRange = (if s.load.range = .r1 then none else some .r1)
        ∧ t.recorder = Recorder.reset ∧ t.ext.idRec = none ∧ t.ext.zero = none ∧ t.ext.pair = none
        ∧ t.ext.offset = 0
        ∧ (s.ext.state = .jammed → t.ext.state = if lines.armOpen then .parked else .jammed)
        ∧ (s.ext.state = .measuring ∨ s.ext.state = .settling → t.ext.state = .opening ∧ t.ext.openTimer = some 0)
        ∧ t.link.level = none ∧ t.link.status = none ∧ t.link.result = none
        ∧ t.link.curve = none ∧ t.link.lost = 0
        ∧ t.link.errCheck = 0 ∧ t.link.errLength = 0 ∧ t.link.errShort = 0
        ∧ t.link.inFlight.isSome = s.link.inFlight.isSome
        ∧ t.budget.requested = 0 ∧ t.budget.reason = .release ∧ t.budget.table = s.budget.table
        ∧ t.budget.epoch = s.budget.epoch
        ∧ (s.link.grantInFlight = none → s.ownEntry ≠ 0 →
            t.link.grant = some { units := 0, reason := .release, raise := false })
        ∧ t.start = s.start ∧ t.travel.counter = s.travel.counter ∧ t.pair.mirror = s.pair.mirror
        ∧ t.pair.alarmed = false)
    ∧ ∀ (f : RxFrame) (lines : Lines) (s : State), Takes f s → s.start.config = none ∨ ¬Commands f s →
        Next (exec (.restart f lines) s) fun t =>
          t.lines = lines ∧ HeaderOnly f s t ∧ t.link.notices = s.link.notices ∧ t.link.lost = s.link.lost

/-- R136, R138, R142: a RECLAIM sets the entry of the station it names to 0; the station itself loses its request
and its pending GRANT, and a station on the move faults. -/
def Obligations.ReclaimTakesUnits : Prop :=
  ∀ (f : RxFrame) (n : Byte) (s : State), Takes f s → f.sender = 0 → f.payload = [n] →
    (1 ≤ n.toNat → n.toNat ≤ 14 → Next (exec (.reclaim f) s) fun t =>
        EntrySet n.toNat 0 s t ∧ t.budget.epoch = nextEpoch f s ∧ t.budget.inStep = staysInStep f s
          ∧ (n.toNat = s.start.number → t.budget.requested = 0 ∧ t.link.grant = none ∧ t.budget.lock = false
              ∧ (s.moveKind = .none → t.stop = s.stop ∧ t.seq = s.seq)
              ∧ (s.moveKind ≠ .none → Recorded .budgetRevoked s t ∧ t.travel.applied = 0
                  ∧ (s.isFollow = false → EndsFaulted .budgetRevoked s t)))
          ∧ (n.toNat ≠ s.start.number → t.budget.requested = s.budget.requested ∧ t.stop = s.stop
              ∧ t.seq = s.seq))
      ∧ (n.toNat = 0 ∨ 14 < n.toNat → Next (exec (.reclaim f) s) fun t =>
          t.budget.table = s.budget.table ∧ t.budget.epoch = s.budget.epoch ∧ t.stop = s.stop ∧ t.seq = s.seq)
end

