-- ==== Sys2Proof/Laws/State.lean ====
section
/-! SUPPORT. The updates of one field of the state: what each leaves in every field, and how two of one field
compose. -/

namespace Sys2Proof.Laws

open Sys2Proof.Machine


@[simp] theorem setLines_fields (x : Lines) (s : State) :
    (s.setLines x).lines = x ∧ (s.setLines x).clock = s.clock ∧ (s.setLines x).start = s.start ∧
    (s.setLines x).seq = s.seq ∧ (s.setLines x).testRec = s.testRec ∧ (s.setLines x).follow = s.follow ∧
    (s.setLines x).travel = s.travel ∧ (s.setLines x).pair = s.pair ∧ (s.setLines x).load = s.load ∧
    (s.setLines x).ext = s.ext ∧ (s.setLines x).link = s.link ∧ (s.setLines x).budget = s.budget ∧
    (s.setLines x).stop = s.stop ∧ (s.setLines x).recorder = s.recorder ∧ (s.setLines x).free = s.free ∧
    (s.setLines x).pending = s.pending := by
  refine ⟨rfl, rfl, rfl, rfl, rfl, rfl, rfl, rfl, rfl, rfl, rfl, rfl, rfl, rfl, rfl, rfl⟩

@[simp] theorem setLines_twice (x y : Lines) (s : State) : (s.setLines x).setLines y = s.setLines y := rfl

@[simp] theorem setLines_self (s : State) : s.setLines s.lines = s := rfl

@[simp] theorem setClock_fields (x : Clock) (s : State) :
    (s.setClock x).lines = s.lines ∧ (s.setClock x).clock = x ∧ (s.setClock x).start = s.start ∧
    (s.setClock x).seq = s.seq ∧ (s.setClock x).testRec = s.testRec ∧ (s.setClock x).follow = s.follow ∧
    (s.setClock x).travel = s.travel ∧ (s.setClock x).pair = s.pair ∧ (s.setClock x).load = s.load ∧
    (s.setClock x).ext = s.ext ∧ (s.setClock x).link = s.link ∧ (s.setClock x).budget = s.budget ∧
    (s.setClock x).stop = s.stop ∧ (s.setClock x).recorder = s.recorder ∧ (s.setClock x).free = s.free ∧
    (s.setClock x).pending = s.pending := by
  refine ⟨rfl, rfl, rfl, rfl, rfl, rfl, rfl, rfl, rfl, rfl, rfl, rfl, rfl, rfl, rfl, rfl⟩

@[simp] theorem setClock_twice (x y : Clock) (s : State) : (s.setClock x).setClock y = s.setClock y := rfl

@[simp] theorem setClock_self (s : State) : s.setClock s.clock = s := rfl

@[simp] theorem setStart_fields (x : StartUp) (s : State) :
    (s.setStart x).lines = s.lines ∧ (s.setStart x).clock = s.clock ∧ (s.setStart x).start = x ∧
    (s.setStart x).seq = s.seq ∧ (s.setStart x).testRec = s.testRec ∧ (s.setStart x).follow = s.follow ∧
    (s.setStart x).travel = s.travel ∧ (s.setStart x).pair = s.pair ∧ (s.setStart x).load = s.load ∧
    (s.setStart x).ext = s.ext ∧ (s.setStart x).link = s.link ∧ (s.setStart x).budget = s.budget ∧
    (s.setStart x).stop = s.stop ∧ (s.setStart x).recorder = s.recorder ∧ (s.setStart x).free = s.free ∧
    (s.setStart x).pending = s.pending := by
  refine ⟨rfl, rfl, rfl, rfl, rfl, rfl, rfl, rfl, rfl, rfl, rfl, rfl, rfl, rfl, rfl, rfl⟩

@[simp] theorem setStart_twice (x y : StartUp) (s : State) : (s.setStart x).setStart y = s.setStart y := rfl

@[simp] theorem setStart_self (s : State) : s.setStart s.start = s := rfl

@[simp] theorem setSeq_fields (x : Seq) (s : State) :
    (s.setSeq x).lines = s.lines ∧ (s.setSeq x).clock = s.clock ∧ (s.setSeq x).start = s.start ∧
    (s.setSeq x).seq = x ∧ (s.setSeq x).testRec = s.testRec ∧ (s.setSeq x).follow = s.follow ∧
    (s.setSeq x).travel = s.travel ∧ (s.setSeq x).pair = s.pair ∧ (s.setSeq x).load = s.load ∧
    (s.setSeq x).ext = s.ext ∧ (s.setSeq x).link = s.link ∧ (s.setSeq x).budget = s.budget ∧
    (s.setSeq x).stop = s.stop ∧ (s.setSeq x).recorder = s.recorder ∧ (s.setSeq x).free = s.free ∧
    (s.setSeq x).pending = s.pending := by
  refine ⟨rfl, rfl, rfl, rfl, rfl, rfl, rfl, rfl, rfl, rfl, rfl, rfl, rfl, rfl, rfl, rfl⟩

@[simp] theorem setSeq_twice (x y : Seq) (s : State) : (s.setSeq x).setSeq y = s.setSeq y := rfl

@[simp] theorem setSeq_self (s : State) : s.setSeq s.seq = s := rfl

@[simp] theorem setTestRec_fields (x : Option TestRecord) (s : State) :
    (s.setTestRec x).lines = s.lines ∧ (s.setTestRec x).clock = s.clock ∧ (s.setTestRec x).start = s.start ∧
    (s.setTestRec x).seq = s.seq ∧ (s.setTestRec x).testRec = x ∧ (s.setTestRec x).follow = s.follow ∧
    (s.setTestRec x).travel = s.travel ∧ (s.setTestRec x).pair = s.pair ∧ (s.setTestRec x).load = s.load ∧
    (s.setTestRec x).ext = s.ext ∧ (s.setTestRec x).link = s.link ∧ (s.setTestRec x).budget = s.budget ∧
    (s.setTestRec x).stop = s.stop ∧ (s.setTestRec x).recorder = s.recorder ∧ (s.setTestRec x).free = s.free ∧
    (s.setTestRec x).pending = s.pending := by
  refine ⟨rfl, rfl, rfl, rfl, rfl, rfl, rfl, rfl, rfl, rfl, rfl, rfl, rfl, rfl, rfl, rfl⟩

@[simp] theorem setTestRec_twice (x y : Option TestRecord) (s : State) : (s.setTestRec x).setTestRec y = s.setTestRec y := rfl

@[simp] theorem setTestRec_self (s : State) : s.setTestRec s.testRec = s := rfl

@[simp] theorem setFollow_fields (x : Follow) (s : State) :
    (s.setFollow x).lines = s.lines ∧ (s.setFollow x).clock = s.clock ∧ (s.setFollow x).start = s.start ∧
    (s.setFollow x).seq = s.seq ∧ (s.setFollow x).testRec = s.testRec ∧ (s.setFollow x).follow = x ∧
    (s.setFollow x).travel = s.travel ∧ (s.setFollow x).pair = s.pair ∧ (s.setFollow x).load = s.load ∧
    (s.setFollow x).ext = s.ext ∧ (s.setFollow x).link = s.link ∧ (s.setFollow x).budget = s.budget ∧
    (s.setFollow x).stop = s.stop ∧ (s.setFollow x).recorder = s.recorder ∧ (s.setFollow x).free = s.free ∧
    (s.setFollow x).pending = s.pending := by
  refine ⟨rfl, rfl, rfl, rfl, rfl, rfl, rfl, rfl, rfl, rfl, rfl, rfl, rfl, rfl, rfl, rfl⟩

@[simp] theorem setFollow_twice (x y : Follow) (s : State) : (s.setFollow x).setFollow y = s.setFollow y := rfl

@[simp] theorem setFollow_self (s : State) : s.setFollow s.follow = s := rfl

@[simp] theorem setTravel_fields (x : Travel) (s : State) :
    (s.setTravel x).lines = s.lines ∧ (s.setTravel x).clock = s.clock ∧ (s.setTravel x).start = s.start ∧
    (s.setTravel x).seq = s.seq ∧ (s.setTravel x).testRec = s.testRec ∧ (s.setTravel x).follow = s.follow ∧
    (s.setTravel x).travel = x ∧ (s.setTravel x).pair = s.pair ∧ (s.setTravel x).load = s.load ∧
    (s.setTravel x).ext = s.ext ∧ (s.setTravel x).link = s.link ∧ (s.setTravel x).budget = s.budget ∧
    (s.setTravel x).stop = s.stop ∧ (s.setTravel x).recorder = s.recorder ∧ (s.setTravel x).free = s.free ∧
    (s.setTravel x).pending = s.pending := by
  refine ⟨rfl, rfl, rfl, rfl, rfl, rfl, rfl, rfl, rfl, rfl, rfl, rfl, rfl, rfl, rfl, rfl⟩

@[simp] theorem setTravel_twice (x y : Travel) (s : State) : (s.setTravel x).setTravel y = s.setTravel y := rfl

@[simp] theorem setTravel_self (s : State) : s.setTravel s.travel = s := rfl

@[simp] theorem setPair_fields (x : Pair) (s : State) :
    (s.setPair x).lines = s.lines ∧ (s.setPair x).clock = s.clock ∧ (s.setPair x).start = s.start ∧
    (s.setPair x).seq = s.seq ∧ (s.setPair x).testRec = s.testRec ∧ (s.setPair x).follow = s.follow ∧
    (s.setPair x).travel = s.travel ∧ (s.setPair x).pair = x ∧ (s.setPair x).load = s.load ∧
    (s.setPair x).ext = s.ext ∧ (s.setPair x).link = s.link ∧ (s.setPair x).budget = s.budget ∧
    (s.setPair x).stop = s.stop ∧ (s.setPair x).recorder = s.recorder ∧ (s.setPair x).free = s.free ∧
    (s.setPair x).pending = s.pending := by
  refine ⟨rfl, rfl, rfl, rfl, rfl, rfl, rfl, rfl, rfl, rfl, rfl, rfl, rfl, rfl, rfl, rfl⟩

@[simp] theorem setPair_twice (x y : Pair) (s : State) : (s.setPair x).setPair y = s.setPair y := rfl

@[simp] theorem setPair_self (s : State) : s.setPair s.pair = s := rfl

@[simp] theorem setLoad_fields (x : LoadCh) (s : State) :
    (s.setLoad x).lines = s.lines ∧ (s.setLoad x).clock = s.clock ∧ (s.setLoad x).start = s.start ∧
    (s.setLoad x).seq = s.seq ∧ (s.setLoad x).testRec = s.testRec ∧ (s.setLoad x).follow = s.follow ∧
    (s.setLoad x).travel = s.travel ∧ (s.setLoad x).pair = s.pair ∧ (s.setLoad x).load = x ∧
    (s.setLoad x).ext = s.ext ∧ (s.setLoad x).link = s.link ∧ (s.setLoad x).budget = s.budget ∧
    (s.setLoad x).stop = s.stop ∧ (s.setLoad x).recorder = s.recorder ∧ (s.setLoad x).free = s.free ∧
    (s.setLoad x).pending = s.pending := by
  refine ⟨rfl, rfl, rfl, rfl, rfl, rfl, rfl, rfl, rfl, rfl, rfl, rfl, rfl, rfl, rfl, rfl⟩

@[simp] theorem setLoad_twice (x y : LoadCh) (s : State) : (s.setLoad x).setLoad y = s.setLoad y := rfl

@[simp] theorem setLoad_self (s : State) : s.setLoad s.load = s := rfl

@[simp] theorem setExt_fields (x : Ext) (s : State) :
    (s.setExt x).lines = s.lines ∧ (s.setExt x).clock = s.clock ∧ (s.setExt x).start = s.start ∧
    (s.setExt x).seq = s.seq ∧ (s.setExt x).testRec = s.testRec ∧ (s.setExt x).follow = s.follow ∧
    (s.setExt x).travel = s.travel ∧ (s.setExt x).pair = s.pair ∧ (s.setExt x).load = s.load ∧
    (s.setExt x).ext = x ∧ (s.setExt x).link = s.link ∧ (s.setExt x).budget = s.budget ∧
    (s.setExt x).stop = s.stop ∧ (s.setExt x).recorder = s.recorder ∧ (s.setExt x).free = s.free ∧
    (s.setExt x).pending = s.pending := by
  refine ⟨rfl, rfl, rfl, rfl, rfl, rfl, rfl, rfl, rfl, rfl, rfl, rfl, rfl, rfl, rfl, rfl⟩

@[simp] theorem setExt_twice (x y : Ext) (s : State) : (s.setExt x).setExt y = s.setExt y := rfl

@[simp] theorem setExt_self (s : State) : s.setExt s.ext = s := rfl

@[simp] theorem setLink_fields (x : Link) (s : State) :
    (s.setLink x).lines = s.lines ∧ (s.setLink x).clock = s.clock ∧ (s.setLink x).start = s.start ∧
    (s.setLink x).seq = s.seq ∧ (s.setLink x).testRec = s.testRec ∧ (s.setLink x).follow = s.follow ∧
    (s.setLink x).travel = s.travel ∧ (s.setLink x).pair = s.pair ∧ (s.setLink x).load = s.load ∧
    (s.setLink x).ext = s.ext ∧ (s.setLink x).link = x ∧ (s.setLink x).budget = s.budget ∧
    (s.setLink x).stop = s.stop ∧ (s.setLink x).recorder = s.recorder ∧ (s.setLink x).free = s.free ∧
    (s.setLink x).pending = s.pending := by
  refine ⟨rfl, rfl, rfl, rfl, rfl, rfl, rfl, rfl, rfl, rfl, rfl, rfl, rfl, rfl, rfl, rfl⟩

@[simp] theorem setLink_twice (x y : Link) (s : State) : (s.setLink x).setLink y = s.setLink y := rfl

@[simp] theorem setLink_self (s : State) : s.setLink s.link = s := rfl

@[simp] theorem setBudget_fields (x : Budget) (s : State) :
    (s.setBudget x).lines = s.lines ∧ (s.setBudget x).clock = s.clock ∧ (s.setBudget x).start = s.start ∧
    (s.setBudget x).seq = s.seq ∧ (s.setBudget x).testRec = s.testRec ∧ (s.setBudget x).follow = s.follow ∧
    (s.setBudget x).travel = s.travel ∧ (s.setBudget x).pair = s.pair ∧ (s.setBudget x).load = s.load ∧
    (s.setBudget x).ext = s.ext ∧ (s.setBudget x).link = s.link ∧ (s.setBudget x).budget = x ∧
    (s.setBudget x).stop = s.stop ∧ (s.setBudget x).recorder = s.recorder ∧ (s.setBudget x).free = s.free ∧
    (s.setBudget x).pending = s.pending := by
  refine ⟨rfl, rfl, rfl, rfl, rfl, rfl, rfl, rfl, rfl, rfl, rfl, rfl, rfl, rfl, rfl, rfl⟩

@[simp] theorem setBudget_twice (x y : Budget) (s : State) : (s.setBudget x).setBudget y = s.setBudget y := rfl

@[simp] theorem setBudget_self (s : State) : s.setBudget s.budget = s := rfl

@[simp] theorem setStop_fields (x : StopFault) (s : State) :
    (s.setStop x).lines = s.lines ∧ (s.setStop x).clock = s.clock ∧ (s.setStop x).start = s.start ∧
    (s.setStop x).seq = s.seq ∧ (s.setStop x).testRec = s.testRec ∧ (s.setStop x).follow = s.follow ∧
    (s.setStop x).travel = s.travel ∧ (s.setStop x).pair = s.pair ∧ (s.setStop x).load = s.load ∧
    (s.setStop x).ext = s.ext ∧ (s.setStop x).link = s.link ∧ (s.setStop x).budget = s.budget ∧
    (s.setStop x).stop = x ∧ (s.setStop x).recorder = s.recorder ∧ (s.setStop x).free = s.free ∧
    (s.setStop x).pending = s.pending := by
  refine ⟨rfl, rfl, rfl, rfl, rfl, rfl, rfl, rfl, rfl, rfl, rfl, rfl, rfl, rfl, rfl, rfl⟩

@[simp] theorem setStop_twice (x y : StopFault) (s : State) : (s.setStop x).setStop y = s.setStop y := rfl

@[simp] theorem setStop_self (s : State) : s.setStop s.stop = s := rfl

@[simp] theorem setRecorder_fields (x : Recorder) (s : State) :
    (s.setRecorder x).lines = s.lines ∧ (s.setRecorder x).clock = s.clock ∧ (s.setRecorder x).start = s.start ∧
    (s.setRecorder x).seq = s.seq ∧ (s.setRecorder x).testRec = s.testRec ∧ (s.setRecorder x).follow = s.follow ∧
    (s.setRecorder x).travel = s.travel ∧ (s.setRecorder x).pair = s.pair ∧ (s.setRecorder x).load = s.load ∧
    (s.setRecorder x).ext = s.ext ∧ (s.setRecorder x).link = s.link ∧ (s.setRecorder x).budget = s.budget ∧
    (s.setRecorder x).stop = s.stop ∧ (s.setRecorder x).recorder = x ∧ (s.setRecorder x).free = s.free ∧
    (s.setRecorder x).pending = s.pending := by
  refine ⟨rfl, rfl, rfl, rfl, rfl, rfl, rfl, rfl, rfl, rfl, rfl, rfl, rfl, rfl, rfl, rfl⟩

@[simp] theorem setRecorder_twice (x y : Recorder) (s : State) : (s.setRecorder x).setRecorder y = s.setRecorder y := rfl

@[simp] theorem setRecorder_self (s : State) : s.setRecorder s.recorder = s := rfl

@[simp] theorem setFree_fields (x : Nat) (s : State) :
    (s.setFree x).lines = s.lines ∧ (s.setFree x).clock = s.clock ∧ (s.setFree x).start = s.start ∧
    (s.setFree x).seq = s.seq ∧ (s.setFree x).testRec = s.testRec ∧ (s.setFree x).follow = s.follow ∧
    (s.setFree x).travel = s.travel ∧ (s.setFree x).pair = s.pair ∧ (s.setFree x).load = s.load ∧
    (s.setFree x).ext = s.ext ∧ (s.setFree x).link = s.link ∧ (s.setFree x).budget = s.budget ∧
    (s.setFree x).stop = s.stop ∧ (s.setFree x).recorder = s.recorder ∧ (s.setFree x).free = x ∧
    (s.setFree x).pending = s.pending := by
  refine ⟨rfl, rfl, rfl, rfl, rfl, rfl, rfl, rfl, rfl, rfl, rfl, rfl, rfl, rfl, rfl, rfl⟩

@[simp] theorem setFree_twice (x y : Nat) (s : State) : (s.setFree x).setFree y = s.setFree y := rfl

@[simp] theorem setFree_self (s : State) : s.setFree s.free = s := rfl

@[simp] theorem setPending_fields (x : List Instr) (s : State) :
    (s.setPending x).lines = s.lines ∧ (s.setPending x).clock = s.clock ∧ (s.setPending x).start = s.start ∧
    (s.setPending x).seq = s.seq ∧ (s.setPending x).testRec = s.testRec ∧ (s.setPending x).follow = s.follow ∧
    (s.setPending x).travel = s.travel ∧ (s.setPending x).pair = s.pair ∧ (s.setPending x).load = s.load ∧
    (s.setPending x).ext = s.ext ∧ (s.setPending x).link = s.link ∧ (s.setPending x).budget = s.budget ∧
    (s.setPending x).stop = s.stop ∧ (s.setPending x).recorder = s.recorder ∧ (s.setPending x).free = s.free ∧
    (s.setPending x).pending = x := by
  refine ⟨rfl, rfl, rfl, rfl, rfl, rfl, rfl, rfl, rfl, rfl, rfl, rfl, rfl, rfl, rfl, rfl⟩

@[simp] theorem setPending_twice (x y : List Instr) (s : State) : (s.setPending x).setPending y = s.setPending y := rfl

@[simp] theorem setPending_self (s : State) : s.setPending s.pending = s := rfl


end Sys2Proof.Laws
end

