-- ==== Sys2Proof/Laws/KeepsBudget.lean ====
section
/-! SUPPORT. The fields of the state that each operation of the budget and record units leaves as they are. -/

namespace Sys2Proof.Laws

open Sys2Proof.Machine

@[simp] theorem pushNotice_keeps (k : NoticeKind) (s : State) :
    (pushNotice k s).lines = s.lines ∧ (pushNotice k s).clock = s.clock ∧ (pushNotice k s).start = s.start ∧
    (pushNotice k s).seq = s.seq ∧ (pushNotice k s).testRec = s.testRec ∧ (pushNotice k s).follow = s.follow ∧
    (pushNotice k s).travel = s.travel ∧ (pushNotice k s).pair = s.pair ∧ (pushNotice k s).load = s.load ∧
    (pushNotice k s).ext = s.ext ∧ (pushNotice k s).budget = s.budget ∧ (pushNotice k s).stop = s.stop ∧
    (pushNotice k s).recorder = s.recorder ∧ (pushNotice k s).free = s.free ∧ (pushNotice k s).pending = s.pending := by
  unfold pushNotice
  (repeat' split) <;> simp

@[simp] theorem forceZero_keeps (s : State) :
    (forceZero s).lines = s.lines ∧ (forceZero s).clock = s.clock ∧ (forceZero s).start = s.start ∧
    (forceZero s).seq = s.seq ∧ (forceZero s).testRec = s.testRec ∧ (forceZero s).follow = s.follow ∧
    (forceZero s).pair = s.pair ∧ (forceZero s).load = s.load ∧ (forceZero s).ext = s.ext ∧
    (forceZero s).link = s.link ∧ (forceZero s).budget = s.budget ∧ (forceZero s).stop = s.stop ∧
    (forceZero s).recorder = s.recorder ∧ (forceZero s).free = s.free ∧ (forceZero s).pending = s.pending := by
  unfold forceZero
  (repeat' split) <;> simp

@[simp] theorem dropGrant_keeps (s : State) :
    (dropGrant s).lines = s.lines ∧ (dropGrant s).clock = s.clock ∧ (dropGrant s).start = s.start ∧
    (dropGrant s).seq = s.seq ∧ (dropGrant s).testRec = s.testRec ∧ (dropGrant s).follow = s.follow ∧
    (dropGrant s).travel = s.travel ∧ (dropGrant s).pair = s.pair ∧ (dropGrant s).load = s.load ∧
    (dropGrant s).ext = s.ext ∧ (dropGrant s).stop = s.stop ∧ (dropGrant s).recorder = s.recorder ∧
    (dropGrant s).free = s.free ∧ (dropGrant s).pending = s.pending := by
  unfold dropGrant
  simp

@[simp] theorem placeGrant_keeps (raise : Bool) (s : State) :
    (placeGrant raise s).lines = s.lines ∧ (placeGrant raise s).clock = s.clock ∧
    (placeGrant raise s).start = s.start ∧ (placeGrant raise s).seq = s.seq ∧
    (placeGrant raise s).testRec = s.testRec ∧ (placeGrant raise s).follow = s.follow ∧
    (placeGrant raise s).travel = s.travel ∧ (placeGrant raise s).pair = s.pair ∧
    (placeGrant raise s).load = s.load ∧ (placeGrant raise s).ext = s.ext ∧ (placeGrant raise s).stop = s.stop ∧
    (placeGrant raise s).recorder = s.recorder ∧ (placeGrant raise s).free = s.free ∧
    (placeGrant raise s).pending = s.pending := by
  unfold placeGrant
  simp

@[simp] theorem judgeRequest_keeps (s : State) :
    (judgeRequest s).lines = s.lines ∧ (judgeRequest s).clock = s.clock ∧ (judgeRequest s).start = s.start ∧
    (judgeRequest s).seq = s.seq ∧ (judgeRequest s).testRec = s.testRec ∧ (judgeRequest s).follow = s.follow ∧
    (judgeRequest s).travel = s.travel ∧ (judgeRequest s).pair = s.pair ∧ (judgeRequest s).load = s.load ∧
    (judgeRequest s).ext = s.ext ∧ (judgeRequest s).stop = s.stop ∧ (judgeRequest s).recorder = s.recorder ∧
    (judgeRequest s).free = s.free ∧ (judgeRequest s).pending = s.pending := by
  unfold judgeRequest
  (repeat' split) <;> simp

@[simp] theorem requestUnits_keeps (units : Nat) (reason : GrantReason) (s : State) :
    (requestUnits units reason s).lines = s.lines ∧ (requestUnits units reason s).clock = s.clock ∧
    (requestUnits units reason s).start = s.start ∧ (requestUnits units reason s).seq = s.seq ∧
    (requestUnits units reason s).testRec = s.testRec ∧ (requestUnits units reason s).follow = s.follow ∧
    (requestUnits units reason s).travel = s.travel ∧ (requestUnits units reason s).pair = s.pair ∧
    (requestUnits units reason s).load = s.load ∧ (requestUnits units reason s).ext = s.ext ∧
    (requestUnits units reason s).stop = s.stop ∧ (requestUnits units reason s).recorder = s.recorder ∧
    (requestUnits units reason s).free = s.free ∧ (requestUnits units reason s).pending = s.pending := by
  unfold requestUnits
  simp

@[simp] theorem rejudge_keeps (s : State) :
    (rejudge s).lines = s.lines ∧ (rejudge s).clock = s.clock ∧ (rejudge s).start = s.start ∧
    (rejudge s).seq = s.seq ∧ (rejudge s).testRec = s.testRec ∧ (rejudge s).follow = s.follow ∧
    (rejudge s).travel = s.travel ∧ (rejudge s).pair = s.pair ∧ (rejudge s).load = s.load ∧ (rejudge s).ext = s.ext ∧
    (rejudge s).stop = s.stop ∧ (rejudge s).recorder = s.recorder ∧ (rejudge s).free = s.free ∧
    (rejudge s).pending = s.pending := by
  unfold rejudge
  (repeat' split) <;> simp

@[simp] theorem withdrawRaise_keeps (s : State) :
    (withdrawRaise s).lines = s.lines ∧ (withdrawRaise s).clock = s.clock ∧ (withdrawRaise s).start = s.start ∧
    (withdrawRaise s).seq = s.seq ∧ (withdrawRaise s).testRec = s.testRec ∧ (withdrawRaise s).follow = s.follow ∧
    (withdrawRaise s).travel = s.travel ∧ (withdrawRaise s).pair = s.pair ∧ (withdrawRaise s).load = s.load ∧
    (withdrawRaise s).ext = s.ext ∧ (withdrawRaise s).stop = s.stop ∧ (withdrawRaise s).recorder = s.recorder ∧
    (withdrawRaise s).free = s.free ∧ (withdrawRaise s).pending = s.pending := by
  unfold withdrawRaise
  simp

@[simp] theorem enterStale_keeps (s : State) :
    (enterStale s).lines = s.lines ∧ (enterStale s).clock = s.clock ∧ (enterStale s).start = s.start ∧
    (enterStale s).seq = s.seq ∧ (enterStale s).testRec = s.testRec ∧ (enterStale s).follow = s.follow ∧
    (enterStale s).travel = s.travel ∧ (enterStale s).pair = s.pair ∧ (enterStale s).load = s.load ∧
    (enterStale s).ext = s.ext ∧ (enterStale s).stop = s.stop ∧ (enterStale s).recorder = s.recorder ∧
    (enterStale s).free = s.free ∧ (enterStale s).pending = s.pending := by
  unfold enterStale
  (repeat' split) <;> simp

@[simp] theorem judgeHeader_keeps (epoch : Byte) (senderInStep : Bool) (s : State) :
    (judgeHeader epoch senderInStep s).lines = s.lines ∧ (judgeHeader epoch senderInStep s).clock = s.clock ∧
    (judgeHeader epoch senderInStep s).start = s.start ∧ (judgeHeader epoch senderInStep s).seq = s.seq ∧
    (judgeHeader epoch senderInStep s).testRec = s.testRec ∧ (judgeHeader epoch senderInStep s).follow = s.follow ∧
    (judgeHeader epoch senderInStep s).travel = s.travel ∧ (judgeHeader epoch senderInStep s).pair = s.pair ∧
    (judgeHeader epoch senderInStep s).load = s.load ∧ (judgeHeader epoch senderInStep s).ext = s.ext ∧
    (judgeHeader epoch senderInStep s).stop = s.stop ∧ (judgeHeader epoch senderInStep s).recorder = s.recorder ∧
    (judgeHeader epoch senderInStep s).free = s.free ∧ (judgeHeader epoch senderInStep s).pending = s.pending := by
  dsimp only [judgeHeader]
  (repeat' split) <;> simp

@[simp] theorem applyEntry_keeps (n units : Nat) (headerEpoch : Byte) (s : State) :
    (applyEntry n units headerEpoch s).lines = s.lines ∧ (applyEntry n units headerEpoch s).clock = s.clock ∧
    (applyEntry n units headerEpoch s).start = s.start ∧ (applyEntry n units headerEpoch s).seq = s.seq ∧
    (applyEntry n units headerEpoch s).testRec = s.testRec ∧ (applyEntry n units headerEpoch s).follow = s.follow ∧
    (applyEntry n units headerEpoch s).travel = s.travel ∧ (applyEntry n units headerEpoch s).pair = s.pair ∧
    (applyEntry n units headerEpoch s).load = s.load ∧ (applyEntry n units headerEpoch s).ext = s.ext ∧
    (applyEntry n units headerEpoch s).link = s.link ∧ (applyEntry n units headerEpoch s).stop = s.stop ∧
    (applyEntry n units headerEpoch s).recorder = s.recorder ∧ (applyEntry n units headerEpoch s).free = s.free ∧
    (applyEntry n units headerEpoch s).pending = s.pending := by
  unfold applyEntry
  (repeat' split) <;> simp

@[simp] theorem applyGrant_keeps (n units : Nat) (headerEpoch : Byte) (s : State) :
    (applyGrant n units headerEpoch s).lines = s.lines ∧ (applyGrant n units headerEpoch s).clock = s.clock ∧
    (applyGrant n units headerEpoch s).start = s.start ∧ (applyGrant n units headerEpoch s).seq = s.seq ∧
    (applyGrant n units headerEpoch s).testRec = s.testRec ∧ (applyGrant n units headerEpoch s).follow = s.follow ∧
    (applyGrant n units headerEpoch s).travel = s.travel ∧ (applyGrant n units headerEpoch s).pair = s.pair ∧
    (applyGrant n units headerEpoch s).load = s.load ∧ (applyGrant n units headerEpoch s).ext = s.ext ∧
    (applyGrant n units headerEpoch s).stop = s.stop ∧ (applyGrant n units headerEpoch s).recorder = s.recorder ∧
    (applyGrant n units headerEpoch s).free = s.free ∧ (applyGrant n units headerEpoch s).pending = s.pending := by
  unfold applyGrant
  (repeat' split) <;> simp

@[simp] theorem clearLock_keeps (s : State) :
    (clearLock s).lines = s.lines ∧ (clearLock s).clock = s.clock ∧ (clearLock s).start = s.start ∧
    (clearLock s).seq = s.seq ∧ (clearLock s).testRec = s.testRec ∧ (clearLock s).follow = s.follow ∧
    (clearLock s).travel = s.travel ∧ (clearLock s).pair = s.pair ∧ (clearLock s).load = s.load ∧
    (clearLock s).ext = s.ext ∧ (clearLock s).link = s.link ∧ (clearLock s).stop = s.stop ∧
    (clearLock s).recorder = s.recorder ∧ (clearLock s).free = s.free ∧ (clearLock s).pending = s.pending := by
  unfold clearLock
  simp

@[simp] theorem hearGrant_keeps (sender units : Nat) (headerEpoch : Byte) (s : State) :
    (hearGrant sender units headerEpoch s).lines = s.lines ∧ (hearGrant sender units headerEpoch s).clock = s.clock ∧
    (hearGrant sender units headerEpoch s).start = s.start ∧ (hearGrant sender units headerEpoch s).seq = s.seq ∧
    (hearGrant sender units headerEpoch s).testRec = s.testRec ∧
    (hearGrant sender units headerEpoch s).follow = s.follow ∧
    (hearGrant sender units headerEpoch s).travel = s.travel ∧ (hearGrant sender units headerEpoch s).pair = s.pair ∧
    (hearGrant sender units headerEpoch s).load = s.load ∧ (hearGrant sender units headerEpoch s).ext = s.ext ∧
    (hearGrant sender units headerEpoch s).stop = s.stop ∧
    (hearGrant sender units headerEpoch s).recorder = s.recorder ∧
    (hearGrant sender units headerEpoch s).free = s.free ∧ (hearGrant sender units headerEpoch s).pending = s.pending := by
  unfold hearGrant
  simp

@[simp] theorem ownGrantComplete_keeps (units : Nat) (headerEpoch : Byte) (s : State) :
    (ownGrantComplete units headerEpoch s).lines = s.lines ∧ (ownGrantComplete units headerEpoch s).clock = s.clock ∧
    (ownGrantComplete units headerEpoch s).start = s.start ∧ (ownGrantComplete units headerEpoch s).seq = s.seq ∧
    (ownGrantComplete units headerEpoch s).testRec = s.testRec ∧
    (ownGrantComplete units headerEpoch s).follow = s.follow ∧
    (ownGrantComplete units headerEpoch s).travel = s.travel ∧ (ownGrantComplete units headerEpoch s).pair = s.pair ∧
    (ownGrantComplete units headerEpoch s).load = s.load ∧ (ownGrantComplete units headerEpoch s).ext = s.ext ∧
    (ownGrantComplete units headerEpoch s).stop = s.stop ∧
    (ownGrantComplete units headerEpoch s).recorder = s.recorder ∧
    (ownGrantComplete units headerEpoch s).free = s.free ∧ (ownGrantComplete units headerEpoch s).pending = s.pending := by
  unfold ownGrantComplete
  simp

@[simp] theorem ownGrantAbandoned_keeps (s : State) :
    (ownGrantAbandoned s).lines = s.lines ∧ (ownGrantAbandoned s).clock = s.clock ∧
    (ownGrantAbandoned s).start = s.start ∧ (ownGrantAbandoned s).seq = s.seq ∧
    (ownGrantAbandoned s).testRec = s.testRec ∧ (ownGrantAbandoned s).follow = s.follow ∧
    (ownGrantAbandoned s).travel = s.travel ∧ (ownGrantAbandoned s).pair = s.pair ∧
    (ownGrantAbandoned s).load = s.load ∧ (ownGrantAbandoned s).ext = s.ext ∧ (ownGrantAbandoned s).stop = s.stop ∧
    (ownGrantAbandoned s).recorder = s.recorder ∧ (ownGrantAbandoned s).free = s.free ∧
    (ownGrantAbandoned s).pending = s.pending := by
  unfold ownGrantAbandoned
  simp

@[simp] theorem adopt_keeps (entries : List Nat) (epoch : Byte) (s : State) :
    (adopt entries epoch s).lines = s.lines ∧ (adopt entries epoch s).clock = s.clock ∧
    (adopt entries epoch s).start = s.start ∧ (adopt entries epoch s).seq = s.seq ∧
    (adopt entries epoch s).testRec = s.testRec ∧ (adopt entries epoch s).follow = s.follow ∧
    (adopt entries epoch s).travel = s.travel ∧ (adopt entries epoch s).pair = s.pair ∧
    (adopt entries epoch s).load = s.load ∧ (adopt entries epoch s).ext = s.ext ∧
    (adopt entries epoch s).stop = s.stop ∧ (adopt entries epoch s).recorder = s.recorder ∧
    (adopt entries epoch s).free = s.free ∧ (adopt entries epoch s).pending = s.pending := by
  unfold adopt
  (repeat' split) <;> simp

@[simp] theorem refreshStatus_keeps (s : State) :
    (refreshStatus s).lines = s.lines ∧ (refreshStatus s).clock = s.clock ∧ (refreshStatus s).start = s.start ∧
    (refreshStatus s).seq = s.seq ∧ (refreshStatus s).testRec = s.testRec ∧ (refreshStatus s).follow = s.follow ∧
    (refreshStatus s).travel = s.travel ∧ (refreshStatus s).pair = s.pair ∧ (refreshStatus s).load = s.load ∧
    (refreshStatus s).ext = s.ext ∧ (refreshStatus s).budget = s.budget ∧ (refreshStatus s).stop = s.stop ∧
    (refreshStatus s).recorder = s.recorder ∧ (refreshStatus s).free = s.free ∧
    (refreshStatus s).pending = s.pending := by
  unfold refreshStatus
  split <;> simp

/-- Of the link, refreshStatus changes at most the pending STATUS. -/
theorem refreshStatus_link (s : State) :
    (refreshStatus s).link = { s.link with status := s.link.status.map fun _ => buildStatus s } := by
  unfold refreshStatus
  split <;> rename_i h
  · obtain ⟨v, hv⟩ := Option.isSome_iff_exists.mp h
    simp [hv]
  · have hn : s.link.status = none := by simpa using h
    have hs : s.link = { s.link with status := none } := by rw [← hn]
    simpa [hn] using hs

@[simp] theorem recover_keeps (entries : List Nat) (epoch : Byte) (s : State) :
    (recover entries epoch s).lines = s.lines ∧ (recover entries epoch s).clock = s.clock ∧
    (recover entries epoch s).start = s.start ∧ (recover entries epoch s).seq = s.seq ∧
    (recover entries epoch s).testRec = s.testRec ∧ (recover entries epoch s).follow = s.follow ∧
    (recover entries epoch s).travel = s.travel ∧ (recover entries epoch s).pair = s.pair ∧
    (recover entries epoch s).load = s.load ∧ (recover entries epoch s).ext = s.ext ∧
    (recover entries epoch s).budget = (adopt entries epoch s).budget ∧
    (recover entries epoch s).stop = s.stop ∧ (recover entries epoch s).recorder = s.recorder ∧
    (recover entries epoch s).free = s.free ∧ (recover entries epoch s).pending = s.pending := by
  dsimp only [recover]
  split <;> simp

@[simp] theorem coldStart_keeps (s : State) :
    (coldStart s).lines = s.lines ∧ (coldStart s).clock = s.clock ∧ (coldStart s).start = s.start ∧
    (coldStart s).seq = s.seq ∧ (coldStart s).testRec = s.testRec ∧ (coldStart s).follow = s.follow ∧
    (coldStart s).travel = s.travel ∧ (coldStart s).pair = s.pair ∧ (coldStart s).load = s.load ∧
    (coldStart s).ext = s.ext ∧ (coldStart s).stop = s.stop ∧ (coldStart s).recorder = s.recorder ∧
    (coldStart s).free = s.free ∧ (coldStart s).pending = s.pending := by
  unfold coldStart
  (repeat' split) <;> simp

@[simp] theorem judgeCurve_keeps (s : State) :
    (judgeCurve s).lines = s.lines ∧ (judgeCurve s).clock = s.clock ∧ (judgeCurve s).start = s.start ∧
    (judgeCurve s).seq = s.seq ∧ (judgeCurve s).testRec = s.testRec ∧ (judgeCurve s).follow = s.follow ∧
    (judgeCurve s).travel = s.travel ∧ (judgeCurve s).pair = s.pair ∧ (judgeCurve s).load = s.load ∧
    (judgeCurve s).ext = s.ext ∧ (judgeCurve s).budget = s.budget ∧ (judgeCurve s).stop = s.stop ∧
    (judgeCurve s).recorder = s.recorder ∧ (judgeCurve s).free = s.free ∧ (judgeCurve s).pending = s.pending := by
  unfold judgeCurve
  (repeat' split) <;> simp

@[simp] theorem storeSample_keeps (r : SampleRec) (s : State) :
    (storeSample r s).lines = s.lines ∧ (storeSample r s).clock = s.clock ∧ (storeSample r s).start = s.start ∧
    (storeSample r s).seq = s.seq ∧ (storeSample r s).testRec = s.testRec ∧ (storeSample r s).follow = s.follow ∧
    (storeSample r s).travel = s.travel ∧ (storeSample r s).pair = s.pair ∧ (storeSample r s).load = s.load ∧
    (storeSample r s).ext = s.ext ∧ (storeSample r s).budget = s.budget ∧ (storeSample r s).stop = s.stop ∧
    (storeSample r s).free = s.free ∧ (storeSample r s).pending = s.pending := by
  unfold storeSample
  (repeat' split) <;> simp

@[simp] theorem offerSample_keeps (r : SampleRec) (s : State) :
    (offerSample r s).lines = s.lines ∧ (offerSample r s).clock = s.clock ∧ (offerSample r s).start = s.start ∧
    (offerSample r s).seq = s.seq ∧ (offerSample r s).testRec = s.testRec ∧ (offerSample r s).follow = s.follow ∧
    (offerSample r s).travel = s.travel ∧ (offerSample r s).pair = s.pair ∧ (offerSample r s).load = s.load ∧
    (offerSample r s).ext = s.ext ∧ (offerSample r s).budget = s.budget ∧ (offerSample r s).stop = s.stop ∧
    (offerSample r s).free = s.free ∧ (offerSample r s).pending = s.pending := by
  unfold offerSample
  (repeat' split) <;> simp

@[simp] theorem placeResult_keeps (t : TestRecord) (s : State) :
    (placeResult t s).lines = s.lines ∧ (placeResult t s).clock = s.clock ∧ (placeResult t s).start = s.start ∧
    (placeResult t s).seq = s.seq ∧ (placeResult t s).testRec = s.testRec ∧ (placeResult t s).follow = s.follow ∧
    (placeResult t s).travel = s.travel ∧ (placeResult t s).pair = s.pair ∧ (placeResult t s).load = s.load ∧
    (placeResult t s).ext = s.ext ∧ (placeResult t s).budget = s.budget ∧ (placeResult t s).stop = s.stop ∧
    (placeResult t s).free = s.free ∧ (placeResult t s).pending = s.pending := by
  unfold placeResult
  (repeat' split) <;> simp

@[simp] theorem closeCollection_keeps (s : State) :
    (closeCollection s).lines = s.lines ∧ (closeCollection s).clock = s.clock ∧ (closeCollection s).start = s.start ∧
    (closeCollection s).seq = s.seq ∧ (closeCollection s).follow = s.follow ∧ (closeCollection s).travel = s.travel ∧
    (closeCollection s).pair = s.pair ∧ (closeCollection s).load = s.load ∧ (closeCollection s).ext = s.ext ∧
    (closeCollection s).budget = s.budget ∧ (closeCollection s).stop = s.stop ∧ (closeCollection s).free = s.free ∧
    (closeCollection s).pending = s.pending := by
  dsimp only [closeCollection]
  (repeat' split) <;> simp

@[simp] theorem curveComplete_keeps (k : Nat) (disowned : Bool) (s : State) :
    (curveComplete k disowned s).lines = s.lines ∧ (curveComplete k disowned s).clock = s.clock ∧
    (curveComplete k disowned s).start = s.start ∧ (curveComplete k disowned s).seq = s.seq ∧
    (curveComplete k disowned s).testRec = s.testRec ∧ (curveComplete k disowned s).follow = s.follow ∧
    (curveComplete k disowned s).travel = s.travel ∧ (curveComplete k disowned s).pair = s.pair ∧
    (curveComplete k disowned s).load = s.load ∧ (curveComplete k disowned s).ext = s.ext ∧
    (curveComplete k disowned s).budget = s.budget ∧ (curveComplete k disowned s).stop = s.stop ∧
    (curveComplete k disowned s).free = s.free ∧ (curveComplete k disowned s).pending = s.pending := by
  unfold curveComplete
  (repeat' split) <;> simp

@[simp] theorem resultComplete_keeps (s : State) :
    (resultComplete s).lines = s.lines ∧ (resultComplete s).clock = s.clock ∧ (resultComplete s).start = s.start ∧
    (resultComplete s).seq = s.seq ∧ (resultComplete s).testRec = s.testRec ∧ (resultComplete s).follow = s.follow ∧
    (resultComplete s).travel = s.travel ∧ (resultComplete s).pair = s.pair ∧ (resultComplete s).load = s.load ∧
    (resultComplete s).ext = s.ext ∧ (resultComplete s).budget = s.budget ∧ (resultComplete s).stop = s.stop ∧
    (resultComplete s).free = s.free ∧ (resultComplete s).pending = s.pending := by
  unfold resultComplete
  (repeat' split) <;> simp

end Sys2Proof.Laws
end

