-- ==== Sys2Proof/Laws/KeepsArm.lean ====
section
/-! SUPPORT. The fields of the state that each operation of the arm, the sequencers and the fault unit leaves as
they are. -/

namespace Sys2Proof.Laws

open Sys2Proof.Machine

@[simp] theorem switchNotice_keeps (cause : SwitchCause) (s : State) :
    (switchNotice cause s).lines = s.lines ∧ (switchNotice cause s).clock = s.clock ∧
    (switchNotice cause s).start = s.start ∧ (switchNotice cause s).seq = s.seq ∧
    (switchNotice cause s).testRec = s.testRec ∧ (switchNotice cause s).follow = s.follow ∧
    (switchNotice cause s).travel = s.travel ∧ (switchNotice cause s).pair = s.pair ∧
    (switchNotice cause s).load = s.load ∧ (switchNotice cause s).ext = s.ext ∧
    (switchNotice cause s).budget = s.budget ∧ (switchNotice cause s).stop = s.stop ∧
    (switchNotice cause s).recorder = s.recorder ∧ (switchNotice cause s).free = s.free ∧
    (switchNotice cause s).pending = s.pending := by
  unfold switchNotice
  (repeat' split) <;> simp

@[simp] theorem switchover_keeps (cause : SwitchCause) (s : State) :
    (switchover cause s).lines = s.lines ∧ (switchover cause s).clock = s.clock ∧
    (switchover cause s).start = s.start ∧ (switchover cause s).seq = s.seq ∧
    (switchover cause s).follow = s.follow ∧ (switchover cause s).travel = s.travel ∧
    (switchover cause s).pair = s.pair ∧ (switchover cause s).load = s.load ∧
    (switchover cause s).budget = s.budget ∧ (switchover cause s).stop = s.stop ∧
    (switchover cause s).recorder = s.recorder ∧ (switchover cause s).free = s.free ∧
    (switchover cause s).pending = s.pending := by
  unfold switchover
  (repeat' split) <;> simp

@[simp] theorem removeArm_keeps (s : State) :
    (removeArm s).lines = s.lines ∧ (removeArm s).clock = s.clock ∧ (removeArm s).start = s.start ∧
    (removeArm s).seq = s.seq ∧ (removeArm s).follow = s.follow ∧ (removeArm s).travel = s.travel ∧
    (removeArm s).pair = s.pair ∧ (removeArm s).load = s.load ∧ (removeArm s).budget = s.budget ∧
    (removeArm s).stop = s.stop ∧ (removeArm s).recorder = s.recorder ∧ (removeArm s).free = s.free ∧
    (removeArm s).pending = s.pending := by
  unfold removeArm
  (repeat' split) <;> simp

@[simp] theorem openArm_keeps (cause : SwitchCause) (s : State) :
    (openArm cause s).lines = s.lines ∧ (openArm cause s).clock = s.clock ∧ (openArm cause s).start = s.start ∧
    (openArm cause s).seq = s.seq ∧ (openArm cause s).follow = s.follow ∧ (openArm cause s).travel = s.travel ∧
    (openArm cause s).pair = s.pair ∧ (openArm cause s).load = s.load ∧ (openArm cause s).budget = s.budget ∧
    (openArm cause s).stop = s.stop ∧ (openArm cause s).recorder = s.recorder ∧ (openArm cause s).free = s.free ∧
    (openArm cause s).pending = s.pending := by
  dsimp only [openArm]
  (repeat' split) <;> simp

@[simp] theorem joinSlip_keeps (v : ExtView) (r : SampleRec) (s : State) :
    (joinSlip v r s).lines = s.lines ∧ (joinSlip v r s).clock = s.clock ∧ (joinSlip v r s).start = s.start ∧
    (joinSlip v r s).seq = s.seq ∧ (joinSlip v r s).testRec = s.testRec ∧ (joinSlip v r s).follow = s.follow ∧
    (joinSlip v r s).travel = s.travel ∧ (joinSlip v r s).pair = s.pair ∧ (joinSlip v r s).load = s.load ∧
    (joinSlip v r s).link = s.link ∧ (joinSlip v r s).budget = s.budget ∧ (joinSlip v r s).stop = s.stop ∧
    (joinSlip v r s).recorder = s.recorder ∧ (joinSlip v r s).free = s.free ∧ (joinSlip v r s).pending = s.pending := by
  unfold joinSlip
  (repeat' split) <;> simp

@[simp] theorem examineSample_keeps (v : ExtView) (r : SampleRec) (s : State) :
    (examineSample v r s).lines = s.lines ∧ (examineSample v r s).clock = s.clock ∧
    (examineSample v r s).start = s.start ∧ (examineSample v r s).seq = s.seq ∧
    (examineSample v r s).follow = s.follow ∧ (examineSample v r s).travel = s.travel ∧
    (examineSample v r s).pair = s.pair ∧ (examineSample v r s).load = s.load ∧
    (examineSample v r s).budget = s.budget ∧ (examineSample v r s).stop = s.stop ∧
    (examineSample v r s).recorder = s.recorder ∧ (examineSample v r s).free = s.free ∧
    (examineSample v r s).pending = s.pending := by
  unfold examineSample joinSlip
  (repeat' split) <;> simp

@[simp] theorem gotoState_keeps (st : SeqState) (s : State) :
    (gotoState st s).lines = s.lines ∧ (gotoState st s).clock = s.clock ∧ (gotoState st s).start = s.start ∧
    (gotoState st s).testRec = s.testRec ∧ (gotoState st s).follow = s.follow ∧ (gotoState st s).travel = s.travel ∧
    (gotoState st s).pair = s.pair ∧ (gotoState st s).load = s.load ∧ (gotoState st s).ext = s.ext ∧
    (gotoState st s).link = s.link ∧ (gotoState st s).budget = s.budget ∧ (gotoState st s).stop = s.stop ∧
    (gotoState st s).recorder = s.recorder ∧ (gotoState st s).free = s.free ∧ (gotoState st s).pending = s.pending := by
  unfold gotoState
  simp

@[simp] theorem writeRecord_keeps (f : TestRecord → TestRecord) (s : State) :
    (writeRecord f s).lines = s.lines ∧ (writeRecord f s).clock = s.clock ∧ (writeRecord f s).start = s.start ∧
    (writeRecord f s).seq = s.seq ∧ (writeRecord f s).follow = s.follow ∧ (writeRecord f s).travel = s.travel ∧
    (writeRecord f s).pair = s.pair ∧ (writeRecord f s).load = s.load ∧ (writeRecord f s).ext = s.ext ∧
    (writeRecord f s).link = s.link ∧ (writeRecord f s).budget = s.budget ∧ (writeRecord f s).stop = s.stop ∧
    (writeRecord f s).recorder = s.recorder ∧ (writeRecord f s).free = s.free ∧ (writeRecord f s).pending = s.pending := by
  unfold writeRecord
  simp

@[simp] theorem abandonTare_keeps (s : State) :
    (abandonTare s).lines = s.lines ∧ (abandonTare s).clock = s.clock ∧ (abandonTare s).start = s.start ∧
    (abandonTare s).seq = s.seq ∧ (abandonTare s).testRec = s.testRec ∧ (abandonTare s).follow = s.follow ∧
    (abandonTare s).travel = s.travel ∧ (abandonTare s).pair = s.pair ∧ (abandonTare s).ext = s.ext ∧
    (abandonTare s).link = s.link ∧ (abandonTare s).budget = s.budget ∧ (abandonTare s).stop = s.stop ∧
    (abandonTare s).recorder = s.recorder ∧ (abandonTare s).free = s.free ∧ (abandonTare s).pending = s.pending := by
  unfold abandonTare
  simp

@[simp] theorem closeSpan_keeps (s : State) :
    (closeSpan s).lines = s.lines ∧ (closeSpan s).clock = s.clock ∧ (closeSpan s).start = s.start ∧
    (closeSpan s).seq = s.seq ∧ (closeSpan s).testRec = s.testRec ∧ (closeSpan s).follow = s.follow ∧
    (closeSpan s).travel = s.travel ∧ (closeSpan s).pair = s.pair ∧ (closeSpan s).ext = s.ext ∧
    (closeSpan s).link = s.link ∧ (closeSpan s).budget = s.budget ∧ (closeSpan s).stop = s.stop ∧
    (closeSpan s).recorder = s.recorder ∧ (closeSpan s).free = s.free ∧ (closeSpan s).pending = s.pending := by
  unfold closeSpan
  (repeat' split) <;> simp

@[simp] theorem endTest_keeps (outcome : TestOutcome) (s : State) :
    (endTest outcome s).lines = s.lines ∧ (endTest outcome s).clock = s.clock ∧ (endTest outcome s).start = s.start ∧
    (endTest outcome s).seq = s.seq ∧ (endTest outcome s).follow = s.follow ∧ (endTest outcome s).travel = s.travel ∧
    (endTest outcome s).pair = s.pair ∧ (endTest outcome s).ext = s.ext ∧ (endTest outcome s).budget = s.budget ∧
    (endTest outcome s).stop = s.stop ∧ (endTest outcome s).free = s.free ∧ (endTest outcome s).pending = s.pending := by
  unfold endTest
  simp

@[simp] theorem haltSequencer_keeps (st : SeqState) (outcome : TestOutcome) (s : State) :
    (haltSequencer st outcome s).lines = s.lines ∧ (haltSequencer st outcome s).clock = s.clock ∧
    (haltSequencer st outcome s).start = s.start ∧ (haltSequencer st outcome s).follow = s.follow ∧
    (haltSequencer st outcome s).travel = s.travel ∧ (haltSequencer st outcome s).pair = s.pair ∧
    (haltSequencer st outcome s).stop = s.stop ∧ (haltSequencer st outcome s).free = s.free ∧
    (haltSequencer st outcome s).pending = s.pending := by
  dsimp only [haltSequencer]
  (repeat' split) <;> simp

@[simp] theorem stopSequencer_keeps (s : State) :
    (stopSequencer s).lines = s.lines ∧ (stopSequencer s).clock = s.clock ∧ (stopSequencer s).start = s.start ∧
    (stopSequencer s).follow = s.follow ∧ (stopSequencer s).travel = s.travel ∧ (stopSequencer s).pair = s.pair ∧
    (stopSequencer s).stop = s.stop ∧ (stopSequencer s).free = s.free ∧ (stopSequencer s).pending = s.pending := by
  unfold stopSequencer
  (repeat' split) <;> simp

@[simp] theorem faultSequencer_keeps (s : State) :
    (faultSequencer s).lines = s.lines ∧ (faultSequencer s).clock = s.clock ∧ (faultSequencer s).start = s.start ∧
    (faultSequencer s).follow = s.follow ∧ (faultSequencer s).travel = s.travel ∧ (faultSequencer s).pair = s.pair ∧
    (faultSequencer s).stop = s.stop ∧ (faultSequencer s).free = s.free ∧ (faultSequencer s).pending = s.pending := by
  unfold faultSequencer
  (repeat' split) <;> simp

@[simp] theorem haltFollow_keeps (st : SeqState) (s : State) :
    (haltFollow st s).lines = s.lines ∧ (haltFollow st s).clock = s.clock ∧ (haltFollow st s).start = s.start ∧
    (haltFollow st s).seq = s.seq ∧ (haltFollow st s).testRec = s.testRec ∧ (haltFollow st s).travel = s.travel ∧
    (haltFollow st s).pair = s.pair ∧ (haltFollow st s).load = s.load ∧ (haltFollow st s).ext = s.ext ∧
    (haltFollow st s).stop = s.stop ∧ (haltFollow st s).recorder = s.recorder ∧ (haltFollow st s).free = s.free ∧
    (haltFollow st s).pending = s.pending := by
  unfold haltFollow
  simp

@[simp] theorem stopFollow_keeps (s : State) :
    (stopFollow s).lines = s.lines ∧ (stopFollow s).clock = s.clock ∧ (stopFollow s).start = s.start ∧
    (stopFollow s).seq = s.seq ∧ (stopFollow s).testRec = s.testRec ∧ (stopFollow s).travel = s.travel ∧
    (stopFollow s).pair = s.pair ∧ (stopFollow s).load = s.load ∧ (stopFollow s).ext = s.ext ∧
    (stopFollow s).stop = s.stop ∧ (stopFollow s).recorder = s.recorder ∧ (stopFollow s).free = s.free ∧
    (stopFollow s).pending = s.pending := by
  unfold stopFollow
  (repeat' split) <;> simp

@[simp] theorem faultFollow_keeps (s : State) :
    (faultFollow s).lines = s.lines ∧ (faultFollow s).clock = s.clock ∧ (faultFollow s).start = s.start ∧
    (faultFollow s).seq = s.seq ∧ (faultFollow s).testRec = s.testRec ∧ (faultFollow s).travel = s.travel ∧
    (faultFollow s).pair = s.pair ∧ (faultFollow s).load = s.load ∧ (faultFollow s).ext = s.ext ∧
    (faultFollow s).stop = s.stop ∧ (faultFollow s).recorder = s.recorder ∧ (faultFollow s).free = s.free ∧
    (faultFollow s).pending = s.pending := by
  unfold faultFollow
  (repeat' split) <;> simp

@[simp] theorem restRegulator_keeps (s : State) :
    (restRegulator s).lines = s.lines ∧ (restRegulator s).clock = s.clock ∧ (restRegulator s).start = s.start ∧
    (restRegulator s).seq = s.seq ∧ (restRegulator s).testRec = s.testRec ∧ (restRegulator s).follow = s.follow ∧
    (restRegulator s).pair = s.pair ∧ (restRegulator s).load = s.load ∧ (restRegulator s).ext = s.ext ∧
    (restRegulator s).link = s.link ∧ (restRegulator s).budget = s.budget ∧ (restRegulator s).stop = s.stop ∧
    (restRegulator s).recorder = s.recorder ∧ (restRegulator s).free = s.free ∧ (restRegulator s).pending = s.pending := by
  unfold restRegulator
  simp

@[simp] theorem restFollow_keeps (s : State) :
    (restFollow s).lines = s.lines ∧ (restFollow s).clock = s.clock ∧ (restFollow s).start = s.start ∧
    (restFollow s).seq = s.seq ∧ (restFollow s).testRec = s.testRec ∧ (restFollow s).pair = s.pair ∧
    (restFollow s).load = s.load ∧ (restFollow s).ext = s.ext ∧ (restFollow s).link = s.link ∧
    (restFollow s).budget = s.budget ∧ (restFollow s).stop = s.stop ∧ (restFollow s).recorder = s.recorder ∧
    (restFollow s).free = s.free ∧ (restFollow s).pending = s.pending := by
  unfold restFollow
  simp

@[simp] theorem idleFollow_keeps (s : State) :
    (idleFollow s).lines = s.lines ∧ (idleFollow s).clock = s.clock ∧ (idleFollow s).start = s.start ∧
    (idleFollow s).seq = s.seq ∧ (idleFollow s).testRec = s.testRec ∧ (idleFollow s).pair = s.pair ∧
    (idleFollow s).load = s.load ∧ (idleFollow s).ext = s.ext ∧ (idleFollow s).stop = s.stop ∧
    (idleFollow s).recorder = s.recorder ∧ (idleFollow s).free = s.free ∧ (idleFollow s).pending = s.pending := by
  unfold idleFollow
  simp

@[simp] theorem enterIdle_keeps (s : State) :
    (enterIdle s).lines = s.lines ∧ (enterIdle s).clock = s.clock ∧ (enterIdle s).start = s.start ∧
    (enterIdle s).follow = s.follow ∧ (enterIdle s).budget = s.budget ∧ (enterIdle s).stop = s.stop ∧
    (enterIdle s).recorder = s.recorder ∧ (enterIdle s).free = s.free ∧ (enterIdle s).pending = s.pending := by
  unfold enterIdle
  simp

@[simp] theorem enterEnding_keeps (outcome : TestOutcome) (cause : SwitchCause) (s : State) :
    (enterEnding outcome cause s).lines = s.lines ∧ (enterEnding outcome cause s).clock = s.clock ∧
    (enterEnding outcome cause s).start = s.start ∧ (enterEnding outcome cause s).follow = s.follow ∧
    (enterEnding outcome cause s).travel = s.travel ∧ (enterEnding outcome cause s).pair = s.pair ∧
    (enterEnding outcome cause s).load = s.load ∧ (enterEnding outcome cause s).stop = s.stop ∧
    (enterEnding outcome cause s).recorder = s.recorder ∧ (enterEnding outcome cause s).free = s.free ∧
    (enterEnding outcome cause s).pending = s.pending := by
  unfold enterEnding
  simp

@[simp] theorem enterDone_keeps (s : State) :
    (enterDone s).lines = s.lines ∧ (enterDone s).clock = s.clock ∧ (enterDone s).start = s.start ∧
    (enterDone s).follow = s.follow ∧ (enterDone s).travel = s.travel ∧ (enterDone s).pair = s.pair ∧
    (enterDone s).stop = s.stop ∧ (enterDone s).free = s.free ∧ (enterDone s).pending = s.pending := by
  unfold enterDone
  simp

@[simp] theorem enterClaiming_keeps (s : State) :
    (enterClaiming s).lines = s.lines ∧ (enterClaiming s).clock = s.clock ∧ (enterClaiming s).start = s.start ∧
    (enterClaiming s).testRec = s.testRec ∧ (enterClaiming s).follow = s.follow ∧
    (enterClaiming s).travel = s.travel ∧ (enterClaiming s).pair = s.pair ∧ (enterClaiming s).load = s.load ∧
    (enterClaiming s).ext = s.ext ∧ (enterClaiming s).stop = s.stop ∧ (enterClaiming s).recorder = s.recorder ∧
    (enterClaiming s).free = s.free ∧ (enterClaiming s).pending = s.pending := by
  unfold enterClaiming
  simp

@[simp] theorem enterTaring_keeps (s : State) :
    (enterTaring s).lines = s.lines ∧ (enterTaring s).clock = s.clock ∧ (enterTaring s).start = s.start ∧
    (enterTaring s).testRec = s.testRec ∧ (enterTaring s).follow = s.follow ∧ (enterTaring s).travel = s.travel ∧
    (enterTaring s).pair = s.pair ∧ (enterTaring s).ext = s.ext ∧ (enterTaring s).link = s.link ∧
    (enterTaring s).budget = s.budget ∧ (enterTaring s).stop = s.stop ∧ (enterTaring s).recorder = s.recorder ∧
    (enterTaring s).free = s.free ∧ (enterTaring s).pending = s.pending := by
  unfold enterTaring
  simp

@[simp] theorem dropGrips_keeps (s : State) :
    (dropGrips s).lines = s.lines ∧ (dropGrips s).clock = s.clock ∧ (dropGrips s).start = s.start ∧
    (dropGrips s).testRec = s.testRec ∧ (dropGrips s).follow = s.follow ∧ (dropGrips s).travel = s.travel ∧
    (dropGrips s).pair = s.pair ∧ (dropGrips s).ext = s.ext ∧ (dropGrips s).link = s.link ∧
    (dropGrips s).budget = s.budget ∧ (dropGrips s).stop = s.stop ∧ (dropGrips s).recorder = s.recorder ∧
    (dropGrips s).free = s.free ∧ (dropGrips s).pending = s.pending := by
  unfold dropGrips
  simp

@[simp] theorem stopOwn_keeps (s : State) :
    (stopOwn s).lines = s.lines ∧ (stopOwn s).clock = s.clock ∧ (stopOwn s).start = s.start ∧
    (stopOwn s).travel = s.travel ∧ (stopOwn s).pair = s.pair ∧ (stopOwn s).stop = s.stop ∧
    (stopOwn s).free = s.free ∧ (stopOwn s).pending = s.pending := by
  unfold stopOwn
  (repeat' split) <;> simp

@[simp] theorem faultOwn_keeps (s : State) :
    (faultOwn s).lines = s.lines ∧ (faultOwn s).clock = s.clock ∧ (faultOwn s).start = s.start ∧
    (faultOwn s).travel = s.travel ∧ (faultOwn s).pair = s.pair ∧ (faultOwn s).stop = s.stop ∧
    (faultOwn s).free = s.free ∧ (faultOwn s).pending = s.pending := by
  unfold faultOwn
  (repeat' split) <;> simp

@[simp] theorem setLatch_keeps (s : State) :
    (setLatch s).lines = s.lines ∧ (setLatch s).clock = s.clock ∧ (setLatch s).start = s.start ∧
    (setLatch s).travel = s.travel ∧ (setLatch s).pair = s.pair ∧ (setLatch s).free = s.free ∧
    (setLatch s).pending = s.pending := by
  unfold setLatch
  (repeat' split) <;> simp

@[simp] theorem recordFault_keeps (cause : FaultCause) (s : State) :
    (recordFault cause s).lines = s.lines ∧ (recordFault cause s).clock = s.clock ∧
    (recordFault cause s).start = s.start ∧ (recordFault cause s).seq = s.seq ∧
    (recordFault cause s).follow = s.follow ∧ (recordFault cause s).travel = s.travel ∧
    (recordFault cause s).pair = s.pair ∧ (recordFault cause s).load = s.load ∧ (recordFault cause s).ext = s.ext ∧
    (recordFault cause s).link = s.link ∧ (recordFault cause s).budget = s.budget ∧
    (recordFault cause s).recorder = s.recorder ∧ (recordFault cause s).free = s.free ∧
    (recordFault cause s).pending = s.pending := by
  dsimp only [recordFault]
  (repeat' split) <;> simp

@[simp] theorem stopCell_keeps (cause : FaultCause) (s : State) :
    (stopCell cause s).lines = s.lines ∧ (stopCell cause s).clock = s.clock ∧ (stopCell cause s).start = s.start ∧
    (stopCell cause s).travel = s.travel ∧ (stopCell cause s).pair = s.pair ∧ (stopCell cause s).free = s.free ∧
    (stopCell cause s).pending = s.pending := by
  unfold stopCell
  simp

@[simp] theorem report_keeps (cause : FaultCause) (s : State) :
    (report cause s).lines = s.lines ∧ (report cause s).clock = s.clock ∧ (report cause s).start = s.start ∧
    (report cause s).travel = s.travel ∧ (report cause s).pair = s.pair ∧ (report cause s).free = s.free ∧
    (report cause s).pending = s.pending := by
  dsimp only [report]
  (repeat' split) <;> simp

end Sys2Proof.Laws
end

