-- ==== Sys2Proof/Laws/KeepsBlocks.lean ====
section
/-! SUPPORT. The fields of the state that each operation of the extensometer, travel, sequencer, pair and load units
leaves as they are. -/

namespace Sys2Proof.Laws

open Sys2Proof.Machine

@[simp] theorem takeAttach_keeps (s : State) :
    (takeAttach s).lines = s.lines ∧ (takeAttach s).clock = s.clock ∧ (takeAttach s).start = s.start ∧
    (takeAttach s).seq = s.seq ∧ (takeAttach s).testRec = s.testRec ∧ (takeAttach s).follow = s.follow ∧
    (takeAttach s).travel = s.travel ∧ (takeAttach s).pair = s.pair ∧ (takeAttach s).load = s.load ∧
    (takeAttach s).link = s.link ∧ (takeAttach s).budget = s.budget ∧ (takeAttach s).stop = s.stop ∧
    (takeAttach s).recorder = s.recorder ∧ (takeAttach s).free = s.free ∧ (takeAttach s).pending = s.pending := by
  unfold takeAttach
  simp

@[simp] theorem enterAttaching_keeps (s : State) :
    (enterAttaching s).lines = s.lines ∧ (enterAttaching s).clock = s.clock ∧ (enterAttaching s).start = s.start ∧
    (enterAttaching s).travel = s.travel ∧ (enterAttaching s).pair = s.pair ∧ (enterAttaching s).free = s.free ∧
    (enterAttaching s).pending = s.pending := by
  dsimp only [enterAttaching]
  (repeat' split) <;> simp

@[simp] theorem attachEvent_keeps (kind : ExtEventKind) (code : Nat) (cause : FaultCause) (s : State) :
    (attachEvent kind code cause s).lines = s.lines ∧ (attachEvent kind code cause s).clock = s.clock ∧
    (attachEvent kind code cause s).start = s.start ∧ (attachEvent kind code cause s).travel = s.travel ∧
    (attachEvent kind code cause s).pair = s.pair ∧ (attachEvent kind code cause s).free = s.free ∧
    (attachEvent kind code cause s).pending = s.pending := by
  unfold attachEvent
  (repeat' split) <;> simp

@[simp] theorem failAttach_keeps (kind : ExtEventKind) (code : Nat) (cause : FaultCause) (s : State) :
    (failAttach kind code cause s).lines = s.lines ∧ (failAttach kind code cause s).clock = s.clock ∧
    (failAttach kind code cause s).start = s.start ∧ (failAttach kind code cause s).travel = s.travel ∧
    (failAttach kind code cause s).pair = s.pair ∧ (failAttach kind code cause s).free = s.free ∧
    (failAttach kind code cause s).pending = s.pending := by
  unfold failAttach
  simp

@[simp] theorem seatFound_keeps (s : State) :
    (seatFound s).lines = s.lines ∧ (seatFound s).clock = s.clock ∧ (seatFound s).start = s.start ∧
    (seatFound s).seq = s.seq ∧ (seatFound s).testRec = s.testRec ∧ (seatFound s).follow = s.follow ∧
    (seatFound s).travel = s.travel ∧ (seatFound s).pair = s.pair ∧ (seatFound s).load = s.load ∧
    (seatFound s).link = s.link ∧ (seatFound s).budget = s.budget ∧ (seatFound s).stop = s.stop ∧
    (seatFound s).recorder = s.recorder ∧ (seatFound s).free = s.free ∧ (seatFound s).pending = s.pending := by
  unfold seatFound
  (repeat' split) <;> simp

@[simp] theorem seatLost_keeps (s : State) :
    (seatLost s).lines = s.lines ∧ (seatLost s).clock = s.clock ∧ (seatLost s).start = s.start ∧
    (seatLost s).travel = s.travel ∧ (seatLost s).pair = s.pair ∧ (seatLost s).free = s.free ∧
    (seatLost s).pending = s.pending := by
  unfold seatLost
  (repeat' split) <;> simp

@[simp] theorem armOut_keeps (s : State) :
    (armOut s).lines = s.lines ∧ (armOut s).clock = s.clock ∧ (armOut s).start = s.start ∧ (armOut s).seq = s.seq ∧
    (armOut s).testRec = s.testRec ∧ (armOut s).follow = s.follow ∧ (armOut s).travel = s.travel ∧
    (armOut s).pair = s.pair ∧ (armOut s).load = s.load ∧ (armOut s).link = s.link ∧ (armOut s).budget = s.budget ∧
    (armOut s).stop = s.stop ∧ (armOut s).recorder = s.recorder ∧ (armOut s).free = s.free ∧
    (armOut s).pending = s.pending := by
  dsimp only [armOut]
  (repeat' split) <;> simp

@[simp] theorem closeExpired_keeps (s : State) :
    (closeExpired s).lines = s.lines ∧ (closeExpired s).clock = s.clock ∧ (closeExpired s).start = s.start ∧
    (closeExpired s).travel = s.travel ∧ (closeExpired s).pair = s.pair ∧ (closeExpired s).free = s.free ∧
    (closeExpired s).pending = s.pending := by
  unfold closeExpired
  (repeat' split) <;> simp

@[simp] theorem identExpired_keeps (s : State) :
    (identExpired s).lines = s.lines ∧ (identExpired s).clock = s.clock ∧ (identExpired s).start = s.start ∧
    (identExpired s).travel = s.travel ∧ (identExpired s).pair = s.pair ∧ (identExpired s).free = s.free ∧
    (identExpired s).pending = s.pending := by
  unfold identExpired
  (repeat' split) <;> simp

@[simp] theorem openExpired_keeps (s : State) :
    (openExpired s).lines = s.lines ∧ (openExpired s).clock = s.clock ∧ (openExpired s).start = s.start ∧
    (openExpired s).travel = s.travel ∧ (openExpired s).pair = s.pair ∧ (openExpired s).free = s.free ∧
    (openExpired s).pending = s.pending := by
  dsimp only [openExpired]
  (repeat' split) <;> simp

@[simp] theorem identStart_keeps (s : State) :
    (identStart s).lines = s.lines ∧ (identStart s).clock = s.clock ∧ (identStart s).start = s.start ∧
    (identStart s).seq = s.seq ∧ (identStart s).testRec = s.testRec ∧ (identStart s).follow = s.follow ∧
    (identStart s).travel = s.travel ∧ (identStart s).pair = s.pair ∧ (identStart s).load = s.load ∧
    (identStart s).link = s.link ∧ (identStart s).budget = s.budget ∧ (identStart s).stop = s.stop ∧
    (identStart s).recorder = s.recorder ∧ (identStart s).free = s.free ∧ (identStart s).pending = s.pending := by
  unfold identStart
  (repeat' split) <;> simp

@[simp] theorem writeIdRec_keeps (w : BitVec 32) (s : State) :
    (writeIdRec w s).lines = s.lines ∧ (writeIdRec w s).clock = s.clock ∧ (writeIdRec w s).start = s.start ∧
    (writeIdRec w s).seq = s.seq ∧ (writeIdRec w s).testRec = s.testRec ∧ (writeIdRec w s).follow = s.follow ∧
    (writeIdRec w s).travel = s.travel ∧ (writeIdRec w s).pair = s.pair ∧ (writeIdRec w s).load = s.load ∧
    (writeIdRec w s).link = s.link ∧ (writeIdRec w s).budget = s.budget ∧ (writeIdRec w s).stop = s.stop ∧
    (writeIdRec w s).recorder = s.recorder ∧ (writeIdRec w s).free = s.free ∧ (writeIdRec w s).pending = s.pending := by
  unfold writeIdRec
  simp

@[simp] theorem enterSettling_keeps (s : State) :
    (enterSettling s).lines = s.lines ∧ (enterSettling s).clock = s.clock ∧ (enterSettling s).start = s.start ∧
    (enterSettling s).seq = s.seq ∧ (enterSettling s).testRec = s.testRec ∧ (enterSettling s).follow = s.follow ∧
    (enterSettling s).travel = s.travel ∧ (enterSettling s).pair = s.pair ∧ (enterSettling s).load = s.load ∧
    (enterSettling s).link = s.link ∧ (enterSettling s).budget = s.budget ∧ (enterSettling s).stop = s.stop ∧
    (enterSettling s).recorder = s.recorder ∧ (enterSettling s).free = s.free ∧ (enterSettling s).pending = s.pending := by
  unfold enterSettling
  simp

@[simp] theorem examineWord_keeps (w : BitVec 32) (s : State) :
    (examineWord w s).lines = s.lines ∧ (examineWord w s).clock = s.clock ∧ (examineWord w s).start = s.start ∧
    (examineWord w s).travel = s.travel ∧ (examineWord w s).pair = s.pair ∧ (examineWord w s).free = s.free ∧
    (examineWord w s).pending = s.pending := by
  unfold examineWord
  (repeat' split) <;> simp

@[simp] theorem enterMeasuring_keeps (s : State) :
    (enterMeasuring s).lines = s.lines ∧ (enterMeasuring s).clock = s.clock ∧ (enterMeasuring s).start = s.start ∧
    (enterMeasuring s).seq = s.seq ∧ (enterMeasuring s).testRec = s.testRec ∧ (enterMeasuring s).follow = s.follow ∧
    (enterMeasuring s).travel = s.travel ∧ (enterMeasuring s).pair = s.pair ∧ (enterMeasuring s).load = s.load ∧
    (enterMeasuring s).link = s.link ∧ (enterMeasuring s).budget = s.budget ∧ (enterMeasuring s).stop = s.stop ∧
    (enterMeasuring s).recorder = s.recorder ∧ (enterMeasuring s).free = s.free ∧
    (enterMeasuring s).pending = s.pending := by
  unfold enterMeasuring
  simp

@[simp] theorem reportMeasuring_keeps (s : State) :
    (reportMeasuring s).lines = s.lines ∧ (reportMeasuring s).clock = s.clock ∧ (reportMeasuring s).start = s.start ∧
    (reportMeasuring s).testRec = s.testRec ∧ (reportMeasuring s).follow = s.follow ∧
    (reportMeasuring s).travel = s.travel ∧ (reportMeasuring s).pair = s.pair ∧ (reportMeasuring s).load = s.load ∧
    (reportMeasuring s).ext = s.ext ∧ (reportMeasuring s).stop = s.stop ∧ (reportMeasuring s).recorder = s.recorder ∧
    (reportMeasuring s).free = s.free ∧ (reportMeasuring s).pending = s.pending := by
  unfold reportMeasuring
  split <;> simp

@[simp] theorem settled_keeps (s : State) :
    (settled s).lines = s.lines ∧ (settled s).clock = s.clock ∧ (settled s).start = s.start ∧
    (settled s).testRec = s.testRec ∧ (settled s).follow = s.follow ∧ (settled s).travel = s.travel ∧
    (settled s).pair = s.pair ∧ (settled s).load = s.load ∧ (settled s).stop = s.stop ∧
    (settled s).recorder = s.recorder ∧ (settled s).free = s.free ∧ (settled s).pending = s.pending := by
  unfold settled
  split <;> simp

@[simp] theorem armClosedLine_keeps (high : Bool) (s : State) :
    (State.armClosedLine high s).clock = s.clock ∧ (State.armClosedLine high s).start = s.start ∧
    (State.armClosedLine high s).seq = s.seq ∧ (State.armClosedLine high s).testRec = s.testRec ∧
    (State.armClosedLine high s).follow = s.follow ∧ (State.armClosedLine high s).travel = s.travel ∧
    (State.armClosedLine high s).pair = s.pair ∧ (State.armClosedLine high s).load = s.load ∧
    (State.armClosedLine high s).ext = s.ext ∧ (State.armClosedLine high s).link = s.link ∧
    (State.armClosedLine high s).budget = s.budget ∧ (State.armClosedLine high s).stop = s.stop ∧
    (State.armClosedLine high s).recorder = s.recorder ∧ (State.armClosedLine high s).free = s.free ∧
    (State.armClosedLine high s).pending = s.pending := by
  unfold State.armClosedLine
  simp

@[simp] theorem armOpenLine_keeps (high : Bool) (s : State) :
    (State.armOpenLine high s).clock = s.clock ∧ (State.armOpenLine high s).start = s.start ∧
    (State.armOpenLine high s).seq = s.seq ∧ (State.armOpenLine high s).testRec = s.testRec ∧
    (State.armOpenLine high s).follow = s.follow ∧ (State.armOpenLine high s).travel = s.travel ∧
    (State.armOpenLine high s).pair = s.pair ∧ (State.armOpenLine high s).load = s.load ∧
    (State.armOpenLine high s).ext = s.ext ∧ (State.armOpenLine high s).link = s.link ∧
    (State.armOpenLine high s).budget = s.budget ∧ (State.armOpenLine high s).stop = s.stop ∧
    (State.armOpenLine high s).recorder = s.recorder ∧ (State.armOpenLine high s).free = s.free ∧
    (State.armOpenLine high s).pending = s.pending := by
  unfold State.armOpenLine
  simp

@[simp] theorem gateClose_keeps (s : State) :
    (gateClose s).lines = s.lines ∧ (gateClose s).clock = s.clock ∧ (gateClose s).start = s.start ∧
    (gateClose s).seq = s.seq ∧ (gateClose s).testRec = s.testRec ∧ (gateClose s).follow = s.follow ∧
    (gateClose s).pair = s.pair ∧ (gateClose s).load = s.load ∧ (gateClose s).ext = s.ext ∧
    (gateClose s).link = s.link ∧ (gateClose s).budget = s.budget ∧ (gateClose s).stop = s.stop ∧
    (gateClose s).recorder = s.recorder ∧ (gateClose s).free = s.free ∧ (gateClose s).pending = s.pending := by
  unfold gateClose
  (repeat' split) <;> simp

@[simp] theorem encoderCount_keeps (up : Bool) (us : Nat) (s : State) :
    (encoderCount up us s).lines = s.lines ∧ (encoderCount up us s).clock = s.clock ∧
    (encoderCount up us s).start = s.start ∧ (encoderCount up us s).seq = s.seq ∧
    (encoderCount up us s).testRec = s.testRec ∧ (encoderCount up us s).follow = s.follow ∧
    (encoderCount up us s).pair = s.pair ∧ (encoderCount up us s).load = s.load ∧
    (encoderCount up us s).ext = s.ext ∧ (encoderCount up us s).link = s.link ∧
    (encoderCount up us s).budget = s.budget ∧ (encoderCount up us s).stop = s.stop ∧
    (encoderCount up us s).recorder = s.recorder ∧ (encoderCount up us s).free = s.free ∧
    (encoderCount up us s).pending = s.pending := by
  unfold encoderCount
  simp

@[simp] theorem periodStopped_keeps (s : State) :
    (periodStopped s).lines = s.lines ∧ (periodStopped s).clock = s.clock ∧ (periodStopped s).start = s.start ∧
    (periodStopped s).seq = s.seq ∧ (periodStopped s).testRec = s.testRec ∧ (periodStopped s).follow = s.follow ∧
    (periodStopped s).pair = s.pair ∧ (periodStopped s).load = s.load ∧ (periodStopped s).ext = s.ext ∧
    (periodStopped s).link = s.link ∧ (periodStopped s).budget = s.budget ∧ (periodStopped s).stop = s.stop ∧
    (periodStopped s).recorder = s.recorder ∧ (periodStopped s).free = s.free ∧ (periodStopped s).pending = s.pending := by
  unfold periodStopped
  simp

@[simp] theorem regulateSample_keeps (q : Request) (r : SampleRec) (s : State) :
    (regulateSample q r s).lines = s.lines ∧ (regulateSample q r s).clock = s.clock ∧
    (regulateSample q r s).start = s.start ∧ (regulateSample q r s).seq = s.seq ∧
    (regulateSample q r s).testRec = s.testRec ∧ (regulateSample q r s).follow = s.follow ∧
    (regulateSample q r s).pair = s.pair ∧ (regulateSample q r s).load = s.load ∧
    (regulateSample q r s).ext = s.ext ∧ (regulateSample q r s).link = s.link ∧
    (regulateSample q r s).budget = s.budget ∧ (regulateSample q r s).stop = s.stop ∧
    (regulateSample q r s).recorder = s.recorder ∧ (regulateSample q r s).free = s.free ∧
    (regulateSample q r s).pending = s.pending := by
  dsimp only [regulateSample]
  (repeat' split) <;> simp

@[simp] theorem releasePort_keeps (s : State) :
    (releasePort s).lines = s.lines ∧ (releasePort s).clock = s.clock ∧ (releasePort s).start = s.start ∧
    (releasePort s).pair = s.pair ∧ (releasePort s).free = s.free ∧ (releasePort s).pending = s.pending := by
  unfold releasePort
  (repeat' split) <;> simp

@[simp] theorem examineAmplifier_keeps (s : State) :
    (examineAmplifier s).lines = s.lines ∧ (examineAmplifier s).clock = s.clock ∧
    (examineAmplifier s).start = s.start ∧ (examineAmplifier s).pair = s.pair ∧ (examineAmplifier s).free = s.free ∧
    (examineAmplifier s).pending = s.pending := by
  unfold examineAmplifier
  (repeat' split) <;> simp

@[simp] theorem beginRegulator_keeps (p : Phase) (r : SampleRec) (s : State) :
    (beginRegulator p r s).lines = s.lines ∧ (beginRegulator p r s).clock = s.clock ∧
    (beginRegulator p r s).start = s.start ∧ (beginRegulator p r s).seq = s.seq ∧
    (beginRegulator p r s).testRec = s.testRec ∧ (beginRegulator p r s).follow = s.follow ∧
    (beginRegulator p r s).pair = s.pair ∧ (beginRegulator p r s).load = s.load ∧
    (beginRegulator p r s).ext = s.ext ∧ (beginRegulator p r s).link = s.link ∧
    (beginRegulator p r s).budget = s.budget ∧ (beginRegulator p r s).stop = s.stop ∧
    (beginRegulator p r s).recorder = s.recorder ∧ (beginRegulator p r s).free = s.free ∧
    (beginRegulator p r s).pending = s.pending := by
  unfold beginRegulator
  (repeat' split) <;> simp

@[simp] theorem advancePhase_keeps (s : State) :
    (advancePhase s).lines = s.lines ∧ (advancePhase s).clock = s.clock ∧ (advancePhase s).start = s.start ∧
    (advancePhase s).testRec = s.testRec ∧ (advancePhase s).follow = s.follow ∧ (advancePhase s).travel = s.travel ∧
    (advancePhase s).pair = s.pair ∧ (advancePhase s).load = s.load ∧ (advancePhase s).ext = s.ext ∧
    (advancePhase s).link = s.link ∧ (advancePhase s).budget = s.budget ∧ (advancePhase s).stop = s.stop ∧
    (advancePhase s).recorder = s.recorder ∧ (advancePhase s).free = s.free ∧ (advancePhase s).pending = s.pending := by
  unfold advancePhase
  simp

@[simp] theorem enterHeld_keeps (causes : HoldCauses) (s : State) :
    (enterHeld causes s).lines = s.lines ∧ (enterHeld causes s).clock = s.clock ∧
    (enterHeld causes s).start = s.start ∧ (enterHeld causes s).follow = s.follow ∧
    (enterHeld causes s).travel = s.travel ∧ (enterHeld causes s).pair = s.pair ∧
    (enterHeld causes s).load = s.load ∧ (enterHeld causes s).ext = s.ext ∧ (enterHeld causes s).budget = s.budget ∧
    (enterHeld causes s).stop = s.stop ∧ (enterHeld causes s).recorder = s.recorder ∧
    (enterHeld causes s).free = s.free ∧ (enterHeld causes s).pending = s.pending := by
  unfold enterHeld
  simp

@[simp] theorem holdOrAdvance_keeps (s : State) :
    (holdOrAdvance s).lines = s.lines ∧ (holdOrAdvance s).clock = s.clock ∧ (holdOrAdvance s).start = s.start ∧
    (holdOrAdvance s).follow = s.follow ∧ (holdOrAdvance s).travel = s.travel ∧ (holdOrAdvance s).pair = s.pair ∧
    (holdOrAdvance s).load = s.load ∧ (holdOrAdvance s).ext = s.ext ∧ (holdOrAdvance s).budget = s.budget ∧
    (holdOrAdvance s).stop = s.stop ∧ (holdOrAdvance s).recorder = s.recorder ∧ (holdOrAdvance s).free = s.free ∧
    (holdOrAdvance s).pending = s.pending := by
  unfold holdOrAdvance
  (repeat' split) <;> simp

@[simp] theorem enterRunning_keeps (s : State) :
    (enterRunning s).lines = s.lines ∧ (enterRunning s).clock = s.clock ∧ (enterRunning s).start = s.start ∧
    (enterRunning s).testRec = s.testRec ∧ (enterRunning s).follow = s.follow ∧ (enterRunning s).travel = s.travel ∧
    (enterRunning s).load = s.load ∧ (enterRunning s).ext = s.ext ∧ (enterRunning s).link = s.link ∧
    (enterRunning s).budget = s.budget ∧ (enterRunning s).stop = s.stop ∧ (enterRunning s).free = s.free ∧
    (enterRunning s).pending = s.pending := by
  dsimp only [enterRunning]
  (repeat' split) <;> simp

@[simp] theorem openSpan_keeps (s : State) :
    (openSpan s).lines = s.lines ∧ (openSpan s).clock = s.clock ∧ (openSpan s).start = s.start ∧
    (openSpan s).seq = s.seq ∧ (openSpan s).testRec = s.testRec ∧ (openSpan s).follow = s.follow ∧
    (openSpan s).travel = s.travel ∧ (openSpan s).pair = s.pair ∧ (openSpan s).ext = s.ext ∧
    (openSpan s).link = s.link ∧ (openSpan s).budget = s.budget ∧ (openSpan s).stop = s.stop ∧
    (openSpan s).recorder = s.recorder ∧ (openSpan s).free = s.free ∧ (openSpan s).pending = s.pending := by
  unfold openSpan
  (repeat' split) <;> simp

@[simp] theorem beginPhase_keeps (r : SampleRec) (s : State) :
    (beginPhase r s).lines = s.lines ∧ (beginPhase r s).clock = s.clock ∧ (beginPhase r s).start = s.start ∧
    (beginPhase r s).follow = s.follow ∧ (beginPhase r s).pair = s.pair ∧ (beginPhase r s).load = s.load ∧
    (beginPhase r s).budget = s.budget ∧ (beginPhase r s).stop = s.stop ∧ (beginPhase r s).recorder = s.recorder ∧
    (beginPhase r s).free = s.free ∧ (beginPhase r s).pending = s.pending := by
  dsimp only [beginPhase]
  (repeat' split) <;> simp

@[simp] theorem startPhaseOne_keeps (r : SampleRec) (s : State) :
    (startPhaseOne r s).lines = s.lines ∧ (startPhaseOne r s).clock = s.clock ∧ (startPhaseOne r s).start = s.start ∧
    (startPhaseOne r s).follow = s.follow ∧ (startPhaseOne r s).budget = s.budget ∧
    (startPhaseOne r s).stop = s.stop ∧ (startPhaseOne r s).free = s.free ∧ (startPhaseOne r s).pending = s.pending := by
  unfold startPhaseOne
  simp

@[simp] theorem makeCurrent_keeps (k : Nat) (s : State) :
    (makeCurrent k s).lines = s.lines ∧ (makeCurrent k s).clock = s.clock ∧ (makeCurrent k s).start = s.start ∧
    (makeCurrent k s).testRec = s.testRec ∧ (makeCurrent k s).follow = s.follow ∧
    (makeCurrent k s).travel = s.travel ∧ (makeCurrent k s).pair = s.pair ∧ (makeCurrent k s).load = s.load ∧
    (makeCurrent k s).ext = s.ext ∧ (makeCurrent k s).link = s.link ∧ (makeCurrent k s).budget = s.budget ∧
    (makeCurrent k s).stop = s.stop ∧ (makeCurrent k s).recorder = s.recorder ∧ (makeCurrent k s).free = s.free ∧
    (makeCurrent k s).pending = s.pending := by
  unfold makeCurrent
  simp

@[simp] theorem nextPhase_keeps (r : SampleRec) (s : State) :
    (nextPhase r s).lines = s.lines ∧ (nextPhase r s).clock = s.clock ∧ (nextPhase r s).start = s.start ∧
    (nextPhase r s).follow = s.follow ∧ (nextPhase r s).load = s.load ∧ (nextPhase r s).stop = s.stop ∧
    (nextPhase r s).free = s.free ∧ (nextPhase r s).pending = s.pending := by
  dsimp only [nextPhase]
  (repeat' split) <;> simp

@[simp] theorem returnStep_keeps (r : SampleRec) (s : State) :
    (returnStep r s).lines = s.lines ∧ (returnStep r s).clock = s.clock ∧ (returnStep r s).start = s.start ∧
    (returnStep r s).follow = s.follow ∧ (returnStep r s).travel = s.travel ∧ (returnStep r s).pair = s.pair ∧
    (returnStep r s).stop = s.stop ∧ (returnStep r s).free = s.free ∧ (returnStep r s).pending = s.pending := by
  unfold returnStep
  (repeat' split) <;> simp

@[simp] theorem enterReturning_keeps (r : SampleRec) (s : State) :
    (enterReturning r s).lines = s.lines ∧ (enterReturning r s).clock = s.clock ∧
    (enterReturning r s).start = s.start ∧ (enterReturning r s).follow = s.follow ∧
    (enterReturning r s).travel = s.travel ∧ (enterReturning r s).pair = s.pair ∧
    (enterReturning r s).stop = s.stop ∧ (enterReturning r s).free = s.free ∧
    (enterReturning r s).pending = s.pending := by
  unfold enterReturning
  simp

@[simp] theorem endingStep_keeps (r : SampleRec) (s : State) :
    (endingStep r s).lines = s.lines ∧ (endingStep r s).clock = s.clock ∧ (endingStep r s).start = s.start ∧
    (endingStep r s).follow = s.follow ∧ (endingStep r s).travel = s.travel ∧ (endingStep r s).pair = s.pair ∧
    (endingStep r s).stop = s.stop ∧ (endingStep r s).free = s.free ∧ (endingStep r s).pending = s.pending := by
  unfold endingStep
  (repeat' split) <;> simp

@[simp] theorem endOnSample_keeps (outcome : TestOutcome) (r : SampleRec) (s : State) :
    (endOnSample outcome r s).lines = s.lines ∧ (endOnSample outcome r s).clock = s.clock ∧
    (endOnSample outcome r s).start = s.start ∧ (endOnSample outcome r s).follow = s.follow ∧
    (endOnSample outcome r s).travel = s.travel ∧ (endOnSample outcome r s).pair = s.pair ∧
    (endOnSample outcome r s).stop = s.stop ∧ (endOnSample outcome r s).free = s.free ∧
    (endOnSample outcome r s).pending = s.pending := by
  dsimp only [endOnSample]
  (repeat' split) <;> simp

@[simp] theorem endPhase_keeps (r : SampleRec) (s : State) :
    (endPhase r s).lines = s.lines ∧ (endPhase r s).clock = s.clock ∧ (endPhase r s).start = s.start ∧
    (endPhase r s).follow = s.follow ∧ (endPhase r s).stop = s.stop ∧ (endPhase r s).free = s.free ∧
    (endPhase r s).pending = s.pending := by
  dsimp only [endPhase]
  (repeat' split) <;> simp

@[simp] theorem claimingSample_keeps (r : SampleRec) (s : State) :
    (claimingSample r s).lines = s.lines ∧ (claimingSample r s).clock = s.clock ∧
    (claimingSample r s).start = s.start ∧ (claimingSample r s).follow = s.follow ∧
    (claimingSample r s).budget = s.budget ∧ (claimingSample r s).stop = s.stop ∧
    (claimingSample r s).free = s.free ∧ (claimingSample r s).pending = s.pending := by
  unfold claimingSample
  (repeat' split) <;> simp

@[simp] theorem runningSample_keeps (r : SampleRec) (searchEnded : Bool) (s : State) :
    (runningSample r searchEnded s).lines = s.lines ∧ (runningSample r searchEnded s).clock = s.clock ∧
    (runningSample r searchEnded s).start = s.start ∧ (runningSample r searchEnded s).follow = s.follow ∧
    (runningSample r searchEnded s).stop = s.stop ∧ (runningSample r searchEnded s).free = s.free ∧
    (runningSample r searchEnded s).pending = s.pending := by
  unfold runningSample
  (repeat' split) <;> simp

@[simp] theorem resume_keeps (r : SampleRec) (s : State) :
    (resume r s).lines = s.lines ∧ (resume r s).clock = s.clock ∧ (resume r s).start = s.start ∧
    (resume r s).follow = s.follow ∧ (resume r s).load = s.load ∧ (resume r s).budget = s.budget ∧
    (resume r s).stop = s.stop ∧ (resume r s).free = s.free ∧ (resume r s).pending = s.pending := by
  dsimp only [resume]
  (repeat' split) <;> simp

@[simp] theorem heldSample_keeps (r : SampleRec) (s : State) :
    (heldSample r s).lines = s.lines ∧ (heldSample r s).clock = s.clock ∧ (heldSample r s).start = s.start ∧
    (heldSample r s).follow = s.follow ∧ (heldSample r s).stop = s.stop ∧ (heldSample r s).free = s.free ∧
    (heldSample r s).pending = s.pending := by
  unfold heldSample
  (repeat' split) <;> simp

@[simp] theorem countSample_keeps (s : State) :
    (countSample s).lines = s.lines ∧ (countSample s).clock = s.clock ∧ (countSample s).start = s.start ∧
    (countSample s).testRec = s.testRec ∧ (countSample s).follow = s.follow ∧ (countSample s).travel = s.travel ∧
    (countSample s).pair = s.pair ∧ (countSample s).load = s.load ∧ (countSample s).ext = s.ext ∧
    (countSample s).link = s.link ∧ (countSample s).budget = s.budget ∧ (countSample s).stop = s.stop ∧
    (countSample s).recorder = s.recorder ∧ (countSample s).free = s.free ∧ (countSample s).pending = s.pending := by
  unfold countSample
  (repeat' split) <;> simp

@[simp] theorem handleSample_keeps (r : SampleRec) (searchEnded : Bool) (s : State) :
    (handleSample r searchEnded s).lines = s.lines ∧ (handleSample r searchEnded s).clock = s.clock ∧
    (handleSample r searchEnded s).start = s.start ∧ (handleSample r searchEnded s).follow = s.follow ∧
    (handleSample r searchEnded s).stop = s.stop ∧ (handleSample r searchEnded s).free = s.free ∧
    (handleSample r searchEnded s).pending = s.pending := by
  dsimp only [handleSample]
  (repeat' split) <;> simp

@[simp] theorem holdExpired_keeps (s : State) :
    (holdExpired s).lines = s.lines ∧ (holdExpired s).clock = s.clock ∧ (holdExpired s).start = s.start ∧
    (holdExpired s).travel = s.travel ∧ (holdExpired s).pair = s.pair ∧ (holdExpired s).free = s.free ∧
    (holdExpired s).pending = s.pending := by
  unfold holdExpired
  (repeat' split) <;> simp

@[simp] theorem budgetExpired_keeps (s : State) :
    (budgetExpired s).lines = s.lines ∧ (budgetExpired s).clock = s.clock ∧ (budgetExpired s).start = s.start ∧
    (budgetExpired s).travel = s.travel ∧ (budgetExpired s).pair = s.pair ∧ (budgetExpired s).free = s.free ∧
    (budgetExpired s).pending = s.pending := by
  unfold budgetExpired
  (repeat' split) <;> simp

@[simp] theorem endingExpired_keeps (s : State) :
    (endingExpired s).lines = s.lines ∧ (endingExpired s).clock = s.clock ∧ (endingExpired s).start = s.start ∧
    (endingExpired s).travel = s.travel ∧ (endingExpired s).pair = s.pair ∧ (endingExpired s).free = s.free ∧
    (endingExpired s).pending = s.pending := by
  unfold endingExpired
  (repeat' split) <;> simp

@[simp] theorem gripsQualified_keeps (s : State) :
    (gripsQualified s).lines = s.lines ∧ (gripsQualified s).clock = s.clock ∧ (gripsQualified s).start = s.start ∧
    (gripsQualified s).testRec = s.testRec ∧ (gripsQualified s).follow = s.follow ∧
    (gripsQualified s).travel = s.travel ∧ (gripsQualified s).pair = s.pair ∧ (gripsQualified s).ext = s.ext ∧
    (gripsQualified s).link = s.link ∧ (gripsQualified s).budget = s.budget ∧ (gripsQualified s).stop = s.stop ∧
    (gripsQualified s).recorder = s.recorder ∧ (gripsQualified s).free = s.free ∧
    (gripsQualified s).pending = s.pending := by
  unfold gripsQualified
  (repeat' split) <;> simp

@[simp] theorem computeSkew_keeps (r : SampleRec) (s : State) :
    (computeSkew r s).lines = s.lines ∧ (computeSkew r s).clock = s.clock ∧ (computeSkew r s).start = s.start ∧
    (computeSkew r s).seq = s.seq ∧ (computeSkew r s).testRec = s.testRec ∧ (computeSkew r s).follow = s.follow ∧
    (computeSkew r s).travel = s.travel ∧ (computeSkew r s).load = s.load ∧ (computeSkew r s).ext = s.ext ∧
    (computeSkew r s).link = s.link ∧ (computeSkew r s).budget = s.budget ∧ (computeSkew r s).stop = s.stop ∧
    (computeSkew r s).recorder = s.recorder ∧ (computeSkew r s).free = s.free ∧ (computeSkew r s).pending = s.pending := by
  dsimp only [computeSkew]
  (repeat' split) <;> simp

@[simp] theorem judgeAlarm_keeps (s : State) :
    (judgeAlarm s).lines = s.lines ∧ (judgeAlarm s).clock = s.clock ∧ (judgeAlarm s).start = s.start ∧
    (judgeAlarm s).seq = s.seq ∧ (judgeAlarm s).testRec = s.testRec ∧ (judgeAlarm s).follow = s.follow ∧
    (judgeAlarm s).travel = s.travel ∧ (judgeAlarm s).load = s.load ∧ (judgeAlarm s).ext = s.ext ∧
    (judgeAlarm s).budget = s.budget ∧ (judgeAlarm s).stop = s.stop ∧ (judgeAlarm s).recorder = s.recorder ∧
    (judgeAlarm s).free = s.free ∧ (judgeAlarm s).pending = s.pending := by
  unfold judgeAlarm
  (repeat' split) <;> simp

@[simp] theorem countRunning_keeps (s : State) :
    (countRunning s).lines = s.lines ∧ (countRunning s).clock = s.clock ∧ (countRunning s).start = s.start ∧
    (countRunning s).seq = s.seq ∧ (countRunning s).testRec = s.testRec ∧ (countRunning s).follow = s.follow ∧
    (countRunning s).travel = s.travel ∧ (countRunning s).load = s.load ∧ (countRunning s).ext = s.ext ∧
    (countRunning s).link = s.link ∧ (countRunning s).budget = s.budget ∧ (countRunning s).stop = s.stop ∧
    (countRunning s).recorder = s.recorder ∧ (countRunning s).free = s.free ∧ (countRunning s).pending = s.pending := by
  unfold countRunning
  (repeat' split) <;> simp

@[simp] theorem pairSample_keeps (r : SampleRec) (s : State) :
    (pairSample r s).lines = s.lines ∧ (pairSample r s).clock = s.clock ∧ (pairSample r s).start = s.start ∧
    (pairSample r s).seq = s.seq ∧ (pairSample r s).testRec = s.testRec ∧ (pairSample r s).follow = s.follow ∧
    (pairSample r s).travel = s.travel ∧ (pairSample r s).load = s.load ∧ (pairSample r s).ext = s.ext ∧
    (pairSample r s).budget = s.budget ∧ (pairSample r s).stop = s.stop ∧ (pairSample r s).recorder = s.recorder ∧
    (pairSample r s).free = s.free ∧ (pairSample r s).pending = s.pending := by
  unfold pairSample
  (repeat' split) <;> simp

@[simp] theorem takeLevel_keeps (m : Level) (s : State) :
    (takeLevel m s).lines = s.lines ∧ (takeLevel m s).clock = s.clock ∧ (takeLevel m s).start = s.start ∧
    (takeLevel m s).seq = s.seq ∧ (takeLevel m s).testRec = s.testRec ∧ (takeLevel m s).follow = s.follow ∧
    (takeLevel m s).travel = s.travel ∧ (takeLevel m s).load = s.load ∧ (takeLevel m s).ext = s.ext ∧
    (takeLevel m s).link = s.link ∧ (takeLevel m s).budget = s.budget ∧ (takeLevel m s).stop = s.stop ∧
    (takeLevel m s).recorder = s.recorder ∧ (takeLevel m s).free = s.free ∧ (takeLevel m s).pending = s.pending := by
  unfold takeLevel
  simp

@[simp] theorem updateShare_keeps (m : Level) (s : State) :
    (updateShare m s).lines = s.lines ∧ (updateShare m s).clock = s.clock ∧ (updateShare m s).start = s.start ∧
    (updateShare m s).seq = s.seq ∧ (updateShare m s).testRec = s.testRec ∧ (updateShare m s).travel = s.travel ∧
    (updateShare m s).pair = s.pair ∧ (updateShare m s).load = s.load ∧ (updateShare m s).ext = s.ext ∧
    (updateShare m s).stop = s.stop ∧ (updateShare m s).recorder = s.recorder ∧ (updateShare m s).free = s.free ∧
    (updateShare m s).pending = s.pending := by
  unfold updateShare
  (repeat' split) <;> simp

@[simp] theorem followTo_keeps (st : SeqState) (s : State) :
    (followTo st s).lines = s.lines ∧ (followTo st s).clock = s.clock ∧ (followTo st s).start = s.start ∧
    (followTo st s).seq = s.seq ∧ (followTo st s).testRec = s.testRec ∧ (followTo st s).travel = s.travel ∧
    (followTo st s).pair = s.pair ∧ (followTo st s).load = s.load ∧ (followTo st s).ext = s.ext ∧
    (followTo st s).link = s.link ∧ (followTo st s).budget = s.budget ∧ (followTo st s).stop = s.stop ∧
    (followTo st s).recorder = s.recorder ∧ (followTo st s).free = s.free ∧ (followTo st s).pending = s.pending := by
  unfold followTo
  simp

@[simp] theorem followLead_keeps (m : Level) (s : State) :
    (followLead m s).lines = s.lines ∧ (followLead m s).clock = s.clock ∧ (followLead m s).start = s.start ∧
    (followLead m s).seq = s.seq ∧ (followLead m s).testRec = s.testRec ∧ (followLead m s).pair = s.pair ∧
    (followLead m s).load = s.load ∧ (followLead m s).ext = s.ext ∧ (followLead m s).stop = s.stop ∧
    (followLead m s).recorder = s.recorder ∧ (followLead m s).free = s.free ∧ (followLead m s).pending = s.pending := by
  unfold followLead
  (repeat' split) <;> simp

@[simp] theorem followLost_keeps (s : State) :
    (followLost s).lines = s.lines ∧ (followLost s).clock = s.clock ∧ (followLost s).start = s.start ∧
    (followLost s).seq = s.seq ∧ (followLost s).testRec = s.testRec ∧ (followLost s).travel = s.travel ∧
    (followLost s).pair = s.pair ∧ (followLost s).load = s.load ∧ (followLost s).ext = s.ext ∧
    (followLost s).link = s.link ∧ (followLost s).budget = s.budget ∧ (followLost s).stop = s.stop ∧
    (followLost s).recorder = s.recorder ∧ (followLost s).free = s.free ∧ (followLost s).pending = s.pending := by
  unfold followLost
  simp

@[simp] theorem followActive_keeps (s : State) :
    (followActive s).lines = s.lines ∧ (followActive s).clock = s.clock ∧ (followActive s).start = s.start ∧
    (followActive s).seq = s.seq ∧ (followActive s).testRec = s.testRec ∧ (followActive s).pair = s.pair ∧
    (followActive s).load = s.load ∧ (followActive s).ext = s.ext ∧ (followActive s).stop = s.stop ∧
    (followActive s).recorder = s.recorder ∧ (followActive s).free = s.free ∧ (followActive s).pending = s.pending := by
  unfold followActive
  (repeat' split) <;> simp

@[simp] theorem followSample_keeps (s : State) :
    (followSample s).lines = s.lines ∧ (followSample s).clock = s.clock ∧ (followSample s).start = s.start ∧
    (followSample s).seq = s.seq ∧ (followSample s).testRec = s.testRec ∧ (followSample s).pair = s.pair ∧
    (followSample s).load = s.load ∧ (followSample s).ext = s.ext ∧ (followSample s).stop = s.stop ∧
    (followSample s).recorder = s.recorder ∧ (followSample s).free = s.free ∧ (followSample s).pending = s.pending := by
  unfold followSample
  (repeat' split) <;> simp

@[simp] theorem partnerLost_keeps (s : State) :
    (partnerLost s).lines = s.lines ∧ (partnerLost s).clock = s.clock ∧ (partnerLost s).start = s.start ∧
    (partnerLost s).seq = s.seq ∧ (partnerLost s).testRec = s.testRec ∧ (partnerLost s).travel = s.travel ∧
    (partnerLost s).pair = s.pair ∧ (partnerLost s).load = s.load ∧ (partnerLost s).ext = s.ext ∧
    (partnerLost s).link = s.link ∧ (partnerLost s).budget = s.budget ∧ (partnerLost s).stop = s.stop ∧
    (partnerLost s).recorder = s.recorder ∧ (partnerLost s).free = s.free ∧ (partnerLost s).pending = s.pending := by
  unfold partnerLost
  (repeat' split) <;> simp

@[simp] theorem followLossExpired_keeps (s : State) :
    (followLossExpired s).lines = s.lines ∧ (followLossExpired s).clock = s.clock ∧
    (followLossExpired s).start = s.start ∧ (followLossExpired s).seq = s.seq ∧
    (followLossExpired s).testRec = s.testRec ∧ (followLossExpired s).pair = s.pair ∧
    (followLossExpired s).load = s.load ∧ (followLossExpired s).ext = s.ext ∧ (followLossExpired s).stop = s.stop ∧
    (followLossExpired s).recorder = s.recorder ∧ (followLossExpired s).free = s.free ∧
    (followLossExpired s).pending = s.pending := by
  unfold followLossExpired
  (repeat' split) <;> simp

@[simp] theorem rangeDown_keeps (s : State) :
    (rangeDown s).lines = s.lines ∧ (rangeDown s).clock = s.clock ∧ (rangeDown s).start = s.start ∧
    (rangeDown s).seq = s.seq ∧ (rangeDown s).testRec = s.testRec ∧ (rangeDown s).follow = s.follow ∧
    (rangeDown s).travel = s.travel ∧ (rangeDown s).pair = s.pair ∧ (rangeDown s).ext = s.ext ∧
    (rangeDown s).link = s.link ∧ (rangeDown s).budget = s.budget ∧ (rangeDown s).stop = s.stop ∧
    (rangeDown s).recorder = s.recorder ∧ (rangeDown s).free = s.free ∧ (rangeDown s).pending = s.pending := by
  unfold rangeDown
  (repeat' split) <;> simp

@[simp] theorem rangeSettled_keeps (s : State) :
    (rangeSettled s).lines = s.lines ∧ (rangeSettled s).clock = s.clock ∧ (rangeSettled s).start = s.start ∧
    (rangeSettled s).seq = s.seq ∧ (rangeSettled s).testRec = s.testRec ∧ (rangeSettled s).follow = s.follow ∧
    (rangeSettled s).travel = s.travel ∧ (rangeSettled s).pair = s.pair ∧ (rangeSettled s).ext = s.ext ∧
    (rangeSettled s).link = s.link ∧ (rangeSettled s).budget = s.budget ∧ (rangeSettled s).stop = s.stop ∧
    (rangeSettled s).recorder = s.recorder ∧ (rangeSettled s).free = s.free ∧ (rangeSettled s).pending = s.pending := by
  unfold rangeSettled
  (repeat' split) <;> simp

@[simp] theorem tareSucceeded_keeps (offset : Int) (s : State) :
    (tareSucceeded offset s).lines = s.lines ∧ (tareSucceeded offset s).clock = s.clock ∧
    (tareSucceeded offset s).start = s.start ∧ (tareSucceeded offset s).travel = s.travel ∧
    (tareSucceeded offset s).pair = s.pair ∧ (tareSucceeded offset s).free = s.free ∧
    (tareSucceeded offset s).pending = s.pending := by
  dsimp only [tareSucceeded]
  (repeat' split) <;> simp

@[simp] theorem takeGripsLow_keeps (s : State) :
    (takeGripsLow s).lines = s.lines ∧ (takeGripsLow s).clock = s.clock ∧ (takeGripsLow s).start = s.start ∧
    (takeGripsLow s).testRec = s.testRec ∧ (takeGripsLow s).follow = s.follow ∧ (takeGripsLow s).travel = s.travel ∧
    (takeGripsLow s).pair = s.pair ∧ (takeGripsLow s).ext = s.ext ∧ (takeGripsLow s).link = s.link ∧
    (takeGripsLow s).budget = s.budget ∧ (takeGripsLow s).stop = s.stop ∧ (takeGripsLow s).recorder = s.recorder ∧
    (takeGripsLow s).free = s.free ∧ (takeGripsLow s).pending = s.pending := by
  unfold takeGripsLow
  (repeat' split) <;> simp

@[simp] theorem takeGripsUnreported_keeps (s : State) :
    (takeGripsUnreported s).lines = s.lines ∧ (takeGripsUnreported s).clock = s.clock ∧
    (takeGripsUnreported s).start = s.start ∧ (takeGripsUnreported s).testRec = s.testRec ∧
    (takeGripsUnreported s).follow = s.follow ∧ (takeGripsUnreported s).travel = s.travel ∧
    (takeGripsUnreported s).pair = s.pair ∧ (takeGripsUnreported s).ext = s.ext ∧
    (takeGripsUnreported s).link = s.link ∧ (takeGripsUnreported s).budget = s.budget ∧
    (takeGripsUnreported s).stop = s.stop ∧ (takeGripsUnreported s).recorder = s.recorder ∧
    (takeGripsUnreported s).free = s.free ∧ (takeGripsUnreported s).pending = s.pending := by
  unfold takeGripsUnreported
  (repeat' split) <;> simp

@[simp] theorem judgeTare_keeps (t : Tare) (s : State) :
    (judgeTare t s).lines = s.lines ∧ (judgeTare t s).clock = s.clock ∧ (judgeTare t s).start = s.start ∧
    (judgeTare t s).travel = s.travel ∧ (judgeTare t s).pair = s.pair ∧ (judgeTare t s).free = s.free ∧
    (judgeTare t s).pending = s.pending := by
  unfold judgeTare
  (repeat' split) <;> simp

@[simp] theorem tareJudged_keeps (s : State) :
    (tareJudged s).lines = s.lines ∧ (tareJudged s).clock = s.clock ∧ (tareJudged s).start = s.start ∧
    (tareJudged s).travel = s.travel ∧ (tareJudged s).pair = s.pair ∧ (tareJudged s).free = s.free ∧
    (tareJudged s).pending = s.pending := by
  unfold tareJudged
  (repeat' split) <;> simp

@[simp] theorem detectorNotices_keeps (r : SampleRec) (s : State) :
    (detectorNotices r s).lines = s.lines ∧ (detectorNotices r s).clock = s.clock ∧
    (detectorNotices r s).start = s.start ∧ (detectorNotices r s).seq = s.seq ∧
    (detectorNotices r s).testRec = s.testRec ∧ (detectorNotices r s).follow = s.follow ∧
    (detectorNotices r s).travel = s.travel ∧ (detectorNotices r s).pair = s.pair ∧
    (detectorNotices r s).load = s.load ∧ (detectorNotices r s).ext = s.ext ∧
    (detectorNotices r s).budget = s.budget ∧ (detectorNotices r s).stop = s.stop ∧
    (detectorNotices r s).recorder = s.recorder ∧ (detectorNotices r s).free = s.free ∧
    (detectorNotices r s).pending = s.pending := by
  dsimp only [detectorNotices]
  (repeat' split) <;> simp

@[simp] theorem completeLoad_keeps (v : LoadView) (s : State) :
    (completeLoad v s).lines = s.lines ∧ (completeLoad v s).clock = s.clock ∧ (completeLoad v s).start = s.start ∧
    (completeLoad v s).seq = s.seq ∧ (completeLoad v s).follow = s.follow ∧ (completeLoad v s).travel = s.travel ∧
    (completeLoad v s).pair = s.pair ∧ (completeLoad v s).ext = s.ext ∧ (completeLoad v s).budget = s.budget ∧
    (completeLoad v s).stop = s.stop ∧ (completeLoad v s).recorder = s.recorder ∧ (completeLoad v s).free = s.free ∧
    (completeLoad v s).pending = s.pending := by
  dsimp only [completeLoad]
  (repeat' split) <;> simp

end Sys2Proof.Laws
end

