-- ==== Sys2Proof/Laws/KeepsEvents.lean ====
section
/-! SUPPORT. The fields of the state that each operation of the samples, the link, start-up, received frames and the
tick leaves as they are. -/

namespace Sys2Proof.Laws

open Sys2Proof.Machine

@[simp] theorem takeMeasured_keeps (r : SampleRec) (s : State) :
    (takeMeasured r s).lines = s.lines ∧ (takeMeasured r s).clock = s.clock ∧ (takeMeasured r s).start = s.start ∧
    (takeMeasured r s).seq = s.seq ∧ (takeMeasured r s).testRec = s.testRec ∧ (takeMeasured r s).follow = s.follow ∧
    (takeMeasured r s).travel = s.travel ∧ (takeMeasured r s).pair = s.pair ∧ (takeMeasured r s).load = s.load ∧
    (takeMeasured r s).link = s.link ∧ (takeMeasured r s).budget = s.budget ∧ (takeMeasured r s).stop = s.stop ∧
    (takeMeasured r s).recorder = s.recorder ∧ (takeMeasured r s).free = s.free ∧
    (takeMeasured r s).pending = s.pending := by
  unfold takeMeasured
  (repeat' split) <;> simp

@[simp] theorem handleBoth_keeps (extFirst : Bool) (v : ExtView) (r : SampleRec) (searchEnded : Bool) (s : State) :
    (handleBoth extFirst v r searchEnded s).lines = s.lines ∧
    (handleBoth extFirst v r searchEnded s).clock = s.clock ∧
    (handleBoth extFirst v r searchEnded s).start = s.start ∧
    (handleBoth extFirst v r searchEnded s).follow = s.follow ∧
    (handleBoth extFirst v r searchEnded s).stop = s.stop ∧ (handleBoth extFirst v r searchEnded s).free = s.free ∧
    (handleBoth extFirst v r searchEnded s).pending = s.pending := by
  unfold handleBoth
  (repeat' split) <;> simp

@[simp] theorem deliverSample_keeps (v : ExtView) (r : SampleRec) (searchEnded : Bool) (s : State) :
    (deliverSample v r searchEnded s).lines = s.lines ∧ (deliverSample v r searchEnded s).clock = s.clock ∧
    (deliverSample v r searchEnded s).start = s.start ∧ (deliverSample v r searchEnded s).follow = s.follow ∧
    (deliverSample v r searchEnded s).stop = s.stop ∧ (deliverSample v r searchEnded s).pending = s.pending := by
  dsimp only [deliverSample, State.draw]
  (repeat' split) <;> simp

/-- R154: an order is drawn, and nothing but the count of open choices changes. -/
theorem drawPlace_draws (c : FaultCause) (ds : List FaultCause) (s : State) :
    ∃ n, (drawPlace c ds s).2 = s.setFree n := by
  induction ds generalizing s with
  | nil => exact ⟨s.free, rfl⟩
  | cons d ds ih =>
    unfold drawPlace
    split
    · exact ⟨_, rfl⟩
    · obtain ⟨n, hn⟩ := ih s.draw.2
      exact ⟨n, hn⟩

theorem drawOrder_draws (cs : List FaultCause) (s : State) : ∃ n, (drawOrder cs s).2 = s.setFree n := by
  induction cs generalizing s with
  | nil => exact ⟨s.free, rfl⟩
  | cons c cs ih =>
    obtain ⟨n, hn⟩ := ih s
    obtain ⟨m, hm⟩ := drawPlace_draws c (drawOrder cs s).1 (drawOrder cs s).2
    exact ⟨m, by rw [drawOrder, hm, hn]; rfl⟩

/-- R154: the order drawn holds the same causes. -/
theorem drawPlace_perm (c : FaultCause) (ds : List FaultCause) (s : State) : (drawPlace c ds s).1.Perm (c :: ds) := by
  induction ds generalizing s with
  | nil => exact List.Perm.refl _
  | cons d ds ih =>
    unfold drawPlace
    split
    · exact List.Perm.refl _
    · exact ((ih s.draw.2).cons d).trans (List.Perm.swap c d ds)

theorem drawOrder_perm (cs : List FaultCause) (s : State) : (drawOrder cs s).1.Perm cs := by
  induction cs generalizing s with
  | nil => exact List.Perm.refl _
  | cons c cs ih => exact (drawPlace_perm c _ _).trans ((ih s).cons c)

@[simp] theorem reportFound_keeps (cs : List FaultCause) (s : State) :
    (reportFound cs s).lines = s.lines ∧ (reportFound cs s).clock = s.clock ∧ (reportFound cs s).start = s.start ∧
    (reportFound cs s).travel = s.travel ∧ (reportFound cs s).pair = s.pair ∧
    (reportFound cs s).pending = s.pending := by
  have h : ∀ (ds : List FaultCause) (t : State),
      (ds.foldl (fun t c => report c t) t).lines = t.lines ∧ (ds.foldl (fun t c => report c t) t).clock = t.clock ∧
      (ds.foldl (fun t c => report c t) t).start = t.start ∧ (ds.foldl (fun t c => report c t) t).travel = t.travel ∧
      (ds.foldl (fun t c => report c t) t).pair = t.pair ∧
      (ds.foldl (fun t c => report c t) t).pending = t.pending := by
    intro ds
    induction ds with
    | nil => simp
    | cons d ds ih => intro t; simp [ih]
  obtain ⟨n, hn⟩ := drawOrder_draws cs s
  unfold reportFound
  simp [hn, h]

@[simp] theorem rememberSkew_keeps (s : State) :
    (rememberSkew s).lines = s.lines ∧ (rememberSkew s).clock = s.clock ∧ (rememberSkew s).start = s.start ∧
    (rememberSkew s).seq = s.seq ∧ (rememberSkew s).testRec = s.testRec ∧ (rememberSkew s).follow = s.follow ∧
    (rememberSkew s).travel = s.travel ∧ (rememberSkew s).load = s.load ∧ (rememberSkew s).ext = s.ext ∧
    (rememberSkew s).link = s.link ∧ (rememberSkew s).budget = s.budget ∧ (rememberSkew s).stop = s.stop ∧
    (rememberSkew s).recorder = s.recorder ∧ (rememberSkew s).free = s.free ∧ (rememberSkew s).pending = s.pending := by
  unfold rememberSkew
  (repeat' split) <;> simp

/-- R35: what a report and the reports of faults leave, the report on a sample leaves. -/
theorem claimChecked_proj {α : Type} (p : State → α) (act : State → State) (s : State) (ha : p (act s) = p s)
    (hr : ∀ cs t, p (reportFound cs t) = p t) (hm : ∀ t, p (rememberSkew t) = p t) : p (claimChecked act s) = p s := by
  dsimp only [claimChecked]
  split
  · rw [hr, hm, ha]
  · exact ha

@[simp] theorem claimChecked_tareJudged_keeps (s : State) :
    (claimChecked tareJudged s).lines = s.lines ∧ (claimChecked tareJudged s).clock = s.clock ∧
    (claimChecked tareJudged s).start = s.start ∧ (claimChecked tareJudged s).travel = s.travel ∧
    (claimChecked tareJudged s).pending = s.pending := by
  refine ⟨?_, ?_, ?_, ?_, ?_⟩ <;> refine claimChecked_proj _ _ _ ?_ ?_ ?_ <;> intros <;> simp

@[simp] theorem claimChecked_reportMeasuring_keeps (s : State) :
    (claimChecked reportMeasuring s).lines = s.lines ∧ (claimChecked reportMeasuring s).clock = s.clock ∧
    (claimChecked reportMeasuring s).start = s.start ∧ (claimChecked reportMeasuring s).travel = s.travel ∧
    (claimChecked reportMeasuring s).pending = s.pending := by
  refine ⟨?_, ?_, ?_, ?_, ?_⟩ <;> refine claimChecked_proj _ _ _ ?_ ?_ ?_ <;> intros <;> simp

@[simp] theorem takeReport_keeps (failed : Bool) (s : State) (c : FaultCause) :
    (takeReport failed s c).lines = s.lines ∧ (takeReport failed s c).clock = s.clock ∧
    (takeReport failed s c).start = s.start ∧ (takeReport failed s c).travel = s.travel ∧
    (takeReport failed s c).pending = s.pending := by
  unfold takeReport
  (repeat' split) <;> simp

@[simp] theorem reportAll_keeps (failed : Bool) (cs : List FaultCause) (s : State) :
    (reportAll failed cs s).lines = s.lines ∧ (reportAll failed cs s).clock = s.clock ∧
    (reportAll failed cs s).start = s.start ∧ (reportAll failed cs s).travel = s.travel ∧
    (reportAll failed cs s).pending = s.pending := by
  unfold reportAll
  induction cs generalizing s with
  | nil => simp
  | cons c cs ih => simp [ih]

@[simp] theorem checkFirst_keeps (checked : Bool) (r : SampleRec) (s : State) :
    (checkFirst checked r s).lines = s.lines ∧ (checkFirst checked r s).clock = s.clock ∧
    (checkFirst checked r s).start = s.start ∧ (checkFirst checked r s).travel = s.travel ∧
    (checkFirst checked r s).pending = s.pending := by
  unfold checkFirst
  split <;> simp

/-- R35, R62, R63: a sample on which nothing is found before the handling is handled as it is. -/
theorem checkFirst_of_none (checked : Bool) (r : SampleRec) (s : State) (h : firstFaults checked s r = []) :
    checkFirst checked r s = s := by
  unfold checkFirst
  rw [h]
  rfl

theorem drawCheck_draws (s : State) : ∃ n, (drawCheck s).2 = s.setFree n := by
  unfold drawCheck
  split
  · exact ⟨_, rfl⟩
  · exact ⟨s.free, rfl⟩

@[simp] theorem testSample_keeps (checked : Bool) (v : ExtView) (r : SampleRec) (searchEnded : Bool) (s : State) :
    (testSample checked v r searchEnded s).lines = s.lines ∧
    (testSample checked v r searchEnded s).clock = s.clock ∧
    (testSample checked v r searchEnded s).start = s.start ∧
    (testSample checked v r searchEnded s).pending = s.pending := by
  unfold testSample
  simp

/-- R154: drawing the order of a sample's reports changes nothing but the count of open choices. -/
theorem sampleReports_draws (checked overload : Bool) (s : State) (q : Request) (r : SampleRec) :
    ∃ n, (sampleReports checked overload s q r).2 = s.setFree n := by
  obtain ⟨n, hn⟩ := drawOrder_draws (sampleFaults checked overload s q r) s
  dsimp only [sampleReports]
  split
  · obtain ⟨m, hm⟩ := drawPlace_draws .tareUnstable ((drawOrder (sampleFaults checked overload s q r) s).1
      ++ overloadFault overload) (drawOrder (sampleFaults checked overload s q r) s).2
    exact ⟨m, by rw [hm, hn]; rfl⟩
  · exact ⟨n, hn⟩

/-- R35, R84, R85, R154: the reports of a sample are its faults, OVERLOAD and the judgment of the tare, where they are
due. -/
theorem sampleReports_perm (checked overload : Bool) (s : State) (q : Request) (r : SampleRec) :
    (sampleReports checked overload s q r).1.Perm
      ((if judgmentDue s
            && (overload || !(sampleFaults checked overload s q r).isEmpty || !(entryFaults s).isEmpty) then
          [.tareUnstable] else [])
        ++ (sampleFaults checked overload s q r ++ overloadFault overload)) := by
  have h := (drawOrder_perm (sampleFaults checked overload s q r) s).append_right
    (overloadFault overload)
  have he : ((drawOrder (sampleFaults checked overload s q r) s).1 ++ overloadFault overload).isEmpty
      = !(overload || !(sampleFaults checked overload s q r).isEmpty) := by
    rw [Bool.eq_iff_iff, List.isEmpty_iff, ← List.length_eq_zero_iff, h.length_eq]
    cases overload <;> simp [overloadFault]
  dsimp only [sampleReports]
  rw [he, Bool.not_not]
  split
  · exact (drawPlace_perm _ _ _).trans (h.cons _)
  · exact h

/-- R99: the report of MEASURING among the other reports of a sample leaves travel unit, lines and queue. -/
@[simp] theorem reportSettled_keeps (failed : Bool) (cs : List FaultCause) (s : State) :
    (reportSettled failed cs s).lines = s.lines ∧ (reportSettled failed cs s).clock = s.clock ∧
    (reportSettled failed cs s).start = s.start ∧ (reportSettled failed cs s).travel = s.travel ∧
    (reportSettled failed cs s).pending = s.pending := by
  unfold reportSettled
  (repeat' split) <;> simp [State.draw]

@[simp] theorem reportEarly_keeps (failed faulty : Bool) (cs : List FaultCause) (s : State) :
    (reportEarly failed faulty cs s).lines = s.lines ∧ (reportEarly failed faulty cs s).clock = s.clock ∧
    (reportEarly failed faulty cs s).start = s.start ∧ (reportEarly failed faulty cs s).travel = s.travel ∧
    (reportEarly failed faulty cs s).pending = s.pending := by
  unfold reportEarly
  split <;> simp

/-- R99: a sample on which no settling is complete, or that has no fault, only takes its reports. -/
theorem reportEarly_of_not_due (failed faulty : Bool) (cs : List FaultCause) (s : State)
    (h : (faulty && settlingDue s) = false) : reportEarly failed faulty cs s = reportAll failed cs s := by
  unfold reportEarly
  rw [h]
  rfl

@[simp] theorem moveSample_keeps (checked overload : Bool) (r : SampleRec) (s : State) :
    (moveSample checked overload r s).lines = s.lines ∧ (moveSample checked overload r s).clock = s.clock ∧
    (moveSample checked overload r s).start = s.start ∧
    (moveSample checked overload r s).pending = s.pending := by
  obtain ⟨n, hn⟩ := sampleReports_draws checked overload s (demandRequest s) r
  dsimp only [moveSample]
  simp [hn]

@[simp] theorem handSample_keeps (checked : Bool) (v : ExtView) (r : SampleRec) (searchEnded : Bool) (s : State) :
    (handSample checked v r searchEnded s).lines = s.lines ∧
    (handSample checked v r searchEnded s).clock = s.clock ∧
    (handSample checked v r searchEnded s).start = s.start ∧
    (handSample checked v r searchEnded s).pending = s.pending := by
  unfold handSample
  (repeat' split) <;> simp

@[simp] theorem completeSample_keeps (reading : Int) (strain : Option Int) (s : State) :
    (completeSample reading strain s).lines = s.lines ∧ (completeSample reading strain s).clock = s.clock ∧
    (completeSample reading strain s).start = s.start ∧ (completeSample reading strain s).pending = s.pending := by
  dsimp only [completeSample]
  obtain ⟨n, hn⟩ := drawCheck_draws (pairSample (loadView reading strain s).record
    (offerSample (loadView reading strain s).record (takeMeasured (loadView reading strain s).record
      (completeLoad (loadView reading strain s) s))))
  simp [hn]

@[simp] theorem loadConversionEnd_keeps (reading : Int) (s : State) :
    (loadConversionEnd reading s).lines = s.lines ∧ (loadConversionEnd reading s).clock = s.clock ∧
    (loadConversionEnd reading s).start = s.start ∧ (loadConversionEnd reading s).pending = s.pending := by
  unfold loadConversionEnd
  (repeat' split) <;> simp

@[simp] theorem countSettling_keeps (reading : Int) (s : State) :
    (countSettling reading s).lines = s.lines ∧ (countSettling reading s).clock = s.clock ∧
    (countSettling reading s).start = s.start ∧ (countSettling reading s).seq = s.seq ∧
    (countSettling reading s).testRec = s.testRec ∧ (countSettling reading s).follow = s.follow ∧
    (countSettling reading s).travel = s.travel ∧ (countSettling reading s).pair = s.pair ∧
    (countSettling reading s).load = s.load ∧ (countSettling reading s).link = s.link ∧
    (countSettling reading s).budget = s.budget ∧ (countSettling reading s).stop = s.stop ∧
    (countSettling reading s).recorder = s.recorder ∧ (countSettling reading s).free = s.free ∧
    (countSettling reading s).pending = s.pending := by
  unfold countSettling
  (repeat' split) <;> simp

@[simp] theorem strainConversionEnd_keeps (reading : Int) (s : State) :
    (strainConversionEnd reading s).lines = s.lines ∧ (strainConversionEnd reading s).clock = s.clock ∧
    (strainConversionEnd reading s).start = s.start ∧ (strainConversionEnd reading s).pending = s.pending := by
  unfold strainConversionEnd
  (repeat' split) <;> simp

@[simp] theorem startBitSensed_keeps (s : State) :
    (startBitSensed s).lines = s.lines ∧ (startBitSensed s).clock = s.clock ∧ (startBitSensed s).start = s.start ∧
    (startBitSensed s).seq = s.seq ∧ (startBitSensed s).testRec = s.testRec ∧ (startBitSensed s).follow = s.follow ∧
    (startBitSensed s).travel = s.travel ∧ (startBitSensed s).pair = s.pair ∧ (startBitSensed s).load = s.load ∧
    (startBitSensed s).ext = s.ext ∧ (startBitSensed s).budget = s.budget ∧ (startBitSensed s).stop = s.stop ∧
    (startBitSensed s).recorder = s.recorder ∧ (startBitSensed s).free = s.free ∧
    (startBitSensed s).pending = s.pending := by
  unfold startBitSensed
  (repeat' split) <;> simp

@[simp] theorem lineIdle_keeps (s : State) :
    (lineIdle s).lines = s.lines ∧ (lineIdle s).clock = s.clock ∧ (lineIdle s).start = s.start ∧
    (lineIdle s).seq = s.seq ∧ (lineIdle s).testRec = s.testRec ∧ (lineIdle s).follow = s.follow ∧
    (lineIdle s).travel = s.travel ∧ (lineIdle s).pair = s.pair ∧ (lineIdle s).load = s.load ∧
    (lineIdle s).ext = s.ext ∧ (lineIdle s).budget = s.budget ∧ (lineIdle s).stop = s.stop ∧
    (lineIdle s).recorder = s.recorder ∧ (lineIdle s).free = s.free ∧ (lineIdle s).pending = s.pending := by
  unfold lineIdle
  (repeat' split) <;> simp

@[simp] theorem receiveError_keeps (taken : Taken) (s : State) :
    (receiveError taken s).lines = s.lines ∧ (receiveError taken s).clock = s.clock ∧
    (receiveError taken s).start = s.start ∧ (receiveError taken s).seq = s.seq ∧
    (receiveError taken s).testRec = s.testRec ∧ (receiveError taken s).follow = s.follow ∧
    (receiveError taken s).travel = s.travel ∧ (receiveError taken s).pair = s.pair ∧
    (receiveError taken s).load = s.load ∧ (receiveError taken s).ext = s.ext ∧
    (receiveError taken s).stop = s.stop ∧ (receiveError taken s).recorder = s.recorder ∧
    (receiveError taken s).free = s.free ∧ (receiveError taken s).pending = s.pending := by
  dsimp only [receiveError]
  (repeat' split) <;> simp

@[simp] theorem startFrame_keeps (f : OutFrame) (s : State) :
    (startFrame f s).lines = s.lines ∧ (startFrame f s).clock = s.clock ∧ (startFrame f s).start = s.start ∧
    (startFrame f s).seq = s.seq ∧ (startFrame f s).testRec = s.testRec ∧ (startFrame f s).follow = s.follow ∧
    (startFrame f s).travel = s.travel ∧ (startFrame f s).pair = s.pair ∧ (startFrame f s).load = s.load ∧
    (startFrame f s).ext = s.ext ∧ (startFrame f s).budget = s.budget ∧ (startFrame f s).stop = s.stop ∧
    (startFrame f s).recorder = s.recorder ∧ (startFrame f s).free = s.free ∧ (startFrame f s).pending = s.pending := by
  unfold startFrame
  simp

@[simp] theorem withdrawChosen_keeps (s : State) :
    (withdrawChosen s).lines = s.lines ∧ (withdrawChosen s).clock = s.clock ∧ (withdrawChosen s).start = s.start ∧
    (withdrawChosen s).seq = s.seq ∧ (withdrawChosen s).testRec = s.testRec ∧ (withdrawChosen s).follow = s.follow ∧
    (withdrawChosen s).travel = s.travel ∧ (withdrawChosen s).pair = s.pair ∧ (withdrawChosen s).load = s.load ∧
    (withdrawChosen s).ext = s.ext ∧ (withdrawChosen s).stop = s.stop ∧ (withdrawChosen s).recorder = s.recorder ∧
    (withdrawChosen s).free = s.free ∧ (withdrawChosen s).pending = s.pending := by
  unfold withdrawChosen
  simp

@[simp] theorem arbitrate_keeps (s : State) :
    (arbitrate s).lines = s.lines ∧ (arbitrate s).clock = s.clock ∧ (arbitrate s).start = s.start ∧
    (arbitrate s).seq = s.seq ∧ (arbitrate s).testRec = s.testRec ∧ (arbitrate s).follow = s.follow ∧
    (arbitrate s).travel = s.travel ∧ (arbitrate s).pair = s.pair ∧ (arbitrate s).load = s.load ∧
    (arbitrate s).ext = s.ext ∧ (arbitrate s).stop = s.stop ∧ (arbitrate s).recorder = s.recorder ∧
    (arbitrate s).free = s.free ∧ (arbitrate s).pending = s.pending := by
  unfold arbitrate
  (repeat' split) <;> simp

@[simp] theorem frameStart_keeps (quiet : Nat) (s : State) :
    (frameStart quiet s).lines = s.lines ∧ (frameStart quiet s).clock = s.clock ∧
    (frameStart quiet s).start = s.start ∧ (frameStart quiet s).seq = s.seq ∧
    (frameStart quiet s).testRec = s.testRec ∧ (frameStart quiet s).follow = s.follow ∧
    (frameStart quiet s).travel = s.travel ∧ (frameStart quiet s).pair = s.pair ∧
    (frameStart quiet s).load = s.load ∧ (frameStart quiet s).ext = s.ext ∧ (frameStart quiet s).stop = s.stop ∧
    (frameStart quiet s).recorder = s.recorder ∧ (frameStart quiet s).free = s.free ∧
    (frameStart quiet s).pending = s.pending := by
  unfold frameStart
  (repeat' split) <;> simp

@[simp] theorem noticeSent_keeps (disowned : Bool) (s : State) :
    (noticeSent disowned s).lines = s.lines ∧ (noticeSent disowned s).clock = s.clock ∧
    (noticeSent disowned s).start = s.start ∧ (noticeSent disowned s).seq = s.seq ∧
    (noticeSent disowned s).testRec = s.testRec ∧ (noticeSent disowned s).follow = s.follow ∧
    (noticeSent disowned s).travel = s.travel ∧ (noticeSent disowned s).pair = s.pair ∧
    (noticeSent disowned s).load = s.load ∧ (noticeSent disowned s).ext = s.ext ∧
    (noticeSent disowned s).budget = s.budget ∧ (noticeSent disowned s).stop = s.stop ∧
    (noticeSent disowned s).recorder = s.recorder ∧ (noticeSent disowned s).free = s.free ∧
    (noticeSent disowned s).pending = s.pending := by
  unfold noticeSent
  (repeat' split) <;> simp

@[simp] theorem reportCompletion_keeps (i : InFlight) (s : State) :
    (reportCompletion i s).lines = s.lines ∧ (reportCompletion i s).clock = s.clock ∧
    (reportCompletion i s).start = s.start ∧ (reportCompletion i s).seq = s.seq ∧
    (reportCompletion i s).testRec = s.testRec ∧ (reportCompletion i s).follow = s.follow ∧
    (reportCompletion i s).travel = s.travel ∧ (reportCompletion i s).pair = s.pair ∧
    (reportCompletion i s).load = s.load ∧ (reportCompletion i s).ext = s.ext ∧
    (reportCompletion i s).stop = s.stop ∧ (reportCompletion i s).free = s.free ∧
    (reportCompletion i s).pending = s.pending := by
  unfold reportCompletion
  (repeat' split) <;> simp

@[simp] theorem frameComplete_keeps (s : State) :
    (frameComplete s).lines = s.lines ∧ (frameComplete s).clock = s.clock ∧ (frameComplete s).start = s.start ∧
    (frameComplete s).seq = s.seq ∧ (frameComplete s).testRec = s.testRec ∧ (frameComplete s).follow = s.follow ∧
    (frameComplete s).travel = s.travel ∧ (frameComplete s).pair = s.pair ∧ (frameComplete s).load = s.load ∧
    (frameComplete s).ext = s.ext ∧ (frameComplete s).stop = s.stop ∧ (frameComplete s).free = s.free ∧
    (frameComplete s).pending = s.pending := by
  unfold frameComplete
  (repeat' split) <;> simp

@[simp] theorem reportAbandonment_keeps (i : InFlight) (s : State) :
    (reportAbandonment i s).lines = s.lines ∧ (reportAbandonment i s).clock = s.clock ∧
    (reportAbandonment i s).start = s.start ∧ (reportAbandonment i s).seq = s.seq ∧
    (reportAbandonment i s).testRec = s.testRec ∧ (reportAbandonment i s).follow = s.follow ∧
    (reportAbandonment i s).travel = s.travel ∧ (reportAbandonment i s).pair = s.pair ∧
    (reportAbandonment i s).load = s.load ∧ (reportAbandonment i s).ext = s.ext ∧
    (reportAbandonment i s).stop = s.stop ∧ (reportAbandonment i s).recorder = s.recorder ∧
    (reportAbandonment i s).free = s.free ∧ (reportAbandonment i s).pending = s.pending := by
  unfold reportAbandonment
  (repeat' split) <;> simp

@[simp] theorem frameAbandon_keeps (s : State) :
    (frameAbandon s).lines = s.lines ∧ (frameAbandon s).clock = s.clock ∧ (frameAbandon s).start = s.start ∧
    (frameAbandon s).seq = s.seq ∧ (frameAbandon s).testRec = s.testRec ∧ (frameAbandon s).follow = s.follow ∧
    (frameAbandon s).travel = s.travel ∧ (frameAbandon s).pair = s.pair ∧ (frameAbandon s).load = s.load ∧
    (frameAbandon s).ext = s.ext ∧ (frameAbandon s).stop = s.stop ∧ (frameAbandon s).recorder = s.recorder ∧
    (frameAbandon s).free = s.free ∧ (frameAbandon s).pending = s.pending := by
  unfold frameAbandon
  (repeat' split) <;> simp

@[simp] theorem dropMember_keeps (n : Nat) (s : State) :
    (dropMember n s).lines = s.lines ∧ (dropMember n s).clock = s.clock ∧ (dropMember n s).start = s.start ∧
    (dropMember n s).seq = s.seq ∧ (dropMember n s).testRec = s.testRec ∧ (dropMember n s).follow = s.follow ∧
    (dropMember n s).travel = s.travel ∧ (dropMember n s).pair = s.pair ∧ (dropMember n s).load = s.load ∧
    (dropMember n s).ext = s.ext ∧ (dropMember n s).budget = s.budget ∧ (dropMember n s).stop = s.stop ∧
    (dropMember n s).recorder = s.recorder ∧ (dropMember n s).free = s.free ∧ (dropMember n s).pending = s.pending := by
  unfold dropMember
  (repeat' split) <;> simp

@[simp] theorem placeStatus_keeps (s : State) :
    (placeStatus s).lines = s.lines ∧ (placeStatus s).clock = s.clock ∧ (placeStatus s).start = s.start ∧
    (placeStatus s).seq = s.seq ∧ (placeStatus s).testRec = s.testRec ∧ (placeStatus s).follow = s.follow ∧
    (placeStatus s).travel = s.travel ∧ (placeStatus s).pair = s.pair ∧ (placeStatus s).load = s.load ∧
    (placeStatus s).ext = s.ext ∧ (placeStatus s).budget = s.budget ∧ (placeStatus s).stop = s.stop ∧
    (placeStatus s).recorder = s.recorder ∧ (placeStatus s).free = s.free ∧ (placeStatus s).pending = s.pending := by
  unfold placeStatus
  simp

@[simp] theorem placeLevel_keeps (s : State) :
    (placeLevel s).lines = s.lines ∧ (placeLevel s).clock = s.clock ∧ (placeLevel s).start = s.start ∧
    (placeLevel s).seq = s.seq ∧ (placeLevel s).testRec = s.testRec ∧ (placeLevel s).follow = s.follow ∧
    (placeLevel s).travel = s.travel ∧ (placeLevel s).pair = s.pair ∧ (placeLevel s).load = s.load ∧
    (placeLevel s).ext = s.ext ∧ (placeLevel s).budget = s.budget ∧ (placeLevel s).stop = s.stop ∧
    (placeLevel s).recorder = s.recorder ∧ (placeLevel s).free = s.free ∧ (placeLevel s).pending = s.pending := by
  unfold placeLevel
  simp

@[simp] theorem levelTimer_keeps (s : State) :
    (levelTimer s).lines = s.lines ∧ (levelTimer s).clock = s.clock ∧ (levelTimer s).start = s.start ∧
    (levelTimer s).seq = s.seq ∧ (levelTimer s).testRec = s.testRec ∧ (levelTimer s).follow = s.follow ∧
    (levelTimer s).travel = s.travel ∧ (levelTimer s).load = s.load ∧ (levelTimer s).ext = s.ext ∧
    (levelTimer s).budget = s.budget ∧ (levelTimer s).stop = s.stop ∧ (levelTimer s).recorder = s.recorder ∧
    (levelTimer s).free = s.free ∧ (levelTimer s).pending = s.pending := by
  unfold levelTimer
  (repeat' split) <;> simp

@[simp] theorem statusTimer_keeps (s : State) :
    (statusTimer s).lines = s.lines ∧ (statusTimer s).clock = s.clock ∧ (statusTimer s).start = s.start ∧
    (statusTimer s).seq = s.seq ∧ (statusTimer s).testRec = s.testRec ∧ (statusTimer s).follow = s.follow ∧
    (statusTimer s).travel = s.travel ∧ (statusTimer s).pair = s.pair ∧ (statusTimer s).load = s.load ∧
    (statusTimer s).ext = s.ext ∧ (statusTimer s).budget = s.budget ∧ (statusTimer s).stop = s.stop ∧
    (statusTimer s).recorder = s.recorder ∧ (statusTimer s).free = s.free ∧ (statusTimer s).pending = s.pending := by
  unfold statusTimer
  (repeat' split) <;> simp

@[simp] theorem coldStartDue_keeps (s : State) :
    (coldStartDue s).lines = s.lines ∧ (coldStartDue s).clock = s.clock ∧ (coldStartDue s).start = s.start ∧
    (coldStartDue s).seq = s.seq ∧ (coldStartDue s).testRec = s.testRec ∧ (coldStartDue s).follow = s.follow ∧
    (coldStartDue s).travel = s.travel ∧ (coldStartDue s).pair = s.pair ∧ (coldStartDue s).load = s.load ∧
    (coldStartDue s).ext = s.ext ∧ (coldStartDue s).stop = s.stop ∧ (coldStartDue s).recorder = s.recorder ∧
    (coldStartDue s).free = s.free ∧ (coldStartDue s).pending = s.pending := by
  unfold coldStartDue
  (repeat' split) <;> simp

@[simp] theorem latchIfLow_keeps (s : State) :
    (latchIfLow s).lines = s.lines ∧ (latchIfLow s).clock = s.clock ∧ (latchIfLow s).start = s.start ∧
    (latchIfLow s).travel = s.travel ∧ (latchIfLow s).pair = s.pair ∧ (latchIfLow s).free = s.free ∧
    (latchIfLow s).pending = s.pending := by
  unfold latchIfLow
  (repeat' split) <;> simp

@[simp] theorem startIntervalEnd_keeps (lines : Lines) (s : State) :
    (startIntervalEnd lines s).clock = s.clock ∧ (startIntervalEnd lines s).travel = s.travel ∧
    (startIntervalEnd lines s).free = s.free ∧ (startIntervalEnd lines s).pending = s.pending := by
  dsimp only [startIntervalEnd]
  (repeat' split) <;> simp

@[simp] theorem sequencerToIdle_keeps (s : State) :
    (sequencerToIdle s).lines = s.lines ∧ (sequencerToIdle s).clock = s.clock ∧ (sequencerToIdle s).start = s.start ∧
    (sequencerToIdle s).testRec = s.testRec ∧ (sequencerToIdle s).travel = s.travel ∧
    (sequencerToIdle s).pair = s.pair ∧ (sequencerToIdle s).load = s.load ∧ (sequencerToIdle s).ext = s.ext ∧
    (sequencerToIdle s).link = s.link ∧ (sequencerToIdle s).budget = s.budget ∧ (sequencerToIdle s).stop = s.stop ∧
    (sequencerToIdle s).recorder = s.recorder ∧ (sequencerToIdle s).free = s.free ∧
    (sequencerToIdle s).pending = s.pending := by
  unfold sequencerToIdle
  (repeat' split) <;> simp

@[simp] theorem acceptConfig_keeps (c : Settings) (s : State) :
    (acceptConfig c s).lines = s.lines ∧ (acceptConfig c s).testRec = s.testRec ∧ (acceptConfig c s).pair = s.pair ∧
    (acceptConfig c s).stop = s.stop ∧ (acceptConfig c s).recorder = s.recorder ∧ (acceptConfig c s).free = s.free ∧
    (acceptConfig c s).pending = s.pending := by
  dsimp only [acceptConfig]
  (repeat' split) <;> simp

@[simp] theorem takeConfig_keeps (payload : List Byte) (s : State) :
    (takeConfig payload s).lines = s.lines ∧ (takeConfig payload s).testRec = s.testRec ∧
    (takeConfig payload s).pair = s.pair ∧ (takeConfig payload s).stop = s.stop ∧
    (takeConfig payload s).recorder = s.recorder ∧ (takeConfig payload s).free = s.free ∧
    (takeConfig payload s).pending = s.pending := by
  unfold takeConfig
  (repeat' split) <;> simp

@[simp] theorem grantAct_keeps (f : RxFrame) (s : State) :
    (grantAct f s).lines = s.lines ∧ (grantAct f s).clock = s.clock ∧ (grantAct f s).start = s.start ∧
    (grantAct f s).seq = s.seq ∧ (grantAct f s).testRec = s.testRec ∧ (grantAct f s).follow = s.follow ∧
    (grantAct f s).travel = s.travel ∧ (grantAct f s).pair = s.pair ∧ (grantAct f s).load = s.load ∧
    (grantAct f s).ext = s.ext ∧ (grantAct f s).stop = s.stop ∧ (grantAct f s).recorder = s.recorder ∧
    (grantAct f s).free = s.free ∧ (grantAct f s).pending = s.pending := by
  unfold grantAct
  (repeat' split) <;> simp

@[simp] theorem levelAct_keeps (f : RxFrame) (s : State) :
    (levelAct f s).lines = s.lines ∧ (levelAct f s).clock = s.clock ∧ (levelAct f s).start = s.start ∧
    (levelAct f s).seq = s.seq ∧ (levelAct f s).testRec = s.testRec ∧ (levelAct f s).follow = s.follow ∧
    (levelAct f s).travel = s.travel ∧ (levelAct f s).load = s.load ∧ (levelAct f s).ext = s.ext ∧
    (levelAct f s).link = s.link ∧ (levelAct f s).budget = s.budget ∧ (levelAct f s).stop = s.stop ∧
    (levelAct f s).recorder = s.recorder ∧ (levelAct f s).free = s.free ∧ (levelAct f s).pending = s.pending := by
  unfold levelAct
  (repeat' split) <;> simp

@[simp] theorem statusAct_keeps (f : RxFrame) (s : State) :
    (statusAct f s).lines = s.lines ∧ (statusAct f s).clock = s.clock ∧ (statusAct f s).start = s.start ∧
    (statusAct f s).travel = s.travel ∧ (statusAct f s).pair = s.pair ∧ (statusAct f s).free = s.free ∧
    (statusAct f s).pending = s.pending := by
  unfold statusAct
  (repeat' split) <;> simp

@[simp] theorem acceptOrder_keeps (o : Order) (s : State) :
    (acceptOrder o s).lines = s.lines ∧ (acceptOrder o s).clock = s.clock ∧ (acceptOrder o s).start = s.start ∧
    (acceptOrder o s).follow = s.follow ∧ (acceptOrder o s).travel = s.travel ∧ (acceptOrder o s).budget = s.budget ∧
    (acceptOrder o s).stop = s.stop ∧ (acceptOrder o s).free = s.free ∧ (acceptOrder o s).pending = s.pending := by
  dsimp only [acceptOrder]
  simp

@[simp] theorem takeOrder_keeps (payload : List Byte) (s : State) :
    (takeOrder payload s).lines = s.lines ∧ (takeOrder payload s).clock = s.clock ∧
    (takeOrder payload s).start = s.start ∧ (takeOrder payload s).follow = s.follow ∧
    (takeOrder payload s).travel = s.travel ∧ (takeOrder payload s).budget = s.budget ∧
    (takeOrder payload s).stop = s.stop ∧ (takeOrder payload s).free = s.free ∧
    (takeOrder payload s).pending = s.pending := by
  unfold takeOrder
  (repeat' split) <;> simp

@[simp] theorem abortTest_keeps (s : State) :
    (abortTest s).lines = s.lines ∧ (abortTest s).clock = s.clock ∧ (abortTest s).start = s.start ∧
    (abortTest s).follow = s.follow ∧ (abortTest s).travel = s.travel ∧ (abortTest s).pair = s.pair ∧
    (abortTest s).stop = s.stop ∧ (abortTest s).recorder = s.recorder ∧ (abortTest s).free = s.free ∧
    (abortTest s).pending = s.pending := by
  unfold abortTest
  (repeat' split) <;> simp

@[simp] theorem clearStop_keeps (s : State) :
    (clearStop s).lines = s.lines ∧ (clearStop s).clock = s.clock ∧ (clearStop s).start = s.start ∧
    (clearStop s).travel = s.travel ∧ (clearStop s).pair = s.pair ∧ (clearStop s).free = s.free ∧
    (clearStop s).pending = s.pending := by
  dsimp only [clearStop]
  (repeat' split) <;> simp

@[simp] theorem clearSequencer_keeps (s : State) :
    (clearSequencer s).lines = s.lines ∧ (clearSequencer s).clock = s.clock ∧ (clearSequencer s).start = s.start ∧
    (clearSequencer s).budget = s.budget ∧ (clearSequencer s).stop = s.stop ∧
    (clearSequencer s).recorder = s.recorder ∧ (clearSequencer s).free = s.free ∧
    (clearSequencer s).pending = s.pending := by
  unfold clearSequencer
  (repeat' split) <;> simp

@[simp] theorem freeArm_keeps (s : State) :
    (freeArm s).lines = s.lines ∧ (freeArm s).clock = s.clock ∧ (freeArm s).start = s.start ∧
    (freeArm s).seq = s.seq ∧ (freeArm s).testRec = s.testRec ∧ (freeArm s).follow = s.follow ∧
    (freeArm s).travel = s.travel ∧ (freeArm s).pair = s.pair ∧ (freeArm s).load = s.load ∧
    (freeArm s).link = s.link ∧ (freeArm s).budget = s.budget ∧ (freeArm s).stop = s.stop ∧
    (freeArm s).recorder = s.recorder ∧ (freeArm s).free = s.free ∧ (freeArm s).pending = s.pending := by
  unfold freeArm
  (repeat' split) <;> simp

@[simp] theorem freshChecks_keeps (s : State) :
    (freshChecks s).lines = s.lines ∧ (freshChecks s).clock = s.clock ∧ (freshChecks s).start = s.start ∧
    (freshChecks s).seq = s.seq ∧ (freshChecks s).testRec = s.testRec ∧ (freshChecks s).follow = s.follow ∧
    (freshChecks s).travel = s.travel ∧ (freshChecks s).ext = s.ext ∧ (freshChecks s).link = s.link ∧
    (freshChecks s).budget = s.budget ∧ (freshChecks s).stop = s.stop ∧ (freshChecks s).recorder = s.recorder ∧
    (freshChecks s).free = s.free ∧ (freshChecks s).pending = s.pending := by
  unfold freshChecks
  simp

@[simp] theorem clearStation_keeps (s : State) :
    (clearStation s).lines = s.lines ∧ (clearStation s).clock = s.clock ∧ (clearStation s).start = s.start ∧
    (clearStation s).free = s.free ∧ (clearStation s).pending = s.pending := by
  unfold clearStation
  simp

@[simp] theorem restartSequencer_keeps (s : State) :
    (restartSequencer s).lines = s.lines ∧ (restartSequencer s).clock = s.clock ∧
    (restartSequencer s).start = s.start ∧ (restartSequencer s).budget = s.budget ∧
    (restartSequencer s).stop = s.stop ∧ (restartSequencer s).recorder = s.recorder ∧
    (restartSequencer s).free = s.free ∧ (restartSequencer s).pending = s.pending := by
  dsimp only [restartSequencer]
  (repeat' split) <;> simp

@[simp] theorem restartMotion_keeps (s : State) :
    (restartMotion s).lines = s.lines ∧ (restartMotion s).clock = s.clock ∧ (restartMotion s).start = s.start ∧
    (restartMotion s).seq = s.seq ∧ (restartMotion s).testRec = s.testRec ∧ (restartMotion s).follow = s.follow ∧
    (restartMotion s).load = s.load ∧ (restartMotion s).ext = s.ext ∧ (restartMotion s).link = s.link ∧
    (restartMotion s).budget = s.budget ∧ (restartMotion s).stop = s.stop ∧ (restartMotion s).recorder = s.recorder ∧
    (restartMotion s).free = s.free ∧ (restartMotion s).pending = s.pending := by
  unfold restartMotion
  simp

@[simp] theorem dropPair_keeps (s : State) :
    (dropPair s).lines = s.lines ∧ (dropPair s).clock = s.clock ∧ (dropPair s).start = s.start ∧
    (dropPair s).seq = s.seq ∧ (dropPair s).testRec = s.testRec ∧ (dropPair s).follow = s.follow ∧
    (dropPair s).pair = s.pair ∧ (dropPair s).load = s.load ∧ (dropPair s).ext = s.ext ∧ (dropPair s).link = s.link ∧
    (dropPair s).budget = s.budget ∧ (dropPair s).stop = s.stop ∧ (dropPair s).recorder = s.recorder ∧
    (dropPair s).free = s.free ∧ (dropPair s).pending = s.pending := by
  unfold dropPair
  (repeat' split) <;> simp

@[simp] theorem restartStation_keeps (s : State) :
    (restartStation s).lines = s.lines ∧ (restartStation s).clock = s.clock ∧ (restartStation s).start = s.start ∧
    (restartStation s).free = s.free ∧ (restartStation s).pending = s.pending := by
  unfold restartStation
  simp

@[simp] theorem loseUnits_keeps (s : State) :
    (loseUnits s).lines = s.lines ∧ (loseUnits s).clock = s.clock ∧ (loseUnits s).start = s.start ∧
    (loseUnits s).travel = s.travel ∧ (loseUnits s).pair = s.pair ∧ (loseUnits s).free = s.free ∧
    (loseUnits s).pending = s.pending := by
  dsimp only [loseUnits]
  (repeat' split) <;> simp

@[simp] theorem reclaimNode_keeps (n : Nat) (epoch : Byte) (s : State) :
    (reclaimNode n epoch s).lines = s.lines ∧ (reclaimNode n epoch s).clock = s.clock ∧
    (reclaimNode n epoch s).start = s.start ∧ (reclaimNode n epoch s).travel = s.travel ∧
    (reclaimNode n epoch s).pair = s.pair ∧ (reclaimNode n epoch s).free = s.free ∧
    (reclaimNode n epoch s).pending = s.pending := by
  dsimp only [reclaimNode]
  (repeat' split) <;> simp

@[simp] theorem stopAct_keeps (s : State) :
    (stopAct s).lines = s.lines ∧ (stopAct s).clock = s.clock ∧ (stopAct s).start = s.start ∧
    (stopAct s).travel = s.travel ∧ (stopAct s).pair = s.pair ∧ (stopAct s).free = s.free ∧
    (stopAct s).pending = s.pending := by
  unfold stopAct
  simp

@[simp] theorem configAct_keeps (f : RxFrame) (s : State) :
    (configAct f s).lines = s.lines ∧ (configAct f s).testRec = s.testRec ∧ (configAct f s).pair = s.pair ∧
    (configAct f s).stop = s.stop ∧ (configAct f s).recorder = s.recorder ∧ (configAct f s).free = s.free ∧
    (configAct f s).pending = s.pending := by
  unfold configAct
  (repeat' split) <;> simp

@[simp] theorem orderAct_keeps (f : RxFrame) (s : State) :
    (orderAct f s).lines = s.lines ∧ (orderAct f s).clock = s.clock ∧ (orderAct f s).start = s.start ∧
    (orderAct f s).follow = s.follow ∧ (orderAct f s).travel = s.travel ∧ (orderAct f s).budget = s.budget ∧
    (orderAct f s).stop = s.stop ∧ (orderAct f s).free = s.free ∧ (orderAct f s).pending = s.pending := by
  unfold orderAct
  (repeat' split) <;> simp

@[simp] theorem abortAct_keeps (f : RxFrame) (s : State) :
    (abortAct f s).lines = s.lines ∧ (abortAct f s).clock = s.clock ∧ (abortAct f s).start = s.start ∧
    (abortAct f s).follow = s.follow ∧ (abortAct f s).travel = s.travel ∧ (abortAct f s).pair = s.pair ∧
    (abortAct f s).stop = s.stop ∧ (abortAct f s).recorder = s.recorder ∧ (abortAct f s).free = s.free ∧
    (abortAct f s).pending = s.pending := by
  unfold abortAct
  (repeat' split) <;> simp

@[simp] theorem clearAct_keeps (f : RxFrame) (s : State) :
    (clearAct f s).lines = s.lines ∧ (clearAct f s).clock = s.clock ∧ (clearAct f s).start = s.start ∧
    (clearAct f s).free = s.free ∧ (clearAct f s).pending = s.pending := by
  unfold clearAct
  (repeat' split) <;> simp

@[simp] theorem restartAct_keeps (f : RxFrame) (s : State) :
    (restartAct f s).lines = s.lines ∧ (restartAct f s).clock = s.clock ∧ (restartAct f s).start = s.start ∧
    (restartAct f s).free = s.free ∧ (restartAct f s).pending = s.pending := by
  unfold restartAct
  (repeat' split) <;> simp

@[simp] theorem reclaimAct_keeps (f : RxFrame) (s : State) :
    (reclaimAct f s).lines = s.lines ∧ (reclaimAct f s).clock = s.clock ∧ (reclaimAct f s).start = s.start ∧
    (reclaimAct f s).travel = s.travel ∧ (reclaimAct f s).pair = s.pair ∧ (reclaimAct f s).free = s.free ∧
    (reclaimAct f s).pending = s.pending := by
  unfold reclaimAct
  (repeat' split) <;> simp

@[simp] theorem stopLineFall_keeps (othersLow : Bool) (s : State) :
    (stopLineFall othersLow s).clock = s.clock ∧ (stopLineFall othersLow s).start = s.start ∧
    (stopLineFall othersLow s).travel = s.travel ∧ (stopLineFall othersLow s).pair = s.pair ∧
    (stopLineFall othersLow s).free = s.free ∧ (stopLineFall othersLow s).pending = s.pending := by
  unfold stopLineFall
  simp

@[simp] theorem tickTravel_keeps (s : State) :
    (tickTravel s).lines = s.lines ∧ (tickTravel s).clock = s.clock ∧ (tickTravel s).start = s.start ∧
    (tickTravel s).seq = s.seq ∧ (tickTravel s).testRec = s.testRec ∧ (tickTravel s).follow = s.follow ∧
    (tickTravel s).pair = s.pair ∧ (tickTravel s).load = s.load ∧ (tickTravel s).ext = s.ext ∧
    (tickTravel s).link = s.link ∧ (tickTravel s).budget = s.budget ∧ (tickTravel s).stop = s.stop ∧
    (tickTravel s).recorder = s.recorder ∧ (tickTravel s).free = s.free ∧ (tickTravel s).pending = s.pending := by
  unfold tickTravel
  simp

@[simp] theorem tickLoad_keeps (s : State) :
    (tickLoad s).lines = s.lines ∧ (tickLoad s).clock = s.clock ∧ (tickLoad s).start = s.start ∧
    (tickLoad s).seq = s.seq ∧ (tickLoad s).testRec = s.testRec ∧ (tickLoad s).follow = s.follow ∧
    (tickLoad s).travel = s.travel ∧ (tickLoad s).pair = s.pair ∧ (tickLoad s).ext = s.ext ∧
    (tickLoad s).link = s.link ∧ (tickLoad s).budget = s.budget ∧ (tickLoad s).stop = s.stop ∧
    (tickLoad s).recorder = s.recorder ∧ (tickLoad s).free = s.free ∧ (tickLoad s).pending = s.pending := by
  unfold tickLoad
  simp

@[simp] theorem tickAges_keeps (s : State) :
    (tickAges s).lines = s.lines ∧ (tickAges s).clock = s.clock ∧ (tickAges s).start = s.start ∧
    (tickAges s).seq = s.seq ∧ (tickAges s).testRec = s.testRec ∧ (tickAges s).follow = s.follow ∧
    (tickAges s).travel = s.travel ∧ (tickAges s).load = s.load ∧ (tickAges s).ext = s.ext ∧
    (tickAges s).stop = s.stop ∧ (tickAges s).recorder = s.recorder ∧ (tickAges s).free = s.free ∧
    (tickAges s).pending = s.pending := by
  dsimp only [tickAges]
  (repeat' split) <;> simp

@[simp] theorem tickTaring_keeps (s : State) :
    (tickTaring s).lines = s.lines ∧ (tickTaring s).clock = s.clock ∧ (tickTaring s).start = s.start ∧
    (tickTaring s).testRec = s.testRec ∧ (tickTaring s).follow = s.follow ∧ (tickTaring s).travel = s.travel ∧
    (tickTaring s).pair = s.pair ∧ (tickTaring s).ext = s.ext ∧ (tickTaring s).link = s.link ∧
    (tickTaring s).budget = s.budget ∧ (tickTaring s).stop = s.stop ∧ (tickTaring s).recorder = s.recorder ∧
    (tickTaring s).pending = s.pending := by
  dsimp only [tickTaring, State.draw]
  (repeat' split) <;> simp

@[simp] theorem tickGrips_keeps (s : State) :
    (tickGrips s).lines = s.lines ∧ (tickGrips s).clock = s.clock ∧ (tickGrips s).start = s.start ∧
    (tickGrips s).testRec = s.testRec ∧ (tickGrips s).follow = s.follow ∧ (tickGrips s).travel = s.travel ∧
    (tickGrips s).pair = s.pair ∧ (tickGrips s).ext = s.ext ∧ (tickGrips s).link = s.link ∧
    (tickGrips s).budget = s.budget ∧ (tickGrips s).stop = s.stop ∧ (tickGrips s).recorder = s.recorder ∧
    (tickGrips s).pending = s.pending := by
  unfold tickGrips
  (repeat' split) <;> simp

@[simp] theorem tickCore_keeps (s : State) :
    (tickCore s).lines = s.lines ∧ (tickCore s).start = s.start ∧ (tickCore s).seq = s.seq ∧
    (tickCore s).testRec = s.testRec ∧ (tickCore s).follow = s.follow ∧ (tickCore s).pair = s.pair ∧
    (tickCore s).ext = s.ext ∧ (tickCore s).link = s.link ∧ (tickCore s).budget = s.budget ∧
    (tickCore s).stop = s.stop ∧ (tickCore s).recorder = s.recorder ∧ (tickCore s).free = s.free ∧
    (tickCore s).pending = s.pending := by
  unfold tickCore
  simp

@[simp] theorem bitTravel_keeps (s : State) :
    (bitTravel s).lines = s.lines ∧ (bitTravel s).start = s.start ∧ (bitTravel s).seq = s.seq ∧
    (bitTravel s).testRec = s.testRec ∧ (bitTravel s).follow = s.follow ∧ (bitTravel s).pair = s.pair ∧
    (bitTravel s).load = s.load ∧ (bitTravel s).ext = s.ext ∧ (bitTravel s).link = s.link ∧
    (bitTravel s).budget = s.budget ∧ (bitTravel s).stop = s.stop ∧ (bitTravel s).recorder = s.recorder ∧
    (bitTravel s).free = s.free ∧ (bitTravel s).pending = s.pending := by
  unfold bitTravel
  (repeat' split) <;> simp

end Sys2Proof.Laws
end

