-- ==== Sys2Proof/Laws/Finish.lean ====
section
/-! SUPPORT. What the end of every command does: finish changes at most the demand applied and the pending STATUS,
makes the drive port obey the forcing conditions, and does nothing where neither has anything to do. -/

namespace Sys2Proof.Laws

open Sys2Proof.Machine Sys2Proof.Safety

@[simp] theorem rebuildStatus_keeps (old s : State) :
    (rebuildStatus old s).lines = s.lines ∧ (rebuildStatus old s).clock = s.clock ∧
    (rebuildStatus old s).start = s.start ∧ (rebuildStatus old s).seq = s.seq ∧
    (rebuildStatus old s).testRec = s.testRec ∧ (rebuildStatus old s).follow = s.follow ∧
    (rebuildStatus old s).travel = s.travel ∧ (rebuildStatus old s).pair = s.pair ∧
    (rebuildStatus old s).load = s.load ∧ (rebuildStatus old s).ext = s.ext ∧
    (rebuildStatus old s).budget = s.budget ∧ (rebuildStatus old s).stop = s.stop ∧
    (rebuildStatus old s).recorder = s.recorder ∧ (rebuildStatus old s).free = s.free ∧
    (rebuildStatus old s).pending = s.pending := by
  unfold rebuildStatus
  split <;> simp

@[simp] theorem finish_keeps (old s : State) :
    (finish old s).lines = s.lines ∧ (finish old s).clock = s.clock ∧ (finish old s).start = s.start ∧
    (finish old s).seq = s.seq ∧ (finish old s).testRec = s.testRec ∧ (finish old s).follow = s.follow ∧
    (finish old s).pair = s.pair ∧ (finish old s).load = s.load ∧ (finish old s).ext = s.ext ∧
    (finish old s).budget = s.budget ∧ (finish old s).stop = s.stop ∧ (finish old s).recorder = s.recorder ∧
    (finish old s).free = s.free ∧ (finish old s).pending = s.pending := by
  simp [finish]

/-- The link after finish: only the pending STATUS may differ. -/
theorem rebuildStatus_link (old s : State) :
    (rebuildStatus old s).link = { s.link with status := (rebuildStatus old s).link.status } := by
  unfold rebuildStatus
  split <;> simp [refreshStatus_link]

theorem finish_link (old s : State) : (finish old s).link = { s.link with status := (finish old s).link.status } := by
  simpa [finish] using rebuildStatus_link old s

@[simp] theorem finish_link_fields (old s : State) :
    (finish old s).link.line = s.link.line ∧ (finish old s).link.taking = s.link.taking ∧
    (finish old s).link.quiet = s.link.quiet ∧ (finish old s).link.stop = s.link.stop ∧
    (finish old s).link.grant = s.link.grant ∧ (finish old s).link.level = s.link.level ∧
    (finish old s).link.result = s.link.result ∧ (finish old s).link.curve = s.link.curve ∧
    (finish old s).link.inFlight = s.link.inFlight ∧ (finish old s).link.notices = s.link.notices ∧
    (finish old s).link.lost = s.link.lost ∧ (finish old s).link.errCheck = s.link.errCheck ∧
    (finish old s).link.errLength = s.link.errLength ∧ (finish old s).link.errShort = s.link.errShort ∧
    (finish old s).link.presence = s.link.presence ∧ (finish old s).link.statusTimer = s.link.statusTimer := by
  rw [finish_link]
  simp

/-- The travel unit after finish: only the demand applied may differ. -/
theorem finish_travel (old s : State) :
    (finish old s).travel = { s.travel with applied := if forced s then 0 else s.travel.applied } := by
  have h : forced (rebuildStatus old s) = forced s := by
    simp [forced, State.ownEntry, State.moveShare, State.isFollow, State.shareOf, State.phaseShare, State.curPhase,
      State.returnShare]
  unfold finish forceZero
  rw [h]
  split <;> simp

@[simp] theorem finish_travel_fields (old s : State) :
    (finish old s).travel.counter = s.travel.counter ∧ (finish old s).travel.latched = s.travel.latched ∧
    (finish old s).travel.appliedAtTick = s.travel.appliedAtTick ∧
    (finish old s).travel.measure = s.travel.measure ∧ (finish old s).travel.gateOpen = s.travel.gateOpen ∧
    (finish old s).travel.gateTicks = s.travel.gateTicks ∧ (finish old s).travel.gateSum = s.travel.gateSum ∧
    (finish old s).travel.gateDue = s.travel.gateDue ∧ (finish old s).travel.periodTimer = s.travel.periodTimer ∧
    (finish old s).travel.velocity = s.travel.velocity ∧
    (finish old s).travel.standstill = s.travel.standstill ∧
    (finish old s).travel.regValue = s.travel.regValue ∧ (finish old s).travel.regMode = s.travel.regMode ∧
    (finish old s).travel.window = s.travel.window ∧
    (finish old s).travel.holdPosition = s.travel.holdPosition ∧
    (finish old s).travel.tripped = s.travel.tripped := by
  rw [finish_travel]
  simp

/-- The forcing conditions read nothing that finish changes. -/
theorem forced_finish (old s : State) : forced (finish old s) = forced s := by
  simp [forced, State.ownEntry, State.moveShare, State.isFollow, State.shareOf, State.phaseShare, State.curPhase,
    State.returnShare]

theorem portSafe_finish (old s : State) : PortSafe (finish old s) := by
  intro h
  rw [forced_finish] at h
  rw [finish_travel]
  simp [h]

theorem applied_finish (old s : State) :
    (finish old s).travel.applied = if forced s then 0 else s.travel.applied := by
  rw [finish_travel]

/-- Where the budget unit's table, epoch and in-step state are as before, no STATUS is built anew. -/
theorem rebuildStatus_same (old s : State) (h : s.budget = old.budget) : rebuildStatus old s = s := by
  simp [rebuildStatus, budgetChanged, h]

theorem forceZero_safe (s : State) (h : PortSafe s) : forceZero s = s := by
  unfold forceZero
  split
  · rename_i hf
    rw [← h hf]
    rfl
  · rfl

/-- A command that leaves the budget unit as it was, in a state whose port obeys the forcing conditions, ends with its
own effect. -/
theorem finish_eq (old s : State) (h : s.budget = old.budget) (hp : PortSafe s) : finish old s = s := by
  rw [finish, rebuildStatus_same _ _ h, forceZero_safe _ hp]

end Sys2Proof.Laws
end

