-- ==== Sys2Proof/Laws/Receive.lean ====
section
/-! SUPPORT. A received frame: the state in which its content is acted on, and what reception leaves as it is. -/

namespace Sys2Proof.Laws

open Sys2Proof.Machine Sys2Proof.Safety

/-- The state in which the content of a frame that the station takes is acted on: the reception has ended, the
sender is present, and the header has been judged. -/
def heard (f : RxFrame) (s : State) : State :=
  judgeHeader f.epoch f.inStep (s.setLink (s.link.endReception.present f.sender.toNat))

/-- R125: a frame that the station takes is dispatched. -/
theorem receive_takes {f : RxFrame} {s : State} (act : State → State) (h : Takes f s) :
    receive f act s = act (heard f s) := by
  obtain ⟨h1, h2, h3, h4⟩ := h
  simp only [receive, h2, examineHeader, dispatchFrame, heard, setLink_fields, h1, h3, h4, if_true, if_false,
    setLink_twice, Bool.false_eq_true]

@[simp] theorem present_fields (l : Link) (n : Nat) :
    (l.present n).line = l.line ∧ (l.present n).taking = l.taking ∧ (l.present n).quiet = l.quiet ∧
    (l.present n).stop = l.stop ∧ (l.present n).grant = l.grant ∧ (l.present n).level = l.level ∧
    (l.present n).status = l.status ∧ (l.present n).result = l.result ∧ (l.present n).curve = l.curve ∧
    (l.present n).inFlight = l.inFlight ∧ (l.present n).notices = l.notices ∧ (l.present n).lost = l.lost ∧
    (l.present n).errCheck = l.errCheck ∧ (l.present n).errLength = l.errLength ∧
    (l.present n).errShort = l.errShort ∧ (l.present n).statusTimer = l.statusTimer := by
  unfold Link.present
  split <;> simp

/-- R129: the presence list with the sender in it. -/
theorem present_presence (l : Link) (n k : Nat) (h : k < 15) :
    (l.present n).presence[k] = if k = n then some 0 else l.presence[k] := by
  unfold Link.present
  split
  · rw [Vector.getElem_set]
    split <;> split <;> first | rfl | omega
  · split
    · omega
    · rfl

@[simp] theorem heard_keeps (f : RxFrame) (s : State) :
    (heard f s).lines = s.lines ∧ (heard f s).clock = s.clock ∧ (heard f s).start = s.start ∧
    (heard f s).seq = s.seq ∧ (heard f s).testRec = s.testRec ∧ (heard f s).follow = s.follow ∧
    (heard f s).travel = s.travel ∧ (heard f s).pair = s.pair ∧ (heard f s).load = s.load ∧
    (heard f s).ext = s.ext ∧ (heard f s).stop = s.stop ∧ (heard f s).recorder = s.recorder ∧
    (heard f s).free = s.free ∧ (heard f s).pending = s.pending := by
  simp [heard]

/-- R134, R135: the budget unit after the judgment of the header. -/
theorem heard_budget (f : RxFrame) (s : State) :
    (heard f s).budget =
      if s.budget.inStep = true ∧ f.inStep = true ∧ f.epoch ≠ s.budget.epoch then
        { s.budget with inStep := false, lock := false, lastHeard := f.epoch
                        coldTimer := if s.configured then some 0 else none }
      else { s.budget with lastHeard := f.epoch } := by
  unfold heard judgeHeader enterStale
  by_cases h1 : s.budget.inStep <;> by_cases h2 : f.inStep <;> by_cases h3 : f.epoch = s.budget.epoch <;>
    simp [h1, h2, h3, State.configured] <;> rfl

@[simp] theorem heard_budget_fields (f : RxFrame) (s : State) :
    (heard f s).budget.table = s.budget.table ∧ (heard f s).budget.epoch = s.budget.epoch ∧
    (heard f s).budget.requested = s.budget.requested ∧ (heard f s).budget.reason = s.budget.reason ∧
    (heard f s).budget.lastHeard = f.epoch ∧ (heard f s).budget.inStep = staysInStep f s := by
  rw [heard_budget]
  split
  · rename_i h
    simp [staysInStep, h.1, h.2.1, h.2.2]
  · rename_i h
    simp only [true_and]
    by_cases h1 : s.budget.inStep <;> by_cases h2 : f.inStep <;> by_cases h3 : f.epoch = s.budget.epoch <;>
      simp_all [staysInStep]

@[simp] theorem heard_link_fields (f : RxFrame) (s : State) :
    (heard f s).link.line = .quiet ∧ (heard f s).link.taking = false ∧ (heard f s).link.quiet = 1 ∧
    (heard f s).link.stop = s.link.stop ∧ (heard f s).link.level = s.link.level ∧
    (heard f s).link.status = s.link.status ∧ (heard f s).link.result = s.link.result ∧
    (heard f s).link.curve = s.link.curve ∧ (heard f s).link.inFlight = s.link.inFlight ∧
    (heard f s).link.notices = s.link.notices ∧ (heard f s).link.lost = s.link.lost ∧
    (heard f s).link.errCheck = s.link.errCheck ∧ (heard f s).link.errLength = s.link.errLength ∧
    (heard f s).link.errShort = s.link.errShort ∧ (heard f s).link.statusTimer = s.link.statusTimer := by
  dsimp only [heard, judgeHeader]
  split
  · unfold enterStale
    split <;> simp [Link.endReception]
  · simp [Link.endReception]

theorem heard_presence (f : RxFrame) (s : State) (k : Nat) (h : k < 15) :
    (heard f s).link.presence[k] = if k = f.sender.toNat then some 0 else s.link.presence[k] := by
  have e : (heard f s).link.presence = (s.link.endReception.present f.sender.toNat).presence := by
    dsimp only [heard, judgeHeader]
    split
    · unfold enterStale
      split <;> simp
    · simp
  simp only [e, present_presence]
  rfl

/-- A projection that the link, the budget unit, a fault report and the content leave alone is left alone by the whole
reception. -/
theorem receive_proj {α : Type} (p : State → α) (hl : ∀ l t, p (State.setLink t l) = p t)
    (hb : ∀ b t, p (State.setBudget t b) = p t) (hr : ∀ c t, p (report c t) = p t) (f : RxFrame)
    (act : State → State) (ha : ∀ t, p (act t) = p t) (s : State) : p (receive f act s) = p s := by
  have hs : ∀ t, p (enterStale t) = p t := by
    intro t
    unfold enterStale
    split
    · rw [hb, hl]
    · rfl
  have hj : ∀ t, p (judgeHeader f.epoch f.inStep t) = p t := by
    intro t
    dsimp only [judgeHeader]
    split
    · rw [hs, hb]
    · rw [hb]
  dsimp only [receive, examineHeader, dispatchFrame]
  split
  · split
    · rw [hl]
    · split
      · rw [hl]
      · split
        · rw [hr, hl]
        · rw [ha, hj, hl, hl]
  · rfl

/-! ## What the content of a frame leaves alone, its reception leaves alone -/

theorem receive_lines (f : RxFrame) (act : State → State) (ha : ∀ t, (act t).lines = t.lines) (s : State) :
    (receive f act s).lines = s.lines :=
  receive_proj (·.lines) (by simp) (by simp) (by simp) f act ha s

theorem receive_clock (f : RxFrame) (act : State → State) (ha : ∀ t, (act t).clock = t.clock) (s : State) :
    (receive f act s).clock = s.clock :=
  receive_proj (·.clock) (by simp) (by simp) (by simp) f act ha s

theorem receive_start (f : RxFrame) (act : State → State) (ha : ∀ t, (act t).start = t.start) (s : State) :
    (receive f act s).start = s.start :=
  receive_proj (·.start) (by simp) (by simp) (by simp) f act ha s

theorem receive_travel (f : RxFrame) (act : State → State) (ha : ∀ t, (act t).travel = t.travel) (s : State) :
    (receive f act s).travel = s.travel :=
  receive_proj (·.travel) (by simp) (by simp) (by simp) f act ha s

theorem receive_pair (f : RxFrame) (act : State → State) (ha : ∀ t, (act t).pair = t.pair) (s : State) :
    (receive f act s).pair = s.pair :=
  receive_proj (·.pair) (by simp) (by simp) (by simp) f act ha s

theorem receive_free (f : RxFrame) (act : State → State) (ha : ∀ t, (act t).free = t.free) (s : State) :
    (receive f act s).free = s.free :=
  receive_proj (·.free) (by simp) (by simp) (by simp) f act ha s

theorem receive_pending (f : RxFrame) (act : State → State) (ha : ∀ t, (act t).pending = t.pending) (s : State) :
    (receive f act s).pending = s.pending :=
  receive_proj (·.pending) (by simp) (by simp) (by simp) f act ha s

@[simp] theorem reportFrame_keeps (cls : Byte) (f : RxFrame) (s : State) :
    (reportFrame cls f s).lines = s.lines ∧ (reportFrame cls f s).clock = s.clock ∧
    (reportFrame cls f s).start = s.start ∧ (reportFrame cls f s).travel = s.travel ∧
    (reportFrame cls f s).pair = s.pair ∧ (reportFrame cls f s).free = s.free ∧
    (reportFrame cls f s).pending = s.pending := by
  unfold reportFrame
  split
  · refine ⟨receive_lines _ _ ?_ _, receive_clock _ _ ?_ _, receive_start _ _ ?_ _, receive_travel _ _ ?_ _,
      receive_pair _ _ ?_ _, receive_free _ _ ?_ _, receive_pending _ _ ?_ _⟩ <;> simp
  · split <;> simp

end Sys2Proof.Laws
end

