-- ==== Sys2Proof/Laws/Tick.lean ====
section
/-! SUPPORT. The overdue steps, the tick and the passing of a bit time: what each leaves as it is. -/

namespace Sys2Proof.Laws

open Sys2Proof.Machine Sys2Proof.Safety

/-! ## The passing of a bit time -/

theorem loadBit_fields (l : LoadCh) :
    l.bit = { l with conv := l.bit.conv, convTimer := l.bit.convTimer } := by
  unfold LoadCh.bit
  (repeat' split) <;> rfl

@[simp] theorem advance_fields (t : Travel) (us : Nat) :
    (t.advance us).counter = t.counter ∧ (t.advance us).latched = t.latched ∧
    (t.advance us).appliedAtTick = t.appliedAtTick ∧ (t.advance us).measure = t.measure ∧
    (t.advance us).gateOpen = t.gateOpen ∧ (t.advance us).gateTicks = t.gateTicks ∧
    (t.advance us).gateSum = t.gateSum ∧ (t.advance us).gateDue = t.gateDue ∧
    (t.advance us).regValue = t.regValue ∧ (t.advance us).regMode = t.regMode ∧
    (t.advance us).window = t.window ∧ (t.advance us).holdPosition = t.holdPosition ∧
    (t.advance us).applied = t.applied ∧ (t.advance us).tripped = t.tripped := by
  dsimp only [Travel.advance]
  split <;> simp

theorem bitTravel_applied (s : State) :
    (bitTravel s).travel.applied = s.travel.applied ∧ (bitTravel s).travel.tripped = s.travel.tripped := by
  unfold bitTravel
  split <;> simp

@[simp] theorem passBitTime_keeps (s : State) :
    (passBitTime s).lines = s.lines ∧ (passBitTime s).seq = s.seq ∧ (passBitTime s).testRec = s.testRec ∧
    (passBitTime s).follow = s.follow ∧ (passBitTime s).pair = s.pair ∧ (passBitTime s).budget = s.budget ∧
    (passBitTime s).stop = s.stop ∧ (passBitTime s).recorder = s.recorder ∧ (passBitTime s).free = s.free ∧
    (passBitTime s).pending = s.pending := by
  dsimp only [passBitTime]
  split <;> simp

/-- A bit time counts in the start interval timer alone. -/
theorem passBitTime_start (s : State) :
    (passBitTime s).start = { s.start with intervalTimer := (passBitTime s).start.intervalTimer } := by
  dsimp only [passBitTime]
  split <;> simp

/-- A bit time counts in the quiet time alone. -/
theorem passBitTime_link (s : State) :
    (passBitTime s).link = { s.link with quiet := (passBitTime s).link.quiet } := by
  dsimp only [passBitTime]
  split <;> simp

theorem passBitTime_travel (s : State) :
    (passBitTime s).travel.applied = s.travel.applied ∧ (passBitTime s).travel.tripped = s.travel.tripped := by
  dsimp only [passBitTime]
  split <;> simp [bitTravel_applied]

@[simp] theorem passBitTime_station (s : State) :
    (passBitTime s).start.role = s.start.role ∧ (passBitTime s).start.number = s.start.number ∧
    (passBitTime s).start.partner = s.start.partner ∧ (passBitTime s).start.strapFault = s.start.strapFault ∧
    (passBitTime s).start.config = s.start.config ∧
    (passBitTime s).start.intervalEnded = s.start.intervalEnded := by
  rw [passBitTime_start]
  simp

/-- The forcing conditions read nothing that a bit time changes. -/
theorem forced_passBitTime (s : State) : forced (passBitTime s) = forced s := by
  simp [forced, State.ownEntry, State.moveShare, State.isFollow, State.shareOf, State.phaseShare, State.curPhase,
    State.returnShare, passBitTime_travel s]

/-! ## The overdue steps -/

/-- A step taken at a tick leaves alone what its action leaves alone, but for the drive port. -/
theorem takeStep_proj {α : Type} (p : State → α) (hz : ∀ t, p (forceZero t) = p t) (due : Bool)
    (act : State → State) (ha : ∀ t, p (act t) = p t) (s : State) : p (takeStep due act s) = p s := by
  unfold takeStep
  split
  · rw [hz, ha]
  · rfl

@[simp] theorem dropMembers_keeps (s : State) :
    (dropMembers s).lines = s.lines ∧ (dropMembers s).clock = s.clock ∧ (dropMembers s).start = s.start ∧
    (dropMembers s).seq = s.seq ∧ (dropMembers s).testRec = s.testRec ∧ (dropMembers s).follow = s.follow ∧
    (dropMembers s).travel = s.travel ∧ (dropMembers s).pair = s.pair ∧ (dropMembers s).load = s.load ∧
    (dropMembers s).ext = s.ext ∧ (dropMembers s).budget = s.budget ∧ (dropMembers s).stop = s.stop ∧
    (dropMembers s).recorder = s.recorder ∧ (dropMembers s).free = s.free ∧
    (dropMembers s).pending = s.pending := by
  unfold dropMembers
  generalize List.range 15 = ns
  induction ns generalizing s with
  | nil => simp
  | cons n ns ih => simpa using ih (dropMember n s)

/-- What every overdue step leaves alone, and the drive port's forcing too, the settling leaves alone. -/
theorem settleAll_proj {α : Type} (p : State → α) (hz : ∀ t, p (forceZero t) = p t)
    (h1 : ∀ t, p (startIntervalEnd t.lines t) = p t) (h2 : ∀ t, p (closeExpired t) = p t)
    (h3 : ∀ t, p (identExpired t) = p t) (h4 : ∀ t, p (openExpired t) = p t)
    (h5 : ∀ t, p (gateClose t) = p t) (h6 : ∀ t, p (partnerLost t) = p t) (h7 : ∀ t, p (dropMembers t) = p t)
    (h8 : ∀ t, p (coldStartDue t) = p t) (h9 : ∀ t, p (gripsQualified t) = p t)
    (h10 : ∀ t, p (rangeSettled t) = p t) (h11 : ∀ t, p (rangeDown t) = p t)
    (h12 : ∀ t, p (tareJudged t) = p t) (h13 : ∀ t, p (takeGripsLow t) = p t) (h14 : ∀ t, p (settled t) = p t)
    (h15 : ∀ t, p (holdExpired t) = p t) (h16 : ∀ t, p (budgetExpired t) = p t)
    (h17 : ∀ t, p (endingExpired t) = p t) (h18 : ∀ t, p (followLossExpired t) = p t)
    (h19 : ∀ t, p (seatFound t) = p t) (h20 : ∀ t, p (seatLost t) = p t) (h21 : ∀ t, p (armOut t) = p t)
    (h22 : ∀ t, p (levelTimer t) = p t) (h23 : ∀ t, p (statusTimer t) = p t) (s : State) :
    p (settleAll s) = p s := by
  have e1 : ∀ t, p (settleTimers t) = p t := by
    intro t
    dsimp only [settleTimers]
    rw [takeStep_proj p hz _ _ h4, takeStep_proj p hz _ _ h3, takeStep_proj p hz _ _ h2,
      takeStep_proj p hz _ _ h1]
  have e2 : ∀ t, p (settleCounts t) = p t := by
    intro t
    dsimp only [settleCounts]
    exact takeStep_proj p hz _ _ (fun t => by rw [h9, h8, h7, h6, h5]) t
  have e3 : ∀ t, p (settleSample t) = p t := by
    intro t
    dsimp only [settleSample]
    exact takeStep_proj p hz _ _ (fun t => by rw [h14, h13, h12, h11, h10]) t
  have e4 : ∀ t, p (settleTimeouts t) = p t := by
    intro t
    dsimp only [settleTimeouts]
    exact takeStep_proj p hz _ _ (fun t => by rw [h18, h17, h16, h15]) t
  have e5 : ∀ t, p (settleLines t) = p t := by
    intro t
    dsimp only [settleLines]
    rw [takeStep_proj p hz _ _ h21, takeStep_proj p hz _ _ h20, takeStep_proj p hz _ _ h19]
  unfold settleAll
  rw [h23, h22, e5, e4, e3, e2, e1]

@[simp] theorem settleAll_keeps (s : State) :
    (settleAll s).clock = s.clock ∧ (settleAll s).free = s.free ∧ (settleAll s).pending = s.pending := by
  refine ⟨?_, ?_, ?_⟩ <;> refine settleAll_proj _ ?_ ?_ ?_ ?_ ?_ ?_ ?_ ?_ ?_ ?_ ?_ ?_ ?_ ?_ ?_ ?_ ?_ ?_ ?_ ?_ ?_ ?_ ?_ ?_ _
    <;> intro t <;> simp

/-- The settling leaves what the start interval's end does not change of the start-up unit. -/
@[simp] theorem settleAll_station (s : State) :
    (settleAll s).start.config = s.start.config ∧ (settleAll s).start.role = s.start.role ∧
    (settleAll s).start.number = s.start.number ∧ (settleAll s).start.partner = s.start.partner ∧
    (settleAll s).start.strapFault = s.start.strapFault ∧ (settleAll s).start.strapWord = s.start.strapWord := by
  have h : ∀ t : State, (startIntervalEnd t.lines t).start.config = t.start.config
      ∧ (startIntervalEnd t.lines t).start.role = t.start.role
      ∧ (startIntervalEnd t.lines t).start.number = t.start.number
      ∧ (startIntervalEnd t.lines t).start.partner = t.start.partner
      ∧ (startIntervalEnd t.lines t).start.strapFault = t.start.strapFault
      ∧ (startIntervalEnd t.lines t).start.strapWord = t.start.strapWord := by
    intro t
    dsimp only [startIntervalEnd]
    split <;> simp
  refine ⟨?_, ?_, ?_, ?_, ?_, ?_⟩
  · refine settleAll_proj (fun t => t.start.config) ?_ (fun t => (h t).1) ?_ ?_ ?_ ?_ ?_ ?_ ?_ ?_ ?_ ?_ ?_ ?_ ?_ ?_ ?_ ?_ ?_
      ?_ ?_ ?_ ?_ ?_ s <;> intro t <;> simp
  · refine settleAll_proj (fun t => t.start.role) ?_ (fun t => (h t).2.1) ?_ ?_ ?_ ?_ ?_ ?_ ?_ ?_ ?_ ?_ ?_ ?_ ?_ ?_ ?_ ?_ ?_
      ?_ ?_ ?_ ?_ ?_ s <;> intro t <;> simp
  · refine settleAll_proj (fun t => t.start.number) ?_ (fun t => (h t).2.2.1) ?_ ?_ ?_ ?_ ?_ ?_ ?_ ?_ ?_ ?_ ?_ ?_ ?_ ?_ ?_ ?_
      ?_ ?_ ?_ ?_ ?_ ?_ s <;> intro t <;> simp
  · refine settleAll_proj (fun t => t.start.partner) ?_ (fun t => (h t).2.2.2.1) ?_ ?_ ?_ ?_ ?_ ?_ ?_ ?_ ?_ ?_ ?_ ?_ ?_ ?_ ?_
      ?_ ?_ ?_ ?_ ?_ ?_ ?_ s <;> intro t <;> simp
  · refine settleAll_proj (fun t => t.start.strapFault) ?_ (fun t => (h t).2.2.2.2.1) ?_ ?_ ?_ ?_ ?_ ?_ ?_ ?_ ?_ ?_ ?_ ?_ ?_ ?_
      ?_ ?_ ?_ ?_ ?_ ?_ ?_ ?_ s <;> intro t <;> simp
  · refine settleAll_proj (fun t => t.start.strapWord) ?_ (fun t => (h t).2.2.2.2.2) ?_ ?_ ?_ ?_ ?_ ?_ ?_ ?_ ?_ ?_ ?_ ?_ ?_ ?_
      ?_ ?_ ?_ ?_ ?_ ?_ ?_ ?_ s <;> intro t <;> simp

end Sys2Proof.Laws
end

