-- ==== Sys2Proof/Laws/Fields.lean ====
section
/-! SUPPORT. Inside the blocks that a shared operation changes: the fields that it leaves as they are. -/

namespace Sys2Proof.Laws

open Sys2Proof.Machine

@[simp] theorem pushNotice_fields (k : NoticeKind) (s : State) :
    (pushNotice k s).link.line = s.link.line ∧ (pushNotice k s).link.taking = s.link.taking ∧
    (pushNotice k s).link.quiet = s.link.quiet ∧ (pushNotice k s).link.stop = s.link.stop ∧
    (pushNotice k s).link.grant = s.link.grant ∧ (pushNotice k s).link.level = s.link.level ∧
    (pushNotice k s).link.status = s.link.status ∧ (pushNotice k s).link.result = s.link.result ∧
    (pushNotice k s).link.curve = s.link.curve ∧ (pushNotice k s).link.inFlight = s.link.inFlight ∧
    (pushNotice k s).link.errCheck = s.link.errCheck ∧ (pushNotice k s).link.errLength = s.link.errLength ∧
    (pushNotice k s).link.errShort = s.link.errShort ∧ (pushNotice k s).link.presence = s.link.presence ∧
    (pushNotice k s).link.statusTimer = s.link.statusTimer := by
  dsimp only [pushNotice]
  (repeat' split) <;> simp

@[simp] theorem dropGrant_fields (s : State) :
    (dropGrant s).link.line = s.link.line ∧ (dropGrant s).link.taking = s.link.taking ∧
    (dropGrant s).link.quiet = s.link.quiet ∧ (dropGrant s).link.stop = s.link.stop ∧
    (dropGrant s).link.level = s.link.level ∧ (dropGrant s).link.status = s.link.status ∧
    (dropGrant s).link.result = s.link.result ∧ (dropGrant s).link.curve = s.link.curve ∧
    (dropGrant s).link.inFlight = s.link.inFlight ∧ (dropGrant s).link.notices = s.link.notices ∧
    (dropGrant s).link.lost = s.link.lost ∧ (dropGrant s).link.errCheck = s.link.errCheck ∧
    (dropGrant s).link.errLength = s.link.errLength ∧ (dropGrant s).link.errShort = s.link.errShort ∧
    (dropGrant s).link.presence = s.link.presence ∧ (dropGrant s).link.statusTimer = s.link.statusTimer ∧
    (dropGrant s).budget.table = s.budget.table ∧ (dropGrant s).budget.epoch = s.budget.epoch ∧
    (dropGrant s).budget.inStep = s.budget.inStep ∧ (dropGrant s).budget.requested = s.budget.requested ∧
    (dropGrant s).budget.reason = s.budget.reason ∧ (dropGrant s).budget.coldTimer = s.budget.coldTimer ∧
    (dropGrant s).budget.lastHeard = s.budget.lastHeard := by
  dsimp only [dropGrant]
  simp

@[simp] theorem placeGrant_fields (raise : Bool) (s : State) :
    (placeGrant raise s).link.line = s.link.line ∧ (placeGrant raise s).link.taking = s.link.taking ∧
    (placeGrant raise s).link.quiet = s.link.quiet ∧ (placeGrant raise s).link.stop = s.link.stop ∧
    (placeGrant raise s).link.level = s.link.level ∧ (placeGrant raise s).link.status = s.link.status ∧
    (placeGrant raise s).link.result = s.link.result ∧ (placeGrant raise s).link.curve = s.link.curve ∧
    (placeGrant raise s).link.inFlight = s.link.inFlight ∧ (placeGrant raise s).link.notices = s.link.notices ∧
    (placeGrant raise s).link.lost = s.link.lost ∧ (placeGrant raise s).link.errCheck = s.link.errCheck ∧
    (placeGrant raise s).link.errLength = s.link.errLength ∧ (placeGrant raise s).link.errShort = s.link.errShort ∧
    (placeGrant raise s).link.presence = s.link.presence ∧
    (placeGrant raise s).link.statusTimer = s.link.statusTimer ∧ (placeGrant raise s).budget.table = s.budget.table ∧
    (placeGrant raise s).budget.epoch = s.budget.epoch ∧ (placeGrant raise s).budget.inStep = s.budget.inStep ∧
    (placeGrant raise s).budget.requested = s.budget.requested ∧
    (placeGrant raise s).budget.reason = s.budget.reason ∧
    (placeGrant raise s).budget.coldTimer = s.budget.coldTimer ∧
    (placeGrant raise s).budget.lastHeard = s.budget.lastHeard := by
  dsimp only [placeGrant]
  simp

@[simp] theorem judgeRequest_fields (s : State) :
    (judgeRequest s).link.line = s.link.line ∧ (judgeRequest s).link.taking = s.link.taking ∧
    (judgeRequest s).link.quiet = s.link.quiet ∧ (judgeRequest s).link.stop = s.link.stop ∧
    (judgeRequest s).link.level = s.link.level ∧ (judgeRequest s).link.status = s.link.status ∧
    (judgeRequest s).link.result = s.link.result ∧ (judgeRequest s).link.curve = s.link.curve ∧
    (judgeRequest s).link.inFlight = s.link.inFlight ∧ (judgeRequest s).link.notices = s.link.notices ∧
    (judgeRequest s).link.lost = s.link.lost ∧ (judgeRequest s).link.errCheck = s.link.errCheck ∧
    (judgeRequest s).link.errLength = s.link.errLength ∧ (judgeRequest s).link.errShort = s.link.errShort ∧
    (judgeRequest s).link.presence = s.link.presence ∧ (judgeRequest s).link.statusTimer = s.link.statusTimer ∧
    (judgeRequest s).budget.table = s.budget.table ∧ (judgeRequest s).budget.epoch = s.budget.epoch ∧
    (judgeRequest s).budget.inStep = s.budget.inStep ∧ (judgeRequest s).budget.requested = s.budget.requested ∧
    (judgeRequest s).budget.reason = s.budget.reason ∧ (judgeRequest s).budget.coldTimer = s.budget.coldTimer ∧
    (judgeRequest s).budget.lastHeard = s.budget.lastHeard := by
  dsimp only [judgeRequest]
  (repeat' split) <;> simp

@[simp] theorem requestUnits_fields (units : Nat) (reason : GrantReason) (s : State) :
    (requestUnits units reason s).link.line = s.link.line ∧
    (requestUnits units reason s).link.taking = s.link.taking ∧
    (requestUnits units reason s).link.quiet = s.link.quiet ∧ (requestUnits units reason s).link.stop = s.link.stop ∧
    (requestUnits units reason s).link.level = s.link.level ∧
    (requestUnits units reason s).link.status = s.link.status ∧
    (requestUnits units reason s).link.result = s.link.result ∧
    (requestUnits units reason s).link.curve = s.link.curve ∧
    (requestUnits units reason s).link.inFlight = s.link.inFlight ∧
    (requestUnits units reason s).link.notices = s.link.notices ∧
    (requestUnits units reason s).link.lost = s.link.lost ∧
    (requestUnits units reason s).link.errCheck = s.link.errCheck ∧
    (requestUnits units reason s).link.errLength = s.link.errLength ∧
    (requestUnits units reason s).link.errShort = s.link.errShort ∧
    (requestUnits units reason s).link.presence = s.link.presence ∧
    (requestUnits units reason s).link.statusTimer = s.link.statusTimer ∧
    (requestUnits units reason s).budget.table = s.budget.table ∧
    (requestUnits units reason s).budget.epoch = s.budget.epoch ∧
    (requestUnits units reason s).budget.inStep = s.budget.inStep ∧
    (requestUnits units reason s).budget.coldTimer = s.budget.coldTimer ∧
    (requestUnits units reason s).budget.lastHeard = s.budget.lastHeard := by
  dsimp only [requestUnits]
  simp

@[simp] theorem rejudge_fields (s : State) :
    (rejudge s).link.line = s.link.line ∧ (rejudge s).link.taking = s.link.taking ∧
    (rejudge s).link.quiet = s.link.quiet ∧ (rejudge s).link.stop = s.link.stop ∧
    (rejudge s).link.level = s.link.level ∧ (rejudge s).link.status = s.link.status ∧
    (rejudge s).link.result = s.link.result ∧ (rejudge s).link.curve = s.link.curve ∧
    (rejudge s).link.inFlight = s.link.inFlight ∧ (rejudge s).link.notices = s.link.notices ∧
    (rejudge s).link.lost = s.link.lost ∧ (rejudge s).link.errCheck = s.link.errCheck ∧
    (rejudge s).link.errLength = s.link.errLength ∧ (rejudge s).link.errShort = s.link.errShort ∧
    (rejudge s).link.presence = s.link.presence ∧ (rejudge s).link.statusTimer = s.link.statusTimer ∧
    (rejudge s).budget.table = s.budget.table ∧ (rejudge s).budget.epoch = s.budget.epoch ∧
    (rejudge s).budget.inStep = s.budget.inStep ∧ (rejudge s).budget.requested = s.budget.requested ∧
    (rejudge s).budget.reason = s.budget.reason ∧ (rejudge s).budget.coldTimer = s.budget.coldTimer ∧
    (rejudge s).budget.lastHeard = s.budget.lastHeard := by
  dsimp only [rejudge]
  (repeat' split) <;> simp

@[simp] theorem withdrawRaise_fields (s : State) :
    (withdrawRaise s).link.line = s.link.line ∧ (withdrawRaise s).link.taking = s.link.taking ∧
    (withdrawRaise s).link.quiet = s.link.quiet ∧ (withdrawRaise s).link.stop = s.link.stop ∧
    (withdrawRaise s).link.level = s.link.level ∧ (withdrawRaise s).link.status = s.link.status ∧
    (withdrawRaise s).link.result = s.link.result ∧ (withdrawRaise s).link.curve = s.link.curve ∧
    (withdrawRaise s).link.inFlight = s.link.inFlight ∧ (withdrawRaise s).link.notices = s.link.notices ∧
    (withdrawRaise s).link.lost = s.link.lost ∧ (withdrawRaise s).link.errCheck = s.link.errCheck ∧
    (withdrawRaise s).link.errLength = s.link.errLength ∧ (withdrawRaise s).link.errShort = s.link.errShort ∧
    (withdrawRaise s).link.presence = s.link.presence ∧ (withdrawRaise s).link.statusTimer = s.link.statusTimer ∧
    (withdrawRaise s).budget.table = s.budget.table ∧ (withdrawRaise s).budget.epoch = s.budget.epoch ∧
    (withdrawRaise s).budget.inStep = s.budget.inStep ∧ (withdrawRaise s).budget.reason = s.budget.reason ∧
    (withdrawRaise s).budget.coldTimer = s.budget.coldTimer ∧
    (withdrawRaise s).budget.lastHeard = s.budget.lastHeard := by
  dsimp only [withdrawRaise]
  simp

@[simp] theorem enterStale_fields (s : State) :
    (enterStale s).link.line = s.link.line ∧ (enterStale s).link.taking = s.link.taking ∧
    (enterStale s).link.quiet = s.link.quiet ∧ (enterStale s).link.stop = s.link.stop ∧
    (enterStale s).link.level = s.link.level ∧ (enterStale s).link.status = s.link.status ∧
    (enterStale s).link.result = s.link.result ∧ (enterStale s).link.curve = s.link.curve ∧
    (enterStale s).link.inFlight = s.link.inFlight ∧ (enterStale s).link.notices = s.link.notices ∧
    (enterStale s).link.lost = s.link.lost ∧ (enterStale s).link.errCheck = s.link.errCheck ∧
    (enterStale s).link.errLength = s.link.errLength ∧ (enterStale s).link.errShort = s.link.errShort ∧
    (enterStale s).link.presence = s.link.presence ∧ (enterStale s).link.statusTimer = s.link.statusTimer ∧
    (enterStale s).budget.table = s.budget.table ∧ (enterStale s).budget.epoch = s.budget.epoch ∧
    (enterStale s).budget.requested = s.budget.requested ∧ (enterStale s).budget.reason = s.budget.reason ∧
    (enterStale s).budget.lastHeard = s.budget.lastHeard := by
  dsimp only [enterStale]
  (repeat' split) <;> simp

@[simp] theorem judgeHeader_fields (epoch : Byte) (senderInStep : Bool) (s : State) :
    (judgeHeader epoch senderInStep s).link.line = s.link.line ∧
    (judgeHeader epoch senderInStep s).link.taking = s.link.taking ∧
    (judgeHeader epoch senderInStep s).link.quiet = s.link.quiet ∧
    (judgeHeader epoch senderInStep s).link.stop = s.link.stop ∧
    (judgeHeader epoch senderInStep s).link.level = s.link.level ∧
    (judgeHeader epoch senderInStep s).link.status = s.link.status ∧
    (judgeHeader epoch senderInStep s).link.result = s.link.result ∧
    (judgeHeader epoch senderInStep s).link.curve = s.link.curve ∧
    (judgeHeader epoch senderInStep s).link.inFlight = s.link.inFlight ∧
    (judgeHeader epoch senderInStep s).link.notices = s.link.notices ∧
    (judgeHeader epoch senderInStep s).link.lost = s.link.lost ∧
    (judgeHeader epoch senderInStep s).link.errCheck = s.link.errCheck ∧
    (judgeHeader epoch senderInStep s).link.errLength = s.link.errLength ∧
    (judgeHeader epoch senderInStep s).link.errShort = s.link.errShort ∧
    (judgeHeader epoch senderInStep s).link.presence = s.link.presence ∧
    (judgeHeader epoch senderInStep s).link.statusTimer = s.link.statusTimer ∧
    (judgeHeader epoch senderInStep s).budget.table = s.budget.table ∧
    (judgeHeader epoch senderInStep s).budget.epoch = s.budget.epoch ∧
    (judgeHeader epoch senderInStep s).budget.requested = s.budget.requested ∧
    (judgeHeader epoch senderInStep s).budget.reason = s.budget.reason := by
  dsimp only [judgeHeader]
  (repeat' split) <;> simp

@[simp] theorem applyEntry_fields (n units : Nat) (headerEpoch : Byte) (s : State) :
    (applyEntry n units headerEpoch s).budget.inStep = s.budget.inStep ∧
    (applyEntry n units headerEpoch s).budget.lock = s.budget.lock ∧
    (applyEntry n units headerEpoch s).budget.requested = s.budget.requested ∧
    (applyEntry n units headerEpoch s).budget.reason = s.budget.reason ∧
    (applyEntry n units headerEpoch s).budget.coldTimer = s.budget.coldTimer ∧
    (applyEntry n units headerEpoch s).budget.lastHeard = s.budget.lastHeard := by
  dsimp only [applyEntry]
  (repeat' split) <;> simp

@[simp] theorem applyGrant_fields (n units : Nat) (headerEpoch : Byte) (s : State) :
    (applyGrant n units headerEpoch s).link.line = s.link.line ∧
    (applyGrant n units headerEpoch s).link.taking = s.link.taking ∧
    (applyGrant n units headerEpoch s).link.quiet = s.link.quiet ∧
    (applyGrant n units headerEpoch s).link.stop = s.link.stop ∧
    (applyGrant n units headerEpoch s).link.level = s.link.level ∧
    (applyGrant n units headerEpoch s).link.status = s.link.status ∧
    (applyGrant n units headerEpoch s).link.result = s.link.result ∧
    (applyGrant n units headerEpoch s).link.curve = s.link.curve ∧
    (applyGrant n units headerEpoch s).link.inFlight = s.link.inFlight ∧
    (applyGrant n units headerEpoch s).link.notices = s.link.notices ∧
    (applyGrant n units headerEpoch s).link.lost = s.link.lost ∧
    (applyGrant n units headerEpoch s).link.errCheck = s.link.errCheck ∧
    (applyGrant n units headerEpoch s).link.errLength = s.link.errLength ∧
    (applyGrant n units headerEpoch s).link.errShort = s.link.errShort ∧
    (applyGrant n units headerEpoch s).link.presence = s.link.presence ∧
    (applyGrant n units headerEpoch s).link.statusTimer = s.link.statusTimer ∧
    (applyGrant n units headerEpoch s).budget.requested = s.budget.requested ∧
    (applyGrant n units headerEpoch s).budget.reason = s.budget.reason ∧
    (applyGrant n units headerEpoch s).budget.lastHeard = s.budget.lastHeard := by
  dsimp only [applyGrant]
  (repeat' split) <;> simp

@[simp] theorem clearLock_fields (s : State) :
    (clearLock s).budget.table = s.budget.table ∧ (clearLock s).budget.epoch = s.budget.epoch ∧
    (clearLock s).budget.inStep = s.budget.inStep ∧ (clearLock s).budget.requested = s.budget.requested ∧
    (clearLock s).budget.reason = s.budget.reason ∧ (clearLock s).budget.coldTimer = s.budget.coldTimer ∧
    (clearLock s).budget.lastHeard = s.budget.lastHeard := by
  dsimp only [clearLock]
  simp

@[simp] theorem hearGrant_fields (sender units : Nat) (headerEpoch : Byte) (s : State) :
    (hearGrant sender units headerEpoch s).link.line = s.link.line ∧
    (hearGrant sender units headerEpoch s).link.taking = s.link.taking ∧
    (hearGrant sender units headerEpoch s).link.quiet = s.link.quiet ∧
    (hearGrant sender units headerEpoch s).link.stop = s.link.stop ∧
    (hearGrant sender units headerEpoch s).link.level = s.link.level ∧
    (hearGrant sender units headerEpoch s).link.status = s.link.status ∧
    (hearGrant sender units headerEpoch s).link.result = s.link.result ∧
    (hearGrant sender units headerEpoch s).link.curve = s.link.curve ∧
    (hearGrant sender units headerEpoch s).link.inFlight = s.link.inFlight ∧
    (hearGrant sender units headerEpoch s).link.notices = s.link.notices ∧
    (hearGrant sender units headerEpoch s).link.lost = s.link.lost ∧
    (hearGrant sender units headerEpoch s).link.errCheck = s.link.errCheck ∧
    (hearGrant sender units headerEpoch s).link.errLength = s.link.errLength ∧
    (hearGrant sender units headerEpoch s).link.errShort = s.link.errShort ∧
    (hearGrant sender units headerEpoch s).link.presence = s.link.presence ∧
    (hearGrant sender units headerEpoch s).link.statusTimer = s.link.statusTimer ∧
    (hearGrant sender units headerEpoch s).budget.requested = s.budget.requested ∧
    (hearGrant sender units headerEpoch s).budget.reason = s.budget.reason ∧
    (hearGrant sender units headerEpoch s).budget.lastHeard = s.budget.lastHeard := by
  dsimp only [hearGrant]
  simp

@[simp] theorem ownGrantComplete_fields (units : Nat) (headerEpoch : Byte) (s : State) :
    (ownGrantComplete units headerEpoch s).link.line = s.link.line ∧
    (ownGrantComplete units headerEpoch s).link.taking = s.link.taking ∧
    (ownGrantComplete units headerEpoch s).link.quiet = s.link.quiet ∧
    (ownGrantComplete units headerEpoch s).link.stop = s.link.stop ∧
    (ownGrantComplete units headerEpoch s).link.level = s.link.level ∧
    (ownGrantComplete units headerEpoch s).link.status = s.link.status ∧
    (ownGrantComplete units headerEpoch s).link.result = s.link.result ∧
    (ownGrantComplete units headerEpoch s).link.curve = s.link.curve ∧
    (ownGrantComplete units headerEpoch s).link.inFlight = s.link.inFlight ∧
    (ownGrantComplete units headerEpoch s).link.notices = s.link.notices ∧
    (ownGrantComplete units headerEpoch s).link.lost = s.link.lost ∧
    (ownGrantComplete units headerEpoch s).link.errCheck = s.link.errCheck ∧
    (ownGrantComplete units headerEpoch s).link.errLength = s.link.errLength ∧
    (ownGrantComplete units headerEpoch s).link.errShort = s.link.errShort ∧
    (ownGrantComplete units headerEpoch s).link.presence = s.link.presence ∧
    (ownGrantComplete units headerEpoch s).link.statusTimer = s.link.statusTimer ∧
    (ownGrantComplete units headerEpoch s).budget.requested = s.budget.requested ∧
    (ownGrantComplete units headerEpoch s).budget.reason = s.budget.reason ∧
    (ownGrantComplete units headerEpoch s).budget.lastHeard = s.budget.lastHeard := by
  dsimp only [ownGrantComplete]
  simp

@[simp] theorem ownGrantAbandoned_fields (s : State) :
    (ownGrantAbandoned s).link.line = s.link.line ∧ (ownGrantAbandoned s).link.taking = s.link.taking ∧
    (ownGrantAbandoned s).link.quiet = s.link.quiet ∧ (ownGrantAbandoned s).link.stop = s.link.stop ∧
    (ownGrantAbandoned s).link.level = s.link.level ∧ (ownGrantAbandoned s).link.status = s.link.status ∧
    (ownGrantAbandoned s).link.result = s.link.result ∧ (ownGrantAbandoned s).link.curve = s.link.curve ∧
    (ownGrantAbandoned s).link.inFlight = s.link.inFlight ∧ (ownGrantAbandoned s).link.notices = s.link.notices ∧
    (ownGrantAbandoned s).link.lost = s.link.lost ∧ (ownGrantAbandoned s).link.errCheck = s.link.errCheck ∧
    (ownGrantAbandoned s).link.errLength = s.link.errLength ∧ (ownGrantAbandoned s).link.errShort = s.link.errShort ∧
    (ownGrantAbandoned s).link.presence = s.link.presence ∧
    (ownGrantAbandoned s).link.statusTimer = s.link.statusTimer ∧
    (ownGrantAbandoned s).budget.table = s.budget.table ∧ (ownGrantAbandoned s).budget.epoch = s.budget.epoch ∧
    (ownGrantAbandoned s).budget.inStep = s.budget.inStep ∧
    (ownGrantAbandoned s).budget.requested = s.budget.requested ∧
    (ownGrantAbandoned s).budget.reason = s.budget.reason ∧
    (ownGrantAbandoned s).budget.coldTimer = s.budget.coldTimer ∧
    (ownGrantAbandoned s).budget.lastHeard = s.budget.lastHeard := by
  dsimp only [ownGrantAbandoned]
  simp

@[simp] theorem adopt_fields (entries : List Nat) (epoch : Byte) (s : State) :
    (adopt entries epoch s).link.line = s.link.line ∧ (adopt entries epoch s).link.taking = s.link.taking ∧
    (adopt entries epoch s).link.quiet = s.link.quiet ∧ (adopt entries epoch s).link.stop = s.link.stop ∧
    (adopt entries epoch s).link.level = s.link.level ∧ (adopt entries epoch s).link.status = s.link.status ∧
    (adopt entries epoch s).link.result = s.link.result ∧ (adopt entries epoch s).link.curve = s.link.curve ∧
    (adopt entries epoch s).link.inFlight = s.link.inFlight ∧ (adopt entries epoch s).link.notices = s.link.notices ∧
    (adopt entries epoch s).link.lost = s.link.lost ∧ (adopt entries epoch s).link.errCheck = s.link.errCheck ∧
    (adopt entries epoch s).link.errLength = s.link.errLength ∧
    (adopt entries epoch s).link.errShort = s.link.errShort ∧
    (adopt entries epoch s).link.presence = s.link.presence ∧
    (adopt entries epoch s).link.statusTimer = s.link.statusTimer ∧
    (adopt entries epoch s).budget.requested = s.budget.requested ∧
    (adopt entries epoch s).budget.reason = s.budget.reason ∧
    (adopt entries epoch s).budget.lastHeard = s.budget.lastHeard := by
  dsimp only [adopt]
  (repeat' split) <;> simp

@[simp] theorem refreshStatus_fields (s : State) :
    (refreshStatus s).link.line = s.link.line ∧ (refreshStatus s).link.taking = s.link.taking ∧
    (refreshStatus s).link.quiet = s.link.quiet ∧ (refreshStatus s).link.stop = s.link.stop ∧
    (refreshStatus s).link.grant = s.link.grant ∧ (refreshStatus s).link.level = s.link.level ∧
    (refreshStatus s).link.result = s.link.result ∧ (refreshStatus s).link.curve = s.link.curve ∧
    (refreshStatus s).link.inFlight = s.link.inFlight ∧ (refreshStatus s).link.notices = s.link.notices ∧
    (refreshStatus s).link.lost = s.link.lost ∧ (refreshStatus s).link.errCheck = s.link.errCheck ∧
    (refreshStatus s).link.errLength = s.link.errLength ∧ (refreshStatus s).link.errShort = s.link.errShort ∧
    (refreshStatus s).link.presence = s.link.presence ∧
    (refreshStatus s).link.statusTimer = s.link.statusTimer := by
  rw [refreshStatus_link]
  simp

@[simp] theorem recover_fields (entries : List Nat) (epoch : Byte) (s : State) :
    (recover entries epoch s).link.line = s.link.line ∧ (recover entries epoch s).link.taking = s.link.taking ∧
    (recover entries epoch s).link.quiet = s.link.quiet ∧ (recover entries epoch s).link.stop = s.link.stop ∧
    (recover entries epoch s).link.grant = (adopt entries epoch s).link.grant ∧
    (recover entries epoch s).link.level = s.link.level ∧ (recover entries epoch s).link.result = s.link.result ∧
    (recover entries epoch s).link.curve = s.link.curve ∧
    (recover entries epoch s).link.inFlight = s.link.inFlight ∧
    (recover entries epoch s).link.notices = s.link.notices ∧ (recover entries epoch s).link.lost = s.link.lost ∧
    (recover entries epoch s).link.errCheck = s.link.errCheck ∧
    (recover entries epoch s).link.errLength = s.link.errLength ∧
    (recover entries epoch s).link.errShort = s.link.errShort ∧
    (recover entries epoch s).link.presence = s.link.presence ∧
    (recover entries epoch s).link.statusTimer = s.link.statusTimer := by
  dsimp only [recover]
  split <;> simp

@[simp] theorem coldStart_fields (s : State) :
    (coldStart s).link.line = s.link.line ∧ (coldStart s).link.taking = s.link.taking ∧
    (coldStart s).link.quiet = s.link.quiet ∧ (coldStart s).link.stop = s.link.stop ∧
    (coldStart s).link.level = s.link.level ∧ (coldStart s).link.status = s.link.status ∧
    (coldStart s).link.result = s.link.result ∧ (coldStart s).link.curve = s.link.curve ∧
    (coldStart s).link.inFlight = s.link.inFlight ∧ (coldStart s).link.notices = s.link.notices ∧
    (coldStart s).link.lost = s.link.lost ∧ (coldStart s).link.errCheck = s.link.errCheck ∧
    (coldStart s).link.errLength = s.link.errLength ∧ (coldStart s).link.errShort = s.link.errShort ∧
    (coldStart s).link.presence = s.link.presence ∧ (coldStart s).link.statusTimer = s.link.statusTimer ∧
    (coldStart s).budget.requested = s.budget.requested ∧ (coldStart s).budget.reason = s.budget.reason ∧
    (coldStart s).budget.lastHeard = s.budget.lastHeard := by
  dsimp only [coldStart]
  (repeat' split) <;> simp

@[simp] theorem judgeCurve_fields (s : State) :
    (judgeCurve s).link.line = s.link.line ∧ (judgeCurve s).link.taking = s.link.taking ∧
    (judgeCurve s).link.quiet = s.link.quiet ∧ (judgeCurve s).link.stop = s.link.stop ∧
    (judgeCurve s).link.grant = s.link.grant ∧ (judgeCurve s).link.level = s.link.level ∧
    (judgeCurve s).link.status = s.link.status ∧ (judgeCurve s).link.result = s.link.result ∧
    (judgeCurve s).link.inFlight = s.link.inFlight ∧ (judgeCurve s).link.notices = s.link.notices ∧
    (judgeCurve s).link.lost = s.link.lost ∧ (judgeCurve s).link.errCheck = s.link.errCheck ∧
    (judgeCurve s).link.errLength = s.link.errLength ∧ (judgeCurve s).link.errShort = s.link.errShort ∧
    (judgeCurve s).link.presence = s.link.presence ∧ (judgeCurve s).link.statusTimer = s.link.statusTimer := by
  dsimp only [judgeCurve]
  (repeat' split) <;> simp

@[simp] theorem placeResult_fields (t : TestRecord) (s : State) :
    (placeResult t s).link.line = s.link.line ∧ (placeResult t s).link.taking = s.link.taking ∧
    (placeResult t s).link.quiet = s.link.quiet ∧ (placeResult t s).link.stop = s.link.stop ∧
    (placeResult t s).link.grant = s.link.grant ∧ (placeResult t s).link.level = s.link.level ∧
    (placeResult t s).link.status = s.link.status ∧ (placeResult t s).link.curve = s.link.curve ∧
    (placeResult t s).link.inFlight = s.link.inFlight ∧ (placeResult t s).link.notices = s.link.notices ∧
    (placeResult t s).link.lost = s.link.lost ∧ (placeResult t s).link.errCheck = s.link.errCheck ∧
    (placeResult t s).link.errLength = s.link.errLength ∧ (placeResult t s).link.errShort = s.link.errShort ∧
    (placeResult t s).link.presence = s.link.presence ∧ (placeResult t s).link.statusTimer = s.link.statusTimer ∧
    (placeResult t s).recorder.collection = s.recorder.collection ∧
    (placeResult t s).recorder.store = s.recorder.store ∧ (placeResult t s).recorder.offered = s.recorder.offered ∧
    (placeResult t s).recorder.lost = s.recorder.lost ∧ (placeResult t s).recorder.sent = s.recorder.sent ∧
    (placeResult t s).recorder.decCount = s.recorder.decCount ∧
    (placeResult t s).recorder.runBegun = s.recorder.runBegun := by
  dsimp only [placeResult]
  (repeat' split) <;> simp

@[simp] theorem closeCollection_fields (s : State) :
    (closeCollection s).link.line = s.link.line ∧ (closeCollection s).link.taking = s.link.taking ∧
    (closeCollection s).link.quiet = s.link.quiet ∧ (closeCollection s).link.stop = s.link.stop ∧
    (closeCollection s).link.grant = s.link.grant ∧ (closeCollection s).link.level = s.link.level ∧
    (closeCollection s).link.status = s.link.status ∧ (closeCollection s).link.inFlight = s.link.inFlight ∧
    (closeCollection s).link.notices = s.link.notices ∧ (closeCollection s).link.lost = s.link.lost ∧
    (closeCollection s).link.errCheck = s.link.errCheck ∧ (closeCollection s).link.errLength = s.link.errLength ∧
    (closeCollection s).link.errShort = s.link.errShort ∧ (closeCollection s).link.presence = s.link.presence ∧
    (closeCollection s).link.statusTimer = s.link.statusTimer ∧
    (closeCollection s).recorder.store = s.recorder.store ∧
    (closeCollection s).recorder.offered = s.recorder.offered ∧ (closeCollection s).recorder.lost = s.recorder.lost ∧
    (closeCollection s).recorder.sent = s.recorder.sent ∧
    (closeCollection s).recorder.decCount = s.recorder.decCount ∧
    (closeCollection s).recorder.runBegun = s.recorder.runBegun := by
  dsimp only [closeCollection]
  (repeat' split) <;> simp

@[simp] theorem curveComplete_fields (k : Nat) (disowned : Bool) (s : State) :
    (curveComplete k disowned s).link.line = s.link.line ∧ (curveComplete k disowned s).link.taking = s.link.taking ∧
    (curveComplete k disowned s).link.quiet = s.link.quiet ∧ (curveComplete k disowned s).link.stop = s.link.stop ∧
    (curveComplete k disowned s).link.grant = s.link.grant ∧ (curveComplete k disowned s).link.level = s.link.level ∧
    (curveComplete k disowned s).link.status = s.link.status ∧
    (curveComplete k disowned s).link.result = s.link.result ∧
    (curveComplete k disowned s).link.inFlight = s.link.inFlight ∧
    (curveComplete k disowned s).link.notices = s.link.notices ∧
    (curveComplete k disowned s).link.lost = s.link.lost ∧
    (curveComplete k disowned s).link.errCheck = s.link.errCheck ∧
    (curveComplete k disowned s).link.errLength = s.link.errLength ∧
    (curveComplete k disowned s).link.errShort = s.link.errShort ∧
    (curveComplete k disowned s).link.presence = s.link.presence ∧
    (curveComplete k disowned s).link.statusTimer = s.link.statusTimer ∧
    (curveComplete k disowned s).recorder.collection = s.recorder.collection ∧
    (curveComplete k disowned s).recorder.offered = s.recorder.offered ∧
    (curveComplete k disowned s).recorder.lost = s.recorder.lost ∧
    (curveComplete k disowned s).recorder.decCount = s.recorder.decCount ∧
    (curveComplete k disowned s).recorder.runBegun = s.recorder.runBegun ∧
    (curveComplete k disowned s).recorder.waiting = s.recorder.waiting := by
  dsimp only [curveComplete]
  (repeat' split) <;> simp

@[simp] theorem resultComplete_fields (s : State) :
    (resultComplete s).link.line = s.link.line ∧ (resultComplete s).link.taking = s.link.taking ∧
    (resultComplete s).link.quiet = s.link.quiet ∧ (resultComplete s).link.stop = s.link.stop ∧
    (resultComplete s).link.grant = s.link.grant ∧ (resultComplete s).link.level = s.link.level ∧
    (resultComplete s).link.status = s.link.status ∧ (resultComplete s).link.curve = s.link.curve ∧
    (resultComplete s).link.inFlight = s.link.inFlight ∧ (resultComplete s).link.notices = s.link.notices ∧
    (resultComplete s).link.lost = s.link.lost ∧ (resultComplete s).link.errCheck = s.link.errCheck ∧
    (resultComplete s).link.errLength = s.link.errLength ∧ (resultComplete s).link.errShort = s.link.errShort ∧
    (resultComplete s).link.presence = s.link.presence ∧ (resultComplete s).link.statusTimer = s.link.statusTimer ∧
    (resultComplete s).recorder.collection = s.recorder.collection ∧
    (resultComplete s).recorder.store = s.recorder.store ∧ (resultComplete s).recorder.offered = s.recorder.offered ∧
    (resultComplete s).recorder.lost = s.recorder.lost ∧ (resultComplete s).recorder.sent = s.recorder.sent ∧
    (resultComplete s).recorder.decCount = s.recorder.decCount ∧
    (resultComplete s).recorder.runBegun = s.recorder.runBegun := by
  dsimp only [resultComplete]
  (repeat' split) <;> simp

@[simp] theorem storeSample_fields (r : SampleRec) (s : State) :
    (storeSample r s).link.line = s.link.line ∧ (storeSample r s).link.taking = s.link.taking ∧
    (storeSample r s).link.quiet = s.link.quiet ∧ (storeSample r s).link.stop = s.link.stop ∧
    (storeSample r s).link.grant = s.link.grant ∧ (storeSample r s).link.level = s.link.level ∧
    (storeSample r s).link.status = s.link.status ∧ (storeSample r s).link.result = s.link.result ∧
    (storeSample r s).link.inFlight = s.link.inFlight ∧ (storeSample r s).link.notices = s.link.notices ∧
    (storeSample r s).link.lost = s.link.lost ∧ (storeSample r s).link.errCheck = s.link.errCheck ∧
    (storeSample r s).link.errLength = s.link.errLength ∧ (storeSample r s).link.errShort = s.link.errShort ∧
    (storeSample r s).link.presence = s.link.presence ∧ (storeSample r s).link.statusTimer = s.link.statusTimer ∧
    (storeSample r s).recorder.collection = s.recorder.collection ∧
    (storeSample r s).recorder.sent = s.recorder.sent ∧ (storeSample r s).recorder.runBegun = s.recorder.runBegun ∧
    (storeSample r s).recorder.waiting = s.recorder.waiting := by
  dsimp only [storeSample]
  (repeat' split) <;> simp

@[simp] theorem offerSample_fields (r : SampleRec) (s : State) :
    (offerSample r s).link.line = s.link.line ∧ (offerSample r s).link.taking = s.link.taking ∧
    (offerSample r s).link.quiet = s.link.quiet ∧ (offerSample r s).link.stop = s.link.stop ∧
    (offerSample r s).link.grant = s.link.grant ∧ (offerSample r s).link.level = s.link.level ∧
    (offerSample r s).link.status = s.link.status ∧ (offerSample r s).link.result = s.link.result ∧
    (offerSample r s).link.inFlight = s.link.inFlight ∧ (offerSample r s).link.notices = s.link.notices ∧
    (offerSample r s).link.lost = s.link.lost ∧ (offerSample r s).link.errCheck = s.link.errCheck ∧
    (offerSample r s).link.errLength = s.link.errLength ∧ (offerSample r s).link.errShort = s.link.errShort ∧
    (offerSample r s).link.presence = s.link.presence ∧ (offerSample r s).link.statusTimer = s.link.statusTimer ∧
    (offerSample r s).recorder.collection = s.recorder.collection ∧
    (offerSample r s).recorder.sent = s.recorder.sent ∧ (offerSample r s).recorder.runBegun = s.recorder.runBegun ∧
    (offerSample r s).recorder.waiting = s.recorder.waiting := by
  dsimp only [offerSample]
  (repeat' split) <;> simp

@[simp] theorem switchNotice_fields (cause : SwitchCause) (s : State) :
    (switchNotice cause s).link.line = s.link.line ∧ (switchNotice cause s).link.taking = s.link.taking ∧
    (switchNotice cause s).link.quiet = s.link.quiet ∧ (switchNotice cause s).link.stop = s.link.stop ∧
    (switchNotice cause s).link.grant = s.link.grant ∧ (switchNotice cause s).link.level = s.link.level ∧
    (switchNotice cause s).link.status = s.link.status ∧ (switchNotice cause s).link.result = s.link.result ∧
    (switchNotice cause s).link.curve = s.link.curve ∧ (switchNotice cause s).link.inFlight = s.link.inFlight ∧
    (switchNotice cause s).link.errCheck = s.link.errCheck ∧
    (switchNotice cause s).link.errLength = s.link.errLength ∧
    (switchNotice cause s).link.errShort = s.link.errShort ∧ (switchNotice cause s).link.presence = s.link.presence ∧
    (switchNotice cause s).link.statusTimer = s.link.statusTimer := by
  dsimp only [switchNotice]
  (repeat' split) <;> simp

@[simp] theorem switchover_fields (cause : SwitchCause) (s : State) :
    (switchover cause s).ext.idRec = s.ext.idRec ∧ (switchover cause s).ext.strainCount = s.ext.strainCount ∧
    (switchover cause s).ext.lastReading = s.ext.lastReading ∧ (switchover cause s).ext.zero = s.ext.zero ∧
    (switchover cause s).ext.pair = s.ext.pair ∧ (switchover cause s).ext.slip = s.ext.slip ∧
    (switchover cause s).ext.attachWaits = s.ext.attachWaits ∧ (switchover cause s).link.line = s.link.line ∧
    (switchover cause s).link.taking = s.link.taking ∧ (switchover cause s).link.quiet = s.link.quiet ∧
    (switchover cause s).link.stop = s.link.stop ∧ (switchover cause s).link.grant = s.link.grant ∧
    (switchover cause s).link.level = s.link.level ∧ (switchover cause s).link.status = s.link.status ∧
    (switchover cause s).link.result = s.link.result ∧ (switchover cause s).link.curve = s.link.curve ∧
    (switchover cause s).link.inFlight = s.link.inFlight ∧ (switchover cause s).link.errCheck = s.link.errCheck ∧
    (switchover cause s).link.errLength = s.link.errLength ∧ (switchover cause s).link.errShort = s.link.errShort ∧
    (switchover cause s).link.presence = s.link.presence ∧
    (switchover cause s).link.statusTimer = s.link.statusTimer := by
  dsimp only [switchover]
  (repeat' split) <;> simp [Ext.opening]

@[simp] theorem removeArm_fields (s : State) :
    (removeArm s).ext.idRec = s.ext.idRec ∧ (removeArm s).ext.strainCount = s.ext.strainCount ∧
    (removeArm s).ext.lastReading = s.ext.lastReading ∧ (removeArm s).ext.zero = s.ext.zero ∧
    (removeArm s).ext.pair = s.ext.pair ∧ (removeArm s).ext.slip = s.ext.slip ∧
    (removeArm s).ext.attachWaits = s.ext.attachWaits ∧ (removeArm s).link.line = s.link.line ∧
    (removeArm s).link.taking = s.link.taking ∧ (removeArm s).link.quiet = s.link.quiet ∧
    (removeArm s).link.stop = s.link.stop ∧ (removeArm s).link.grant = s.link.grant ∧
    (removeArm s).link.level = s.link.level ∧ (removeArm s).link.status = s.link.status ∧
    (removeArm s).link.result = s.link.result ∧ (removeArm s).link.curve = s.link.curve ∧
    (removeArm s).link.inFlight = s.link.inFlight ∧ (removeArm s).link.errCheck = s.link.errCheck ∧
    (removeArm s).link.errLength = s.link.errLength ∧ (removeArm s).link.errShort = s.link.errShort ∧
    (removeArm s).link.presence = s.link.presence ∧ (removeArm s).link.statusTimer = s.link.statusTimer := by
  dsimp only [removeArm]
  (repeat' split) <;> simp

@[simp] theorem openArm_fields (cause : SwitchCause) (s : State) :
    (openArm cause s).ext.idRec = s.ext.idRec ∧ (openArm cause s).ext.strainCount = s.ext.strainCount ∧
    (openArm cause s).ext.lastReading = s.ext.lastReading ∧ (openArm cause s).ext.zero = s.ext.zero ∧
    (openArm cause s).ext.pair = s.ext.pair ∧ (openArm cause s).ext.slip = s.ext.slip ∧
    (openArm cause s).link.line = s.link.line ∧ (openArm cause s).link.taking = s.link.taking ∧
    (openArm cause s).link.quiet = s.link.quiet ∧ (openArm cause s).link.stop = s.link.stop ∧
    (openArm cause s).link.grant = s.link.grant ∧ (openArm cause s).link.level = s.link.level ∧
    (openArm cause s).link.status = s.link.status ∧ (openArm cause s).link.result = s.link.result ∧
    (openArm cause s).link.curve = s.link.curve ∧ (openArm cause s).link.inFlight = s.link.inFlight ∧
    (openArm cause s).link.errCheck = s.link.errCheck ∧ (openArm cause s).link.errLength = s.link.errLength ∧
    (openArm cause s).link.errShort = s.link.errShort ∧ (openArm cause s).link.presence = s.link.presence ∧
    (openArm cause s).link.statusTimer = s.link.statusTimer := by
  dsimp only [openArm]
  (repeat' split) <;> simp [Ext.opening]

@[simp] theorem examineSample_fields (v : ExtView) (r : SampleRec) (s : State) :
    (examineSample v r s).ext.idRec = s.ext.idRec ∧ (examineSample v r s).ext.strainCount = s.ext.strainCount ∧
    (examineSample v r s).ext.lastReading = s.ext.lastReading ∧ (examineSample v r s).ext.zero = s.ext.zero ∧
    (examineSample v r s).ext.pair = s.ext.pair ∧ (examineSample v r s).ext.attachWaits = s.ext.attachWaits ∧
    (examineSample v r s).link.line = s.link.line ∧ (examineSample v r s).link.taking = s.link.taking ∧
    (examineSample v r s).link.quiet = s.link.quiet ∧ (examineSample v r s).link.stop = s.link.stop ∧
    (examineSample v r s).link.grant = s.link.grant ∧ (examineSample v r s).link.level = s.link.level ∧
    (examineSample v r s).link.status = s.link.status ∧ (examineSample v r s).link.result = s.link.result ∧
    (examineSample v r s).link.curve = s.link.curve ∧ (examineSample v r s).link.inFlight = s.link.inFlight ∧
    (examineSample v r s).link.errCheck = s.link.errCheck ∧ (examineSample v r s).link.errLength = s.link.errLength ∧
    (examineSample v r s).link.errShort = s.link.errShort ∧ (examineSample v r s).link.presence = s.link.presence ∧
    (examineSample v r s).link.statusTimer = s.link.statusTimer := by
  dsimp only [examineSample, joinSlip]
  (repeat' split) <;> simp

@[simp] theorem gotoState_fields (st : SeqState) (s : State) :
    (gotoState st s).seq.order = s.seq.order ∧ (gotoState st s).seq.phase = s.seq.phase ∧
    (gotoState st s).seq.phaseBegun = s.seq.phaseBegun ∧ (gotoState st s).seq.phaseTime = s.seq.phaseTime ∧
    (gotoState st s).seq.refValue = s.seq.refValue ∧ (gotoState st s).seq.holdCount = s.seq.holdCount ∧
    (gotoState st s).seq.runSamples = s.seq.runSamples ∧ (gotoState st s).seq.testZero = s.seq.testZero ∧
    (gotoState st s).seq.returnCancelled = s.seq.returnCancelled := by
  dsimp only [gotoState]
  simp [Seq.goto]

@[simp] theorem abandonTare_fields (s : State) :
    (abandonTare s).load.conv = s.load.conv ∧ (abandonTare s).load.convTimer = s.load.convTimer ∧
    (abandonTare s).load.reading = s.load.reading ∧ (abandonTare s).load.nextIndex = s.load.nextIndex ∧
    (abandonTare s).load.last = s.load.last ∧ (abandonTare s).load.statusLoad = s.load.statusLoad ∧
    (abandonTare s).load.range = s.load.range ∧ (abandonTare s).load.pendingRange = s.load.pendingRange ∧
    (abandonTare s).load.rangeMode = s.load.rangeMode ∧ (abandonTare s).load.settleCount = s.load.settleCount ∧
    (abandonTare s).load.settling = s.load.settling ∧ (abandonTare s).load.downCount = s.load.downCount ∧
    (abandonTare s).load.tareOffset = s.load.tareOffset ∧ (abandonTare s).load.overCheck = s.load.overCheck ∧
    (abandonTare s).load.overPrev = s.load.overPrev ∧ (abandonTare s).load.spanOpen = s.load.spanOpen ∧
    (abandonTare s).load.peak = s.load.peak ∧ (abandonTare s).load.breakArmed = s.load.breakArmed ∧
    (abandonTare s).load.breakFound = s.load.breakFound ∧ (abandonTare s).load.yieldSearch = s.load.yieldSearch := by
  dsimp only [abandonTare]
  simp

@[simp] theorem closeSpan_fields (s : State) :
    (closeSpan s).load.conv = s.load.conv ∧ (closeSpan s).load.convTimer = s.load.convTimer ∧
    (closeSpan s).load.reading = s.load.reading ∧ (closeSpan s).load.nextIndex = s.load.nextIndex ∧
    (closeSpan s).load.last = s.load.last ∧ (closeSpan s).load.statusLoad = s.load.statusLoad ∧
    (closeSpan s).load.range = s.load.range ∧ (closeSpan s).load.pendingRange = s.load.pendingRange ∧
    (closeSpan s).load.rangeMode = s.load.rangeMode ∧ (closeSpan s).load.settleCount = s.load.settleCount ∧
    (closeSpan s).load.settling = s.load.settling ∧ (closeSpan s).load.downCount = s.load.downCount ∧
    (closeSpan s).load.tareOffset = s.load.tareOffset ∧ (closeSpan s).load.tare = s.load.tare ∧
    (closeSpan s).load.overCheck = s.load.overCheck ∧ (closeSpan s).load.overPrev = s.load.overPrev ∧
    (closeSpan s).load.peak = s.load.peak ∧ (closeSpan s).load.breakArmed = s.load.breakArmed ∧
    (closeSpan s).load.breakFound = s.load.breakFound := by
  dsimp only [closeSpan]
  (repeat' split) <;> simp

@[simp] theorem endTest_fields (outcome : TestOutcome) (s : State) :
    (endTest outcome s).load.conv = s.load.conv ∧ (endTest outcome s).load.convTimer = s.load.convTimer ∧
    (endTest outcome s).load.reading = s.load.reading ∧ (endTest outcome s).load.nextIndex = s.load.nextIndex ∧
    (endTest outcome s).load.last = s.load.last ∧ (endTest outcome s).load.statusLoad = s.load.statusLoad ∧
    (endTest outcome s).load.range = s.load.range ∧ (endTest outcome s).load.pendingRange = s.load.pendingRange ∧
    (endTest outcome s).load.rangeMode = s.load.rangeMode ∧
    (endTest outcome s).load.settleCount = s.load.settleCount ∧ (endTest outcome s).load.settling = s.load.settling ∧
    (endTest outcome s).load.downCount = s.load.downCount ∧ (endTest outcome s).load.tareOffset = s.load.tareOffset ∧
    (endTest outcome s).load.tare = s.load.tare ∧ (endTest outcome s).load.overCheck = s.load.overCheck ∧
    (endTest outcome s).load.overPrev = s.load.overPrev ∧ (endTest outcome s).load.peak = s.load.peak ∧
    (endTest outcome s).load.breakArmed = s.load.breakArmed ∧
    (endTest outcome s).load.breakFound = s.load.breakFound ∧ (endTest outcome s).link.line = s.link.line ∧
    (endTest outcome s).link.taking = s.link.taking ∧ (endTest outcome s).link.quiet = s.link.quiet ∧
    (endTest outcome s).link.stop = s.link.stop ∧ (endTest outcome s).link.grant = s.link.grant ∧
    (endTest outcome s).link.level = s.link.level ∧ (endTest outcome s).link.status = s.link.status ∧
    (endTest outcome s).link.inFlight = s.link.inFlight ∧ (endTest outcome s).link.errCheck = s.link.errCheck ∧
    (endTest outcome s).link.errLength = s.link.errLength ∧ (endTest outcome s).link.errShort = s.link.errShort ∧
    (endTest outcome s).link.presence = s.link.presence ∧ (endTest outcome s).link.statusTimer = s.link.statusTimer ∧
    (endTest outcome s).recorder.store = s.recorder.store ∧
    (endTest outcome s).recorder.offered = s.recorder.offered ∧ (endTest outcome s).recorder.lost = s.recorder.lost ∧
    (endTest outcome s).recorder.sent = s.recorder.sent ∧
    (endTest outcome s).recorder.decCount = s.recorder.decCount ∧
    (endTest outcome s).recorder.runBegun = s.recorder.runBegun := by
  dsimp only [endTest]
  simp

@[simp] theorem haltSequencer_fields (st : SeqState) (outcome : TestOutcome) (s : State) :
    (haltSequencer st outcome s).seq.order = s.seq.order ∧ (haltSequencer st outcome s).seq.phase = s.seq.phase ∧
    (haltSequencer st outcome s).seq.phaseBegun = s.seq.phaseBegun ∧
    (haltSequencer st outcome s).seq.phaseTime = s.seq.phaseTime ∧
    (haltSequencer st outcome s).seq.refValue = s.seq.refValue ∧
    (haltSequencer st outcome s).seq.holdCount = s.seq.holdCount ∧
    (haltSequencer st outcome s).seq.runSamples = s.seq.runSamples ∧
    (haltSequencer st outcome s).seq.testZero = s.seq.testZero ∧
    (haltSequencer st outcome s).seq.returnCancelled = s.seq.returnCancelled ∧
    (haltSequencer st outcome s).load.conv = s.load.conv ∧
    (haltSequencer st outcome s).load.convTimer = s.load.convTimer ∧
    (haltSequencer st outcome s).load.reading = s.load.reading ∧
    (haltSequencer st outcome s).load.nextIndex = s.load.nextIndex ∧
    (haltSequencer st outcome s).load.last = s.load.last ∧
    (haltSequencer st outcome s).load.statusLoad = s.load.statusLoad ∧
    (haltSequencer st outcome s).load.range = s.load.range ∧
    (haltSequencer st outcome s).load.pendingRange = s.load.pendingRange ∧
    (haltSequencer st outcome s).load.rangeMode = s.load.rangeMode ∧
    (haltSequencer st outcome s).load.settleCount = s.load.settleCount ∧
    (haltSequencer st outcome s).load.settling = s.load.settling ∧
    (haltSequencer st outcome s).load.downCount = s.load.downCount ∧
    (haltSequencer st outcome s).load.tareOffset = s.load.tareOffset ∧
    (haltSequencer st outcome s).load.overCheck = s.load.overCheck ∧
    (haltSequencer st outcome s).load.overPrev = s.load.overPrev ∧
    (haltSequencer st outcome s).load.peak = s.load.peak ∧
    (haltSequencer st outcome s).load.breakArmed = s.load.breakArmed ∧
    (haltSequencer st outcome s).load.breakFound = s.load.breakFound ∧
    (haltSequencer st outcome s).ext.idRec = s.ext.idRec ∧
    (haltSequencer st outcome s).ext.strainCount = s.ext.strainCount ∧
    (haltSequencer st outcome s).ext.lastReading = s.ext.lastReading ∧
    (haltSequencer st outcome s).ext.zero = s.ext.zero ∧ (haltSequencer st outcome s).ext.pair = s.ext.pair ∧
    (haltSequencer st outcome s).ext.slip = s.ext.slip ∧ (haltSequencer st outcome s).link.line = s.link.line ∧
    (haltSequencer st outcome s).link.taking = s.link.taking ∧
    (haltSequencer st outcome s).link.quiet = s.link.quiet ∧ (haltSequencer st outcome s).link.stop = s.link.stop ∧
    (haltSequencer st outcome s).link.level = s.link.level ∧
    (haltSequencer st outcome s).link.status = s.link.status ∧
    (haltSequencer st outcome s).link.inFlight = s.link.inFlight ∧
    (haltSequencer st outcome s).link.errCheck = s.link.errCheck ∧
    (haltSequencer st outcome s).link.errLength = s.link.errLength ∧
    (haltSequencer st outcome s).link.errShort = s.link.errShort ∧
    (haltSequencer st outcome s).link.presence = s.link.presence ∧
    (haltSequencer st outcome s).link.statusTimer = s.link.statusTimer ∧
    (haltSequencer st outcome s).budget.table = s.budget.table ∧
    (haltSequencer st outcome s).budget.epoch = s.budget.epoch ∧
    (haltSequencer st outcome s).budget.inStep = s.budget.inStep ∧
    (haltSequencer st outcome s).budget.coldTimer = s.budget.coldTimer ∧
    (haltSequencer st outcome s).budget.lastHeard = s.budget.lastHeard ∧
    (haltSequencer st outcome s).recorder.store = s.recorder.store ∧
    (haltSequencer st outcome s).recorder.offered = s.recorder.offered ∧
    (haltSequencer st outcome s).recorder.lost = s.recorder.lost ∧
    (haltSequencer st outcome s).recorder.sent = s.recorder.sent ∧
    (haltSequencer st outcome s).recorder.decCount = s.recorder.decCount ∧
    (haltSequencer st outcome s).recorder.runBegun = s.recorder.runBegun := by
  dsimp only [haltSequencer]
  (repeat' split) <;> simp

@[simp] theorem stopSequencer_fields (s : State) :
    (stopSequencer s).seq.order = s.seq.order ∧ (stopSequencer s).seq.phase = s.seq.phase ∧
    (stopSequencer s).seq.phaseBegun = s.seq.phaseBegun ∧ (stopSequencer s).seq.phaseTime = s.seq.phaseTime ∧
    (stopSequencer s).seq.refValue = s.seq.refValue ∧ (stopSequencer s).seq.holdCount = s.seq.holdCount ∧
    (stopSequencer s).seq.runSamples = s.seq.runSamples ∧ (stopSequencer s).seq.testZero = s.seq.testZero ∧
    (stopSequencer s).seq.returnCancelled = s.seq.returnCancelled ∧ (stopSequencer s).load.conv = s.load.conv ∧
    (stopSequencer s).load.convTimer = s.load.convTimer ∧ (stopSequencer s).load.reading = s.load.reading ∧
    (stopSequencer s).load.nextIndex = s.load.nextIndex ∧ (stopSequencer s).load.last = s.load.last ∧
    (stopSequencer s).load.statusLoad = s.load.statusLoad ∧ (stopSequencer s).load.range = s.load.range ∧
    (stopSequencer s).load.pendingRange = s.load.pendingRange ∧ (stopSequencer s).load.rangeMode = s.load.rangeMode ∧
    (stopSequencer s).load.settleCount = s.load.settleCount ∧ (stopSequencer s).load.settling = s.load.settling ∧
    (stopSequencer s).load.downCount = s.load.downCount ∧ (stopSequencer s).load.tareOffset = s.load.tareOffset ∧
    (stopSequencer s).load.overCheck = s.load.overCheck ∧ (stopSequencer s).load.overPrev = s.load.overPrev ∧
    (stopSequencer s).load.peak = s.load.peak ∧ (stopSequencer s).load.breakArmed = s.load.breakArmed ∧
    (stopSequencer s).load.breakFound = s.load.breakFound ∧ (stopSequencer s).ext.idRec = s.ext.idRec ∧
    (stopSequencer s).ext.strainCount = s.ext.strainCount ∧ (stopSequencer s).ext.lastReading = s.ext.lastReading ∧
    (stopSequencer s).ext.zero = s.ext.zero ∧ (stopSequencer s).ext.pair = s.ext.pair ∧
    (stopSequencer s).ext.slip = s.ext.slip ∧ (stopSequencer s).link.line = s.link.line ∧
    (stopSequencer s).link.taking = s.link.taking ∧ (stopSequencer s).link.quiet = s.link.quiet ∧
    (stopSequencer s).link.stop = s.link.stop ∧ (stopSequencer s).link.level = s.link.level ∧
    (stopSequencer s).link.status = s.link.status ∧ (stopSequencer s).link.inFlight = s.link.inFlight ∧
    (stopSequencer s).link.errCheck = s.link.errCheck ∧ (stopSequencer s).link.errLength = s.link.errLength ∧
    (stopSequencer s).link.errShort = s.link.errShort ∧ (stopSequencer s).link.presence = s.link.presence ∧
    (stopSequencer s).link.statusTimer = s.link.statusTimer ∧ (stopSequencer s).budget.table = s.budget.table ∧
    (stopSequencer s).budget.epoch = s.budget.epoch ∧ (stopSequencer s).budget.inStep = s.budget.inStep ∧
    (stopSequencer s).budget.coldTimer = s.budget.coldTimer ∧
    (stopSequencer s).budget.lastHeard = s.budget.lastHeard ∧ (stopSequencer s).recorder.store = s.recorder.store ∧
    (stopSequencer s).recorder.offered = s.recorder.offered ∧ (stopSequencer s).recorder.lost = s.recorder.lost ∧
    (stopSequencer s).recorder.sent = s.recorder.sent ∧ (stopSequencer s).recorder.decCount = s.recorder.decCount ∧
    (stopSequencer s).recorder.runBegun = s.recorder.runBegun := by
  dsimp only [stopSequencer]
  (repeat' split) <;> simp

@[simp] theorem faultSequencer_fields (s : State) :
    (faultSequencer s).seq.order = s.seq.order ∧ (faultSequencer s).seq.phase = s.seq.phase ∧
    (faultSequencer s).seq.phaseBegun = s.seq.phaseBegun ∧ (faultSequencer s).seq.phaseTime = s.seq.phaseTime ∧
    (faultSequencer s).seq.refValue = s.seq.refValue ∧ (faultSequencer s).seq.holdCount = s.seq.holdCount ∧
    (faultSequencer s).seq.runSamples = s.seq.runSamples ∧ (faultSequencer s).seq.testZero = s.seq.testZero ∧
    (faultSequencer s).seq.returnCancelled = s.seq.returnCancelled ∧ (faultSequencer s).load.conv = s.load.conv ∧
    (faultSequencer s).load.convTimer = s.load.convTimer ∧ (faultSequencer s).load.reading = s.load.reading ∧
    (faultSequencer s).load.nextIndex = s.load.nextIndex ∧ (faultSequencer s).load.last = s.load.last ∧
    (faultSequencer s).load.statusLoad = s.load.statusLoad ∧ (faultSequencer s).load.range = s.load.range ∧
    (faultSequencer s).load.pendingRange = s.load.pendingRange ∧
    (faultSequencer s).load.rangeMode = s.load.rangeMode ∧ (faultSequencer s).load.settleCount = s.load.settleCount ∧
    (faultSequencer s).load.settling = s.load.settling ∧ (faultSequencer s).load.downCount = s.load.downCount ∧
    (faultSequencer s).load.tareOffset = s.load.tareOffset ∧ (faultSequencer s).load.overCheck = s.load.overCheck ∧
    (faultSequencer s).load.overPrev = s.load.overPrev ∧ (faultSequencer s).load.peak = s.load.peak ∧
    (faultSequencer s).load.breakArmed = s.load.breakArmed ∧ (faultSequencer s).load.breakFound = s.load.breakFound ∧
    (faultSequencer s).ext.idRec = s.ext.idRec ∧ (faultSequencer s).ext.strainCount = s.ext.strainCount ∧
    (faultSequencer s).ext.lastReading = s.ext.lastReading ∧ (faultSequencer s).ext.zero = s.ext.zero ∧
    (faultSequencer s).ext.pair = s.ext.pair ∧ (faultSequencer s).ext.slip = s.ext.slip ∧
    (faultSequencer s).link.line = s.link.line ∧ (faultSequencer s).link.taking = s.link.taking ∧
    (faultSequencer s).link.quiet = s.link.quiet ∧ (faultSequencer s).link.stop = s.link.stop ∧
    (faultSequencer s).link.level = s.link.level ∧ (faultSequencer s).link.status = s.link.status ∧
    (faultSequencer s).link.inFlight = s.link.inFlight ∧ (faultSequencer s).link.errCheck = s.link.errCheck ∧
    (faultSequencer s).link.errLength = s.link.errLength ∧ (faultSequencer s).link.errShort = s.link.errShort ∧
    (faultSequencer s).link.presence = s.link.presence ∧ (faultSequencer s).link.statusTimer = s.link.statusTimer ∧
    (faultSequencer s).budget.table = s.budget.table ∧ (faultSequencer s).budget.epoch = s.budget.epoch ∧
    (faultSequencer s).budget.inStep = s.budget.inStep ∧ (faultSequencer s).budget.coldTimer = s.budget.coldTimer ∧
    (faultSequencer s).budget.lastHeard = s.budget.lastHeard ∧ (faultSequencer s).recorder.store = s.recorder.store ∧
    (faultSequencer s).recorder.offered = s.recorder.offered ∧ (faultSequencer s).recorder.lost = s.recorder.lost ∧
    (faultSequencer s).recorder.sent = s.recorder.sent ∧ (faultSequencer s).recorder.decCount = s.recorder.decCount ∧
    (faultSequencer s).recorder.runBegun = s.recorder.runBegun := by
  dsimp only [faultSequencer]
  (repeat' split) <;> simp

@[simp] theorem haltFollow_fields (st : SeqState) (s : State) :
    (haltFollow st s).follow.share = s.follow.share ∧ (haltFollow st s).link.line = s.link.line ∧
    (haltFollow st s).link.taking = s.link.taking ∧ (haltFollow st s).link.quiet = s.link.quiet ∧
    (haltFollow st s).link.stop = s.link.stop ∧ (haltFollow st s).link.level = s.link.level ∧
    (haltFollow st s).link.status = s.link.status ∧ (haltFollow st s).link.result = s.link.result ∧
    (haltFollow st s).link.curve = s.link.curve ∧ (haltFollow st s).link.inFlight = s.link.inFlight ∧
    (haltFollow st s).link.notices = s.link.notices ∧ (haltFollow st s).link.lost = s.link.lost ∧
    (haltFollow st s).link.errCheck = s.link.errCheck ∧ (haltFollow st s).link.errLength = s.link.errLength ∧
    (haltFollow st s).link.errShort = s.link.errShort ∧ (haltFollow st s).link.presence = s.link.presence ∧
    (haltFollow st s).link.statusTimer = s.link.statusTimer ∧ (haltFollow st s).budget.table = s.budget.table ∧
    (haltFollow st s).budget.epoch = s.budget.epoch ∧ (haltFollow st s).budget.inStep = s.budget.inStep ∧
    (haltFollow st s).budget.coldTimer = s.budget.coldTimer ∧
    (haltFollow st s).budget.lastHeard = s.budget.lastHeard := by
  dsimp only [haltFollow]
  simp

@[simp] theorem stopFollow_fields (s : State) :
    (stopFollow s).follow.share = s.follow.share ∧ (stopFollow s).link.line = s.link.line ∧
    (stopFollow s).link.taking = s.link.taking ∧ (stopFollow s).link.quiet = s.link.quiet ∧
    (stopFollow s).link.stop = s.link.stop ∧ (stopFollow s).link.level = s.link.level ∧
    (stopFollow s).link.status = s.link.status ∧ (stopFollow s).link.result = s.link.result ∧
    (stopFollow s).link.curve = s.link.curve ∧ (stopFollow s).link.inFlight = s.link.inFlight ∧
    (stopFollow s).link.notices = s.link.notices ∧ (stopFollow s).link.lost = s.link.lost ∧
    (stopFollow s).link.errCheck = s.link.errCheck ∧ (stopFollow s).link.errLength = s.link.errLength ∧
    (stopFollow s).link.errShort = s.link.errShort ∧ (stopFollow s).link.presence = s.link.presence ∧
    (stopFollow s).link.statusTimer = s.link.statusTimer ∧ (stopFollow s).budget.table = s.budget.table ∧
    (stopFollow s).budget.epoch = s.budget.epoch ∧ (stopFollow s).budget.inStep = s.budget.inStep ∧
    (stopFollow s).budget.coldTimer = s.budget.coldTimer ∧ (stopFollow s).budget.lastHeard = s.budget.lastHeard := by
  dsimp only [stopFollow]
  (repeat' split) <;> simp

@[simp] theorem faultFollow_fields (s : State) :
    (faultFollow s).follow.share = s.follow.share ∧ (faultFollow s).link.line = s.link.line ∧
    (faultFollow s).link.taking = s.link.taking ∧ (faultFollow s).link.quiet = s.link.quiet ∧
    (faultFollow s).link.stop = s.link.stop ∧ (faultFollow s).link.level = s.link.level ∧
    (faultFollow s).link.status = s.link.status ∧ (faultFollow s).link.result = s.link.result ∧
    (faultFollow s).link.curve = s.link.curve ∧ (faultFollow s).link.inFlight = s.link.inFlight ∧
    (faultFollow s).link.notices = s.link.notices ∧ (faultFollow s).link.lost = s.link.lost ∧
    (faultFollow s).link.errCheck = s.link.errCheck ∧ (faultFollow s).link.errLength = s.link.errLength ∧
    (faultFollow s).link.errShort = s.link.errShort ∧ (faultFollow s).link.presence = s.link.presence ∧
    (faultFollow s).link.statusTimer = s.link.statusTimer ∧ (faultFollow s).budget.table = s.budget.table ∧
    (faultFollow s).budget.epoch = s.budget.epoch ∧ (faultFollow s).budget.inStep = s.budget.inStep ∧
    (faultFollow s).budget.coldTimer = s.budget.coldTimer ∧
    (faultFollow s).budget.lastHeard = s.budget.lastHeard := by
  dsimp only [faultFollow]
  (repeat' split) <;> simp

/-- R37, R39: what the rest of the regulator writes, and what it leaves. -/
@[simp] theorem restRegulator_fields (s : State) :
    (restRegulator s).travel.counter = s.travel.counter ∧ (restRegulator s).travel.latched = s.travel.latched ∧
    (restRegulator s).travel.appliedAtTick = s.travel.appliedAtTick ∧
    (restRegulator s).travel.measure = s.travel.measure ∧ (restRegulator s).travel.gateOpen = s.travel.gateOpen ∧
    (restRegulator s).travel.gateTicks = s.travel.gateTicks ∧ (restRegulator s).travel.gateSum = s.travel.gateSum ∧
    (restRegulator s).travel.gateDue = s.travel.gateDue ∧
    (restRegulator s).travel.periodTimer = s.travel.periodTimer ∧
    (restRegulator s).travel.velocity = s.travel.velocity ∧
    (restRegulator s).travel.standstill = s.travel.standstill ∧
    (restRegulator s).travel.holdPosition = s.travel.holdPosition ∧
    (restRegulator s).travel.applied = s.travel.applied ∧ (restRegulator s).travel.tripped = s.travel.tripped ∧
    (restRegulator s).travel.regValue = 0 ∧ (restRegulator s).travel.regMode = .zero ∧
    (restRegulator s).travel.window = [] := by
  simp [restRegulator]

/-- R37, R64: what the entry of the follow sequencer to IDLE writes, and what it leaves. -/
@[simp] theorem restFollow_fields (s : State) :
    (restFollow s).travel.counter = s.travel.counter ∧ (restFollow s).travel.latched = s.travel.latched ∧
    (restFollow s).travel.appliedAtTick = s.travel.appliedAtTick ∧ (restFollow s).travel.measure = s.travel.measure ∧
    (restFollow s).travel.gateOpen = s.travel.gateOpen ∧ (restFollow s).travel.gateTicks = s.travel.gateTicks ∧
    (restFollow s).travel.gateSum = s.travel.gateSum ∧ (restFollow s).travel.gateDue = s.travel.gateDue ∧
    (restFollow s).travel.periodTimer = s.travel.periodTimer ∧ (restFollow s).travel.velocity = s.travel.velocity ∧
    (restFollow s).travel.standstill = s.travel.standstill ∧
    (restFollow s).travel.holdPosition = s.travel.holdPosition ∧ (restFollow s).travel.applied = s.travel.applied ∧
    (restFollow s).travel.tripped = s.travel.tripped ∧ (restFollow s).travel.regValue = 0 ∧
    (restFollow s).travel.regMode = .zero ∧ (restFollow s).travel.window = [] ∧
    (restFollow s).follow = { state := .idle, share := 0, asked := 0, lossSamples := 0 } := by
  simp [restFollow]

@[simp] theorem idleFollow_fields (s : State) :
    (idleFollow s).link.line = s.link.line ∧ (idleFollow s).link.taking = s.link.taking ∧
    (idleFollow s).link.quiet = s.link.quiet ∧ (idleFollow s).link.stop = s.link.stop ∧
    (idleFollow s).link.level = s.link.level ∧ (idleFollow s).link.status = s.link.status ∧
    (idleFollow s).link.result = s.link.result ∧ (idleFollow s).link.curve = s.link.curve ∧
    (idleFollow s).link.inFlight = s.link.inFlight ∧ (idleFollow s).link.notices = s.link.notices ∧
    (idleFollow s).link.lost = s.link.lost ∧ (idleFollow s).link.errCheck = s.link.errCheck ∧
    (idleFollow s).link.errLength = s.link.errLength ∧ (idleFollow s).link.errShort = s.link.errShort ∧
    (idleFollow s).link.presence = s.link.presence ∧ (idleFollow s).link.statusTimer = s.link.statusTimer ∧
    (idleFollow s).budget.table = s.budget.table ∧ (idleFollow s).budget.epoch = s.budget.epoch ∧
    (idleFollow s).budget.inStep = s.budget.inStep ∧ (idleFollow s).budget.coldTimer = s.budget.coldTimer ∧
    (idleFollow s).budget.lastHeard = s.budget.lastHeard ∧
    (idleFollow s).travel = (restRegulator s).travel ∧
    (idleFollow s).follow = { state := .idle, share := 0, asked := 0, lossSamples := 0 } := by
  dsimp only [idleFollow]
  simp [restFollow, restRegulator]

@[simp] theorem enterIdle_fields (s : State) :
    (enterIdle s).seq.phaseTime = s.seq.phaseTime ∧ (enterIdle s).seq.refValue = s.seq.refValue ∧
    (enterIdle s).seq.holdCount = s.seq.holdCount ∧ (enterIdle s).seq.runSamples = s.seq.runSamples ∧
    (enterIdle s).seq.testZero = s.seq.testZero ∧ (enterIdle s).travel.counter = s.travel.counter ∧
    (enterIdle s).travel.latched = s.travel.latched ∧ (enterIdle s).travel.appliedAtTick = s.travel.appliedAtTick ∧
    (enterIdle s).travel.measure = s.travel.measure ∧ (enterIdle s).travel.gateOpen = s.travel.gateOpen ∧
    (enterIdle s).travel.gateTicks = s.travel.gateTicks ∧ (enterIdle s).travel.gateSum = s.travel.gateSum ∧
    (enterIdle s).travel.gateDue = s.travel.gateDue ∧ (enterIdle s).travel.periodTimer = s.travel.periodTimer ∧
    (enterIdle s).travel.velocity = s.travel.velocity ∧ (enterIdle s).travel.standstill = s.travel.standstill ∧
    (enterIdle s).travel.holdPosition = s.travel.holdPosition ∧ (enterIdle s).travel.applied = s.travel.applied ∧
    (enterIdle s).travel.tripped = s.travel.tripped ∧ (enterIdle s).pair.mirror = s.pair.mirror ∧
    (enterIdle s).pair.age = s.pair.age ∧ (enterIdle s).pair.levelRun = s.pair.levelRun ∧
    (enterIdle s).pair.levelTimer = s.pair.levelTimer ∧ (enterIdle s).pair.skew = s.pair.skew ∧
    (enterIdle s).pair.skewKnown = s.pair.skewKnown ∧ (enterIdle s).pair.trim = s.pair.trim ∧
    (enterIdle s).pair.alarmed = s.pair.alarmed ∧ (enterIdle s).pair.overLimit = s.pair.overLimit ∧
    (enterIdle s).load.conv = s.load.conv ∧ (enterIdle s).load.convTimer = s.load.convTimer ∧
    (enterIdle s).load.reading = s.load.reading ∧ (enterIdle s).load.nextIndex = s.load.nextIndex ∧
    (enterIdle s).load.last = s.load.last ∧ (enterIdle s).load.statusLoad = s.load.statusLoad ∧
    (enterIdle s).load.range = s.load.range ∧ (enterIdle s).load.pendingRange = s.load.pendingRange ∧
    (enterIdle s).load.settleCount = s.load.settleCount ∧ (enterIdle s).load.settling = s.load.settling ∧
    (enterIdle s).load.downCount = s.load.downCount ∧ (enterIdle s).load.tareOffset = s.load.tareOffset ∧
    (enterIdle s).load.overCheck = s.load.overCheck ∧ (enterIdle s).load.overPrev = s.load.overPrev ∧
    (enterIdle s).ext.idRec = s.ext.idRec ∧ (enterIdle s).ext.strainCount = s.ext.strainCount ∧
    (enterIdle s).ext.lastReading = s.ext.lastReading ∧ (enterIdle s).ext.zero = s.ext.zero ∧
    (enterIdle s).ext.pair = s.ext.pair ∧ (enterIdle s).ext.slip = s.ext.slip ∧
    (enterIdle s).link.line = s.link.line ∧ (enterIdle s).link.taking = s.link.taking ∧
    (enterIdle s).link.quiet = s.link.quiet ∧ (enterIdle s).link.stop = s.link.stop ∧
    (enterIdle s).link.grant = s.link.grant ∧ (enterIdle s).link.level = s.link.level ∧
    (enterIdle s).link.status = s.link.status ∧ (enterIdle s).link.result = s.link.result ∧
    (enterIdle s).link.curve = s.link.curve ∧ (enterIdle s).link.inFlight = s.link.inFlight ∧
    (enterIdle s).link.errCheck = s.link.errCheck ∧ (enterIdle s).link.errLength = s.link.errLength ∧
    (enterIdle s).link.errShort = s.link.errShort ∧ (enterIdle s).link.presence = s.link.presence ∧
    (enterIdle s).link.statusTimer = s.link.statusTimer := by
  dsimp only [enterIdle]
  simp [LoadCh.spanReset]

@[simp] theorem enterEnding_fields (outcome : TestOutcome) (cause : SwitchCause) (s : State) :
    (enterEnding outcome cause s).seq.order = s.seq.order ∧ (enterEnding outcome cause s).seq.phase = s.seq.phase ∧
    (enterEnding outcome cause s).seq.phaseBegun = s.seq.phaseBegun ∧
    (enterEnding outcome cause s).seq.phaseTime = s.seq.phaseTime ∧
    (enterEnding outcome cause s).seq.refValue = s.seq.refValue ∧
    (enterEnding outcome cause s).seq.holdCount = s.seq.holdCount ∧
    (enterEnding outcome cause s).seq.runSamples = s.seq.runSamples ∧
    (enterEnding outcome cause s).seq.testZero = s.seq.testZero ∧
    (enterEnding outcome cause s).seq.returnCancelled = s.seq.returnCancelled ∧
    (enterEnding outcome cause s).ext.idRec = s.ext.idRec ∧
    (enterEnding outcome cause s).ext.strainCount = s.ext.strainCount ∧
    (enterEnding outcome cause s).ext.lastReading = s.ext.lastReading ∧
    (enterEnding outcome cause s).ext.zero = s.ext.zero ∧ (enterEnding outcome cause s).ext.pair = s.ext.pair ∧
    (enterEnding outcome cause s).ext.slip = s.ext.slip ∧ (enterEnding outcome cause s).link.line = s.link.line ∧
    (enterEnding outcome cause s).link.taking = s.link.taking ∧
    (enterEnding outcome cause s).link.quiet = s.link.quiet ∧ (enterEnding outcome cause s).link.stop = s.link.stop ∧
    (enterEnding outcome cause s).link.level = s.link.level ∧
    (enterEnding outcome cause s).link.status = s.link.status ∧
    (enterEnding outcome cause s).link.result = s.link.result ∧
    (enterEnding outcome cause s).link.curve = s.link.curve ∧
    (enterEnding outcome cause s).link.inFlight = s.link.inFlight ∧
    (enterEnding outcome cause s).link.errCheck = s.link.errCheck ∧
    (enterEnding outcome cause s).link.errLength = s.link.errLength ∧
    (enterEnding outcome cause s).link.errShort = s.link.errShort ∧
    (enterEnding outcome cause s).link.presence = s.link.presence ∧
    (enterEnding outcome cause s).link.statusTimer = s.link.statusTimer ∧
    (enterEnding outcome cause s).budget.table = s.budget.table ∧
    (enterEnding outcome cause s).budget.epoch = s.budget.epoch ∧
    (enterEnding outcome cause s).budget.inStep = s.budget.inStep ∧
    (enterEnding outcome cause s).budget.reason = s.budget.reason ∧
    (enterEnding outcome cause s).budget.coldTimer = s.budget.coldTimer ∧
    (enterEnding outcome cause s).budget.lastHeard = s.budget.lastHeard := by
  dsimp only [enterEnding]
  simp

@[simp] theorem enterDone_fields (s : State) :
    (enterDone s).seq.order = s.seq.order ∧ (enterDone s).seq.phase = s.seq.phase ∧
    (enterDone s).seq.phaseBegun = s.seq.phaseBegun ∧ (enterDone s).seq.phaseTime = s.seq.phaseTime ∧
    (enterDone s).seq.refValue = s.seq.refValue ∧ (enterDone s).seq.holdCount = s.seq.holdCount ∧
    (enterDone s).seq.runSamples = s.seq.runSamples ∧ (enterDone s).seq.testZero = s.seq.testZero ∧
    (enterDone s).seq.returnCancelled = s.seq.returnCancelled ∧ (enterDone s).load.conv = s.load.conv ∧
    (enterDone s).load.convTimer = s.load.convTimer ∧ (enterDone s).load.reading = s.load.reading ∧
    (enterDone s).load.nextIndex = s.load.nextIndex ∧ (enterDone s).load.last = s.load.last ∧
    (enterDone s).load.statusLoad = s.load.statusLoad ∧ (enterDone s).load.range = s.load.range ∧
    (enterDone s).load.pendingRange = s.load.pendingRange ∧ (enterDone s).load.rangeMode = s.load.rangeMode ∧
    (enterDone s).load.settleCount = s.load.settleCount ∧ (enterDone s).load.settling = s.load.settling ∧
    (enterDone s).load.downCount = s.load.downCount ∧ (enterDone s).load.tareOffset = s.load.tareOffset ∧
    (enterDone s).load.tare = s.load.tare ∧ (enterDone s).load.overCheck = s.load.overCheck ∧
    (enterDone s).load.overPrev = s.load.overPrev ∧ (enterDone s).load.peak = s.load.peak ∧
    (enterDone s).load.breakArmed = s.load.breakArmed ∧ (enterDone s).load.breakFound = s.load.breakFound ∧
    (enterDone s).ext.idRec = s.ext.idRec ∧ (enterDone s).ext.strainCount = s.ext.strainCount ∧
    (enterDone s).ext.lastReading = s.ext.lastReading ∧ (enterDone s).ext.zero = s.ext.zero ∧
    (enterDone s).ext.pair = s.ext.pair ∧ (enterDone s).ext.slip = s.ext.slip ∧
    (enterDone s).link.line = s.link.line ∧ (enterDone s).link.taking = s.link.taking ∧
    (enterDone s).link.quiet = s.link.quiet ∧ (enterDone s).link.stop = s.link.stop ∧
    (enterDone s).link.level = s.link.level ∧ (enterDone s).link.status = s.link.status ∧
    (enterDone s).link.inFlight = s.link.inFlight ∧ (enterDone s).link.errCheck = s.link.errCheck ∧
    (enterDone s).link.errLength = s.link.errLength ∧ (enterDone s).link.errShort = s.link.errShort ∧
    (enterDone s).link.presence = s.link.presence ∧ (enterDone s).link.statusTimer = s.link.statusTimer ∧
    (enterDone s).budget.table = s.budget.table ∧ (enterDone s).budget.epoch = s.budget.epoch ∧
    (enterDone s).budget.inStep = s.budget.inStep ∧ (enterDone s).budget.coldTimer = s.budget.coldTimer ∧
    (enterDone s).budget.lastHeard = s.budget.lastHeard ∧ (enterDone s).recorder.store = s.recorder.store ∧
    (enterDone s).recorder.offered = s.recorder.offered ∧ (enterDone s).recorder.lost = s.recorder.lost ∧
    (enterDone s).recorder.sent = s.recorder.sent ∧ (enterDone s).recorder.decCount = s.recorder.decCount ∧
    (enterDone s).recorder.runBegun = s.recorder.runBegun := by
  dsimp only [enterDone]
  simp

@[simp] theorem enterClaiming_fields (s : State) :
    (enterClaiming s).seq.order = s.seq.order ∧ (enterClaiming s).seq.phase = s.seq.phase ∧
    (enterClaiming s).seq.phaseBegun = s.seq.phaseBegun ∧ (enterClaiming s).seq.phaseTime = s.seq.phaseTime ∧
    (enterClaiming s).seq.refValue = s.seq.refValue ∧ (enterClaiming s).seq.holdCount = s.seq.holdCount ∧
    (enterClaiming s).seq.runSamples = s.seq.runSamples ∧ (enterClaiming s).seq.testZero = s.seq.testZero ∧
    (enterClaiming s).seq.returnCancelled = s.seq.returnCancelled ∧ (enterClaiming s).link.line = s.link.line ∧
    (enterClaiming s).link.taking = s.link.taking ∧ (enterClaiming s).link.quiet = s.link.quiet ∧
    (enterClaiming s).link.stop = s.link.stop ∧ (enterClaiming s).link.level = s.link.level ∧
    (enterClaiming s).link.status = s.link.status ∧ (enterClaiming s).link.result = s.link.result ∧
    (enterClaiming s).link.curve = s.link.curve ∧ (enterClaiming s).link.inFlight = s.link.inFlight ∧
    (enterClaiming s).link.notices = s.link.notices ∧ (enterClaiming s).link.lost = s.link.lost ∧
    (enterClaiming s).link.errCheck = s.link.errCheck ∧ (enterClaiming s).link.errLength = s.link.errLength ∧
    (enterClaiming s).link.errShort = s.link.errShort ∧ (enterClaiming s).link.presence = s.link.presence ∧
    (enterClaiming s).link.statusTimer = s.link.statusTimer ∧ (enterClaiming s).budget.table = s.budget.table ∧
    (enterClaiming s).budget.epoch = s.budget.epoch ∧ (enterClaiming s).budget.inStep = s.budget.inStep ∧
    (enterClaiming s).budget.coldTimer = s.budget.coldTimer ∧
    (enterClaiming s).budget.lastHeard = s.budget.lastHeard := by
  dsimp only [enterClaiming]
  simp

@[simp] theorem enterTaring_fields (s : State) :
    (enterTaring s).seq.order = s.seq.order ∧ (enterTaring s).seq.phase = s.seq.phase ∧
    (enterTaring s).seq.phaseBegun = s.seq.phaseBegun ∧ (enterTaring s).seq.phaseTime = s.seq.phaseTime ∧
    (enterTaring s).seq.refValue = s.seq.refValue ∧ (enterTaring s).seq.holdCount = s.seq.holdCount ∧
    (enterTaring s).seq.runSamples = s.seq.runSamples ∧ (enterTaring s).seq.testZero = s.seq.testZero ∧
    (enterTaring s).seq.returnCancelled = s.seq.returnCancelled ∧ (enterTaring s).load.conv = s.load.conv ∧
    (enterTaring s).load.convTimer = s.load.convTimer ∧ (enterTaring s).load.reading = s.load.reading ∧
    (enterTaring s).load.nextIndex = s.load.nextIndex ∧ (enterTaring s).load.last = s.load.last ∧
    (enterTaring s).load.statusLoad = s.load.statusLoad ∧ (enterTaring s).load.range = s.load.range ∧
    (enterTaring s).load.pendingRange = s.load.pendingRange ∧ (enterTaring s).load.rangeMode = s.load.rangeMode ∧
    (enterTaring s).load.settleCount = s.load.settleCount ∧ (enterTaring s).load.settling = s.load.settling ∧
    (enterTaring s).load.downCount = s.load.downCount ∧ (enterTaring s).load.tareOffset = s.load.tareOffset ∧
    (enterTaring s).load.overCheck = s.load.overCheck ∧ (enterTaring s).load.overPrev = s.load.overPrev ∧
    (enterTaring s).load.spanOpen = s.load.spanOpen ∧ (enterTaring s).load.peak = s.load.peak ∧
    (enterTaring s).load.breakArmed = s.load.breakArmed ∧ (enterTaring s).load.breakFound = s.load.breakFound ∧
    (enterTaring s).load.yieldSearch = s.load.yieldSearch := by
  dsimp only [enterTaring]
  simp

@[simp] theorem dropGrips_fields (s : State) :
    (dropGrips s).seq.order = s.seq.order ∧ (dropGrips s).seq.phase = s.seq.phase ∧
    (dropGrips s).seq.phaseBegun = s.seq.phaseBegun ∧ (dropGrips s).seq.phaseTime = s.seq.phaseTime ∧
    (dropGrips s).seq.refValue = s.seq.refValue ∧ (dropGrips s).seq.holdCount = s.seq.holdCount ∧
    (dropGrips s).seq.runSamples = s.seq.runSamples ∧ (dropGrips s).seq.testZero = s.seq.testZero ∧
    (dropGrips s).seq.returnCancelled = s.seq.returnCancelled ∧ (dropGrips s).load.conv = s.load.conv ∧
    (dropGrips s).load.convTimer = s.load.convTimer ∧ (dropGrips s).load.reading = s.load.reading ∧
    (dropGrips s).load.nextIndex = s.load.nextIndex ∧ (dropGrips s).load.last = s.load.last ∧
    (dropGrips s).load.statusLoad = s.load.statusLoad ∧ (dropGrips s).load.range = s.load.range ∧
    (dropGrips s).load.pendingRange = s.load.pendingRange ∧ (dropGrips s).load.rangeMode = s.load.rangeMode ∧
    (dropGrips s).load.settleCount = s.load.settleCount ∧ (dropGrips s).load.settling = s.load.settling ∧
    (dropGrips s).load.downCount = s.load.downCount ∧ (dropGrips s).load.tareOffset = s.load.tareOffset ∧
    (dropGrips s).load.overCheck = s.load.overCheck ∧ (dropGrips s).load.overPrev = s.load.overPrev ∧
    (dropGrips s).load.spanOpen = s.load.spanOpen ∧ (dropGrips s).load.peak = s.load.peak ∧
    (dropGrips s).load.breakArmed = s.load.breakArmed ∧ (dropGrips s).load.breakFound = s.load.breakFound ∧
    (dropGrips s).load.yieldSearch = s.load.yieldSearch := by
  dsimp only [dropGrips]
  simp

@[simp] theorem stopOwn_fields (s : State) :
    (stopOwn s).seq.order = s.seq.order ∧ (stopOwn s).seq.phase = s.seq.phase ∧
    (stopOwn s).seq.phaseBegun = s.seq.phaseBegun ∧ (stopOwn s).seq.phaseTime = s.seq.phaseTime ∧
    (stopOwn s).seq.refValue = s.seq.refValue ∧ (stopOwn s).seq.holdCount = s.seq.holdCount ∧
    (stopOwn s).seq.runSamples = s.seq.runSamples ∧ (stopOwn s).seq.testZero = s.seq.testZero ∧
    (stopOwn s).seq.returnCancelled = s.seq.returnCancelled ∧ (stopOwn s).follow.share = s.follow.share ∧
    (stopOwn s).load.conv = s.load.conv ∧ (stopOwn s).load.convTimer = s.load.convTimer ∧
    (stopOwn s).load.reading = s.load.reading ∧ (stopOwn s).load.nextIndex = s.load.nextIndex ∧
    (stopOwn s).load.last = s.load.last ∧ (stopOwn s).load.statusLoad = s.load.statusLoad ∧
    (stopOwn s).load.range = s.load.range ∧ (stopOwn s).load.pendingRange = s.load.pendingRange ∧
    (stopOwn s).load.rangeMode = s.load.rangeMode ∧ (stopOwn s).load.settleCount = s.load.settleCount ∧
    (stopOwn s).load.settling = s.load.settling ∧ (stopOwn s).load.downCount = s.load.downCount ∧
    (stopOwn s).load.tareOffset = s.load.tareOffset ∧ (stopOwn s).load.overCheck = s.load.overCheck ∧
    (stopOwn s).load.overPrev = s.load.overPrev ∧ (stopOwn s).load.peak = s.load.peak ∧
    (stopOwn s).load.breakArmed = s.load.breakArmed ∧ (stopOwn s).load.breakFound = s.load.breakFound ∧
    (stopOwn s).ext.idRec = s.ext.idRec ∧ (stopOwn s).ext.strainCount = s.ext.strainCount ∧
    (stopOwn s).ext.lastReading = s.ext.lastReading ∧ (stopOwn s).ext.zero = s.ext.zero ∧
    (stopOwn s).ext.pair = s.ext.pair ∧ (stopOwn s).ext.slip = s.ext.slip ∧ (stopOwn s).link.line = s.link.line ∧
    (stopOwn s).link.taking = s.link.taking ∧ (stopOwn s).link.quiet = s.link.quiet ∧
    (stopOwn s).link.stop = s.link.stop ∧ (stopOwn s).link.level = s.link.level ∧
    (stopOwn s).link.status = s.link.status ∧ (stopOwn s).link.inFlight = s.link.inFlight ∧
    (stopOwn s).link.errCheck = s.link.errCheck ∧ (stopOwn s).link.errLength = s.link.errLength ∧
    (stopOwn s).link.errShort = s.link.errShort ∧ (stopOwn s).link.presence = s.link.presence ∧
    (stopOwn s).link.statusTimer = s.link.statusTimer ∧ (stopOwn s).budget.table = s.budget.table ∧
    (stopOwn s).budget.epoch = s.budget.epoch ∧ (stopOwn s).budget.inStep = s.budget.inStep ∧
    (stopOwn s).budget.coldTimer = s.budget.coldTimer ∧ (stopOwn s).budget.lastHeard = s.budget.lastHeard ∧
    (stopOwn s).recorder.store = s.recorder.store ∧ (stopOwn s).recorder.offered = s.recorder.offered ∧
    (stopOwn s).recorder.lost = s.recorder.lost ∧ (stopOwn s).recorder.sent = s.recorder.sent ∧
    (stopOwn s).recorder.decCount = s.recorder.decCount ∧ (stopOwn s).recorder.runBegun = s.recorder.runBegun := by
  dsimp only [stopOwn]
  (repeat' split) <;> simp

@[simp] theorem faultOwn_fields (s : State) :
    (faultOwn s).seq.order = s.seq.order ∧ (faultOwn s).seq.phase = s.seq.phase ∧
    (faultOwn s).seq.phaseBegun = s.seq.phaseBegun ∧ (faultOwn s).seq.phaseTime = s.seq.phaseTime ∧
    (faultOwn s).seq.refValue = s.seq.refValue ∧ (faultOwn s).seq.holdCount = s.seq.holdCount ∧
    (faultOwn s).seq.runSamples = s.seq.runSamples ∧ (faultOwn s).seq.testZero = s.seq.testZero ∧
    (faultOwn s).seq.returnCancelled = s.seq.returnCancelled ∧ (faultOwn s).follow.share = s.follow.share ∧
    (faultOwn s).load.conv = s.load.conv ∧ (faultOwn s).load.convTimer = s.load.convTimer ∧
    (faultOwn s).load.reading = s.load.reading ∧ (faultOwn s).load.nextIndex = s.load.nextIndex ∧
    (faultOwn s).load.last = s.load.last ∧ (faultOwn s).load.statusLoad = s.load.statusLoad ∧
    (faultOwn s).load.range = s.load.range ∧ (faultOwn s).load.pendingRange = s.load.pendingRange ∧
    (faultOwn s).load.rangeMode = s.load.rangeMode ∧ (faultOwn s).load.settleCount = s.load.settleCount ∧
    (faultOwn s).load.settling = s.load.settling ∧ (faultOwn s).load.downCount = s.load.downCount ∧
    (faultOwn s).load.tareOffset = s.load.tareOffset ∧ (faultOwn s).load.overCheck = s.load.overCheck ∧
    (faultOwn s).load.overPrev = s.load.overPrev ∧ (faultOwn s).load.peak = s.load.peak ∧
    (faultOwn s).load.breakArmed = s.load.breakArmed ∧ (faultOwn s).load.breakFound = s.load.breakFound ∧
    (faultOwn s).ext.idRec = s.ext.idRec ∧ (faultOwn s).ext.strainCount = s.ext.strainCount ∧
    (faultOwn s).ext.lastReading = s.ext.lastReading ∧ (faultOwn s).ext.zero = s.ext.zero ∧
    (faultOwn s).ext.pair = s.ext.pair ∧ (faultOwn s).ext.slip = s.ext.slip ∧ (faultOwn s).link.line = s.link.line ∧
    (faultOwn s).link.taking = s.link.taking ∧ (faultOwn s).link.quiet = s.link.quiet ∧
    (faultOwn s).link.stop = s.link.stop ∧ (faultOwn s).link.level = s.link.level ∧
    (faultOwn s).link.status = s.link.status ∧ (faultOwn s).link.inFlight = s.link.inFlight ∧
    (faultOwn s).link.errCheck = s.link.errCheck ∧ (faultOwn s).link.errLength = s.link.errLength ∧
    (faultOwn s).link.errShort = s.link.errShort ∧ (faultOwn s).link.presence = s.link.presence ∧
    (faultOwn s).link.statusTimer = s.link.statusTimer ∧ (faultOwn s).budget.table = s.budget.table ∧
    (faultOwn s).budget.epoch = s.budget.epoch ∧ (faultOwn s).budget.inStep = s.budget.inStep ∧
    (faultOwn s).budget.coldTimer = s.budget.coldTimer ∧ (faultOwn s).budget.lastHeard = s.budget.lastHeard ∧
    (faultOwn s).recorder.store = s.recorder.store ∧ (faultOwn s).recorder.offered = s.recorder.offered ∧
    (faultOwn s).recorder.lost = s.recorder.lost ∧ (faultOwn s).recorder.sent = s.recorder.sent ∧
    (faultOwn s).recorder.decCount = s.recorder.decCount ∧ (faultOwn s).recorder.runBegun = s.recorder.runBegun := by
  dsimp only [faultOwn]
  (repeat' split) <;> simp

@[simp] theorem setLatch_fields (s : State) :
    (setLatch s).seq.order = s.seq.order ∧ (setLatch s).seq.phase = s.seq.phase ∧
    (setLatch s).seq.phaseBegun = s.seq.phaseBegun ∧ (setLatch s).seq.phaseTime = s.seq.phaseTime ∧
    (setLatch s).seq.refValue = s.seq.refValue ∧ (setLatch s).seq.holdCount = s.seq.holdCount ∧
    (setLatch s).seq.runSamples = s.seq.runSamples ∧ (setLatch s).seq.testZero = s.seq.testZero ∧
    (setLatch s).seq.returnCancelled = s.seq.returnCancelled ∧ (setLatch s).follow.share = s.follow.share ∧
    (setLatch s).load.conv = s.load.conv ∧ (setLatch s).load.convTimer = s.load.convTimer ∧
    (setLatch s).load.reading = s.load.reading ∧ (setLatch s).load.nextIndex = s.load.nextIndex ∧
    (setLatch s).load.last = s.load.last ∧ (setLatch s).load.statusLoad = s.load.statusLoad ∧
    (setLatch s).load.range = s.load.range ∧ (setLatch s).load.pendingRange = s.load.pendingRange ∧
    (setLatch s).load.rangeMode = s.load.rangeMode ∧ (setLatch s).load.settleCount = s.load.settleCount ∧
    (setLatch s).load.settling = s.load.settling ∧ (setLatch s).load.downCount = s.load.downCount ∧
    (setLatch s).load.tareOffset = s.load.tareOffset ∧ (setLatch s).load.overCheck = s.load.overCheck ∧
    (setLatch s).load.overPrev = s.load.overPrev ∧ (setLatch s).load.peak = s.load.peak ∧
    (setLatch s).load.breakArmed = s.load.breakArmed ∧ (setLatch s).load.breakFound = s.load.breakFound ∧
    (setLatch s).ext.idRec = s.ext.idRec ∧ (setLatch s).ext.strainCount = s.ext.strainCount ∧
    (setLatch s).ext.lastReading = s.ext.lastReading ∧ (setLatch s).ext.zero = s.ext.zero ∧
    (setLatch s).ext.pair = s.ext.pair ∧ (setLatch s).ext.slip = s.ext.slip ∧ (setLatch s).link.line = s.link.line ∧
    (setLatch s).link.taking = s.link.taking ∧ (setLatch s).link.quiet = s.link.quiet ∧
    (setLatch s).link.stop = s.link.stop ∧ (setLatch s).link.level = s.link.level ∧
    (setLatch s).link.status = s.link.status ∧ (setLatch s).link.inFlight = s.link.inFlight ∧
    (setLatch s).link.errCheck = s.link.errCheck ∧ (setLatch s).link.errLength = s.link.errLength ∧
    (setLatch s).link.errShort = s.link.errShort ∧ (setLatch s).link.presence = s.link.presence ∧
    (setLatch s).link.statusTimer = s.link.statusTimer ∧ (setLatch s).budget.table = s.budget.table ∧
    (setLatch s).budget.epoch = s.budget.epoch ∧ (setLatch s).budget.inStep = s.budget.inStep ∧
    (setLatch s).budget.coldTimer = s.budget.coldTimer ∧ (setLatch s).budget.lastHeard = s.budget.lastHeard ∧
    (setLatch s).stop.driving = s.stop.driving ∧ (setLatch s).stop.record = s.stop.record ∧
    (setLatch s).stop.further = s.stop.further ∧ (setLatch s).recorder.store = s.recorder.store ∧
    (setLatch s).recorder.offered = s.recorder.offered ∧ (setLatch s).recorder.lost = s.recorder.lost ∧
    (setLatch s).recorder.sent = s.recorder.sent ∧ (setLatch s).recorder.decCount = s.recorder.decCount ∧
    (setLatch s).recorder.runBegun = s.recorder.runBegun := by
  dsimp only [setLatch]
  (repeat' split) <;> simp

@[simp] theorem recordFault_fields (cause : FaultCause) (s : State) :
    (recordFault cause s).stop.latch = s.stop.latch ∧ (recordFault cause s).stop.driving = s.stop.driving := by
  dsimp only [recordFault]
  (repeat' split) <;> simp

@[simp] theorem stopCell_fields (cause : FaultCause) (s : State) :
    (stopCell cause s).seq.order = s.seq.order ∧ (stopCell cause s).seq.phase = s.seq.phase ∧
    (stopCell cause s).seq.phaseBegun = s.seq.phaseBegun ∧ (stopCell cause s).seq.phaseTime = s.seq.phaseTime ∧
    (stopCell cause s).seq.refValue = s.seq.refValue ∧ (stopCell cause s).seq.holdCount = s.seq.holdCount ∧
    (stopCell cause s).seq.runSamples = s.seq.runSamples ∧ (stopCell cause s).seq.testZero = s.seq.testZero ∧
    (stopCell cause s).seq.returnCancelled = s.seq.returnCancelled ∧
    (stopCell cause s).follow.share = s.follow.share ∧ (stopCell cause s).load.conv = s.load.conv ∧
    (stopCell cause s).load.convTimer = s.load.convTimer ∧ (stopCell cause s).load.reading = s.load.reading ∧
    (stopCell cause s).load.nextIndex = s.load.nextIndex ∧ (stopCell cause s).load.last = s.load.last ∧
    (stopCell cause s).load.statusLoad = s.load.statusLoad ∧ (stopCell cause s).load.range = s.load.range ∧
    (stopCell cause s).load.pendingRange = s.load.pendingRange ∧
    (stopCell cause s).load.rangeMode = s.load.rangeMode ∧ (stopCell cause s).load.settleCount = s.load.settleCount ∧
    (stopCell cause s).load.settling = s.load.settling ∧ (stopCell cause s).load.downCount = s.load.downCount ∧
    (stopCell cause s).load.tareOffset = s.load.tareOffset ∧ (stopCell cause s).load.overCheck = s.load.overCheck ∧
    (stopCell cause s).load.overPrev = s.load.overPrev ∧ (stopCell cause s).load.peak = s.load.peak ∧
    (stopCell cause s).load.breakArmed = s.load.breakArmed ∧ (stopCell cause s).load.breakFound = s.load.breakFound ∧
    (stopCell cause s).ext.idRec = s.ext.idRec ∧ (stopCell cause s).ext.strainCount = s.ext.strainCount ∧
    (stopCell cause s).ext.lastReading = s.ext.lastReading ∧ (stopCell cause s).ext.zero = s.ext.zero ∧
    (stopCell cause s).ext.pair = s.ext.pair ∧ (stopCell cause s).ext.slip = s.ext.slip ∧
    (stopCell cause s).link.line = s.link.line ∧ (stopCell cause s).link.taking = s.link.taking ∧
    (stopCell cause s).link.quiet = s.link.quiet ∧ (stopCell cause s).link.level = s.link.level ∧
    (stopCell cause s).link.status = s.link.status ∧ (stopCell cause s).link.inFlight = s.link.inFlight ∧
    (stopCell cause s).link.errCheck = s.link.errCheck ∧ (stopCell cause s).link.errLength = s.link.errLength ∧
    (stopCell cause s).link.errShort = s.link.errShort ∧ (stopCell cause s).link.presence = s.link.presence ∧
    (stopCell cause s).link.statusTimer = s.link.statusTimer ∧ (stopCell cause s).budget.table = s.budget.table ∧
    (stopCell cause s).budget.epoch = s.budget.epoch ∧ (stopCell cause s).budget.inStep = s.budget.inStep ∧
    (stopCell cause s).budget.coldTimer = s.budget.coldTimer ∧
    (stopCell cause s).budget.lastHeard = s.budget.lastHeard ∧ (stopCell cause s).stop.record = s.stop.record ∧
    (stopCell cause s).stop.further = s.stop.further ∧ (stopCell cause s).recorder.store = s.recorder.store ∧
    (stopCell cause s).recorder.offered = s.recorder.offered ∧ (stopCell cause s).recorder.lost = s.recorder.lost ∧
    (stopCell cause s).recorder.sent = s.recorder.sent ∧ (stopCell cause s).recorder.decCount = s.recorder.decCount ∧
    (stopCell cause s).recorder.runBegun = s.recorder.runBegun := by
  dsimp only [stopCell]
  simp

@[simp] theorem report_fields (cause : FaultCause) (s : State) :
    (report cause s).seq.order = s.seq.order ∧ (report cause s).seq.phase = s.seq.phase ∧
    (report cause s).seq.phaseBegun = s.seq.phaseBegun ∧ (report cause s).seq.phaseTime = s.seq.phaseTime ∧
    (report cause s).seq.refValue = s.seq.refValue ∧ (report cause s).seq.holdCount = s.seq.holdCount ∧
    (report cause s).seq.runSamples = s.seq.runSamples ∧ (report cause s).seq.testZero = s.seq.testZero ∧
    (report cause s).seq.returnCancelled = s.seq.returnCancelled ∧ (report cause s).follow.share = s.follow.share ∧
    (report cause s).load.conv = s.load.conv ∧ (report cause s).load.convTimer = s.load.convTimer ∧
    (report cause s).load.reading = s.load.reading ∧ (report cause s).load.nextIndex = s.load.nextIndex ∧
    (report cause s).load.last = s.load.last ∧ (report cause s).load.statusLoad = s.load.statusLoad ∧
    (report cause s).load.range = s.load.range ∧ (report cause s).load.pendingRange = s.load.pendingRange ∧
    (report cause s).load.rangeMode = s.load.rangeMode ∧ (report cause s).load.settleCount = s.load.settleCount ∧
    (report cause s).load.settling = s.load.settling ∧ (report cause s).load.downCount = s.load.downCount ∧
    (report cause s).load.tareOffset = s.load.tareOffset ∧ (report cause s).load.overCheck = s.load.overCheck ∧
    (report cause s).load.overPrev = s.load.overPrev ∧ (report cause s).load.peak = s.load.peak ∧
    (report cause s).load.breakArmed = s.load.breakArmed ∧ (report cause s).load.breakFound = s.load.breakFound ∧
    (report cause s).ext.idRec = s.ext.idRec ∧ (report cause s).ext.strainCount = s.ext.strainCount ∧
    (report cause s).ext.lastReading = s.ext.lastReading ∧ (report cause s).ext.zero = s.ext.zero ∧
    (report cause s).ext.pair = s.ext.pair ∧ (report cause s).ext.slip = s.ext.slip ∧
    (report cause s).link.line = s.link.line ∧ (report cause s).link.taking = s.link.taking ∧
    (report cause s).link.quiet = s.link.quiet ∧ (report cause s).link.level = s.link.level ∧
    (report cause s).link.status = s.link.status ∧ (report cause s).link.inFlight = s.link.inFlight ∧
    (report cause s).link.errCheck = s.link.errCheck ∧ (report cause s).link.errLength = s.link.errLength ∧
    (report cause s).link.errShort = s.link.errShort ∧ (report cause s).link.presence = s.link.presence ∧
    (report cause s).link.statusTimer = s.link.statusTimer ∧ (report cause s).budget.table = s.budget.table ∧
    (report cause s).budget.epoch = s.budget.epoch ∧ (report cause s).budget.inStep = s.budget.inStep ∧
    (report cause s).budget.coldTimer = s.budget.coldTimer ∧ (report cause s).budget.lastHeard = s.budget.lastHeard ∧
    (report cause s).recorder.store = s.recorder.store ∧ (report cause s).recorder.offered = s.recorder.offered ∧
    (report cause s).recorder.lost = s.recorder.lost ∧ (report cause s).recorder.sent = s.recorder.sent ∧
    (report cause s).recorder.decCount = s.recorder.decCount ∧
    (report cause s).recorder.runBegun = s.recorder.runBegun := by
  dsimp only [report]
  (repeat' split) <;> simp

@[simp] theorem takeAttach_fields (s : State) :
    (takeAttach s).ext.shift = s.ext.shift ∧ (takeAttach s).ext.identTimer = s.ext.identTimer ∧
    (takeAttach s).ext.strainCount = s.ext.strainCount ∧ (takeAttach s).ext.lastReading = s.ext.lastReading ∧
    (takeAttach s).ext.zero = s.ext.zero ∧ (takeAttach s).ext.pair = s.ext.pair ∧
    (takeAttach s).ext.offset = s.ext.offset ∧ (takeAttach s).ext.slip = s.ext.slip := by
  dsimp only [takeAttach]
  simp

@[simp] theorem enterAttaching_fields (s : State) :
    (enterAttaching s).seq.order = s.seq.order ∧ (enterAttaching s).seq.phase = s.seq.phase ∧
    (enterAttaching s).seq.phaseBegun = s.seq.phaseBegun ∧ (enterAttaching s).seq.phaseTime = s.seq.phaseTime ∧
    (enterAttaching s).seq.refValue = s.seq.refValue ∧ (enterAttaching s).seq.holdCount = s.seq.holdCount ∧
    (enterAttaching s).seq.runSamples = s.seq.runSamples ∧ (enterAttaching s).seq.testZero = s.seq.testZero ∧
    (enterAttaching s).seq.returnCancelled = s.seq.returnCancelled ∧
    (enterAttaching s).follow.share = s.follow.share ∧ (enterAttaching s).load.conv = s.load.conv ∧
    (enterAttaching s).load.convTimer = s.load.convTimer ∧ (enterAttaching s).load.reading = s.load.reading ∧
    (enterAttaching s).load.nextIndex = s.load.nextIndex ∧ (enterAttaching s).load.last = s.load.last ∧
    (enterAttaching s).load.statusLoad = s.load.statusLoad ∧ (enterAttaching s).load.range = s.load.range ∧
    (enterAttaching s).load.pendingRange = s.load.pendingRange ∧
    (enterAttaching s).load.rangeMode = s.load.rangeMode ∧ (enterAttaching s).load.settleCount = s.load.settleCount ∧
    (enterAttaching s).load.settling = s.load.settling ∧ (enterAttaching s).load.downCount = s.load.downCount ∧
    (enterAttaching s).load.tareOffset = s.load.tareOffset ∧ (enterAttaching s).load.overCheck = s.load.overCheck ∧
    (enterAttaching s).load.overPrev = s.load.overPrev ∧ (enterAttaching s).load.peak = s.load.peak ∧
    (enterAttaching s).load.breakArmed = s.load.breakArmed ∧ (enterAttaching s).load.breakFound = s.load.breakFound ∧
    (enterAttaching s).ext.strainCount = s.ext.strainCount ∧ (enterAttaching s).ext.lastReading = s.ext.lastReading ∧
    (enterAttaching s).ext.zero = s.ext.zero ∧ (enterAttaching s).ext.pair = s.ext.pair ∧
    (enterAttaching s).ext.slip = s.ext.slip ∧ (enterAttaching s).link.line = s.link.line ∧
    (enterAttaching s).link.taking = s.link.taking ∧ (enterAttaching s).link.quiet = s.link.quiet ∧
    (enterAttaching s).link.level = s.link.level ∧ (enterAttaching s).link.status = s.link.status ∧
    (enterAttaching s).link.inFlight = s.link.inFlight ∧ (enterAttaching s).link.errCheck = s.link.errCheck ∧
    (enterAttaching s).link.errLength = s.link.errLength ∧ (enterAttaching s).link.errShort = s.link.errShort ∧
    (enterAttaching s).link.presence = s.link.presence ∧ (enterAttaching s).link.statusTimer = s.link.statusTimer ∧
    (enterAttaching s).budget.table = s.budget.table ∧ (enterAttaching s).budget.epoch = s.budget.epoch ∧
    (enterAttaching s).budget.inStep = s.budget.inStep ∧ (enterAttaching s).budget.coldTimer = s.budget.coldTimer ∧
    (enterAttaching s).budget.lastHeard = s.budget.lastHeard ∧ (enterAttaching s).recorder.store = s.recorder.store ∧
    (enterAttaching s).recorder.offered = s.recorder.offered ∧ (enterAttaching s).recorder.lost = s.recorder.lost ∧
    (enterAttaching s).recorder.sent = s.recorder.sent ∧ (enterAttaching s).recorder.decCount = s.recorder.decCount ∧
    (enterAttaching s).recorder.runBegun = s.recorder.runBegun := by
  dsimp only [enterAttaching]
  (repeat' split) <;> simp

@[simp] theorem attachEvent_fields (kind : ExtEventKind) (code : Nat) (cause : FaultCause) (s : State) :
    (attachEvent kind code cause s).seq.order = s.seq.order ∧
    (attachEvent kind code cause s).seq.phase = s.seq.phase ∧
    (attachEvent kind code cause s).seq.phaseBegun = s.seq.phaseBegun ∧
    (attachEvent kind code cause s).seq.phaseTime = s.seq.phaseTime ∧
    (attachEvent kind code cause s).seq.refValue = s.seq.refValue ∧
    (attachEvent kind code cause s).seq.holdCount = s.seq.holdCount ∧
    (attachEvent kind code cause s).seq.runSamples = s.seq.runSamples ∧
    (attachEvent kind code cause s).seq.testZero = s.seq.testZero ∧
    (attachEvent kind code cause s).seq.returnCancelled = s.seq.returnCancelled ∧
    (attachEvent kind code cause s).follow.share = s.follow.share ∧
    (attachEvent kind code cause s).load.conv = s.load.conv ∧
    (attachEvent kind code cause s).load.convTimer = s.load.convTimer ∧
    (attachEvent kind code cause s).load.reading = s.load.reading ∧
    (attachEvent kind code cause s).load.nextIndex = s.load.nextIndex ∧
    (attachEvent kind code cause s).load.last = s.load.last ∧
    (attachEvent kind code cause s).load.statusLoad = s.load.statusLoad ∧
    (attachEvent kind code cause s).load.range = s.load.range ∧
    (attachEvent kind code cause s).load.pendingRange = s.load.pendingRange ∧
    (attachEvent kind code cause s).load.rangeMode = s.load.rangeMode ∧
    (attachEvent kind code cause s).load.settleCount = s.load.settleCount ∧
    (attachEvent kind code cause s).load.settling = s.load.settling ∧
    (attachEvent kind code cause s).load.downCount = s.load.downCount ∧
    (attachEvent kind code cause s).load.tareOffset = s.load.tareOffset ∧
    (attachEvent kind code cause s).load.overCheck = s.load.overCheck ∧
    (attachEvent kind code cause s).load.overPrev = s.load.overPrev ∧
    (attachEvent kind code cause s).load.peak = s.load.peak ∧
    (attachEvent kind code cause s).load.breakArmed = s.load.breakArmed ∧
    (attachEvent kind code cause s).load.breakFound = s.load.breakFound ∧
    (attachEvent kind code cause s).ext.idRec = s.ext.idRec ∧
    (attachEvent kind code cause s).ext.strainCount = s.ext.strainCount ∧
    (attachEvent kind code cause s).ext.lastReading = s.ext.lastReading ∧
    (attachEvent kind code cause s).ext.zero = s.ext.zero ∧ (attachEvent kind code cause s).ext.pair = s.ext.pair ∧
    (attachEvent kind code cause s).ext.slip = s.ext.slip ∧ (attachEvent kind code cause s).link.line = s.link.line ∧
    (attachEvent kind code cause s).link.taking = s.link.taking ∧
    (attachEvent kind code cause s).link.quiet = s.link.quiet ∧
    (attachEvent kind code cause s).link.level = s.link.level ∧
    (attachEvent kind code cause s).link.status = s.link.status ∧
    (attachEvent kind code cause s).link.inFlight = s.link.inFlight ∧
    (attachEvent kind code cause s).link.errCheck = s.link.errCheck ∧
    (attachEvent kind code cause s).link.errLength = s.link.errLength ∧
    (attachEvent kind code cause s).link.errShort = s.link.errShort ∧
    (attachEvent kind code cause s).link.presence = s.link.presence ∧
    (attachEvent kind code cause s).link.statusTimer = s.link.statusTimer ∧
    (attachEvent kind code cause s).budget.table = s.budget.table ∧
    (attachEvent kind code cause s).budget.epoch = s.budget.epoch ∧
    (attachEvent kind code cause s).budget.inStep = s.budget.inStep ∧
    (attachEvent kind code cause s).budget.coldTimer = s.budget.coldTimer ∧
    (attachEvent kind code cause s).budget.lastHeard = s.budget.lastHeard ∧
    (attachEvent kind code cause s).recorder.store = s.recorder.store ∧
    (attachEvent kind code cause s).recorder.offered = s.recorder.offered ∧
    (attachEvent kind code cause s).recorder.lost = s.recorder.lost ∧
    (attachEvent kind code cause s).recorder.sent = s.recorder.sent ∧
    (attachEvent kind code cause s).recorder.decCount = s.recorder.decCount ∧
    (attachEvent kind code cause s).recorder.runBegun = s.recorder.runBegun := by
  dsimp only [attachEvent]
  (repeat' split) <;> simp

@[simp] theorem failAttach_fields (kind : ExtEventKind) (code : Nat) (cause : FaultCause) (s : State) :
    (failAttach kind code cause s).seq.order = s.seq.order ∧ (failAttach kind code cause s).seq.phase = s.seq.phase ∧
    (failAttach kind code cause s).seq.phaseBegun = s.seq.phaseBegun ∧
    (failAttach kind code cause s).seq.phaseTime = s.seq.phaseTime ∧
    (failAttach kind code cause s).seq.refValue = s.seq.refValue ∧
    (failAttach kind code cause s).seq.holdCount = s.seq.holdCount ∧
    (failAttach kind code cause s).seq.runSamples = s.seq.runSamples ∧
    (failAttach kind code cause s).seq.testZero = s.seq.testZero ∧
    (failAttach kind code cause s).seq.returnCancelled = s.seq.returnCancelled ∧
    (failAttach kind code cause s).follow.share = s.follow.share ∧
    (failAttach kind code cause s).load.conv = s.load.conv ∧
    (failAttach kind code cause s).load.convTimer = s.load.convTimer ∧
    (failAttach kind code cause s).load.reading = s.load.reading ∧
    (failAttach kind code cause s).load.nextIndex = s.load.nextIndex ∧
    (failAttach kind code cause s).load.last = s.load.last ∧
    (failAttach kind code cause s).load.statusLoad = s.load.statusLoad ∧
    (failAttach kind code cause s).load.range = s.load.range ∧
    (failAttach kind code cause s).load.pendingRange = s.load.pendingRange ∧
    (failAttach kind code cause s).load.rangeMode = s.load.rangeMode ∧
    (failAttach kind code cause s).load.settleCount = s.load.settleCount ∧
    (failAttach kind code cause s).load.settling = s.load.settling ∧
    (failAttach kind code cause s).load.downCount = s.load.downCount ∧
    (failAttach kind code cause s).load.tareOffset = s.load.tareOffset ∧
    (failAttach kind code cause s).load.overCheck = s.load.overCheck ∧
    (failAttach kind code cause s).load.overPrev = s.load.overPrev ∧
    (failAttach kind code cause s).load.peak = s.load.peak ∧
    (failAttach kind code cause s).load.breakArmed = s.load.breakArmed ∧
    (failAttach kind code cause s).load.breakFound = s.load.breakFound ∧
    (failAttach kind code cause s).ext.idRec = s.ext.idRec ∧
    (failAttach kind code cause s).ext.strainCount = s.ext.strainCount ∧
    (failAttach kind code cause s).ext.lastReading = s.ext.lastReading ∧
    (failAttach kind code cause s).ext.zero = s.ext.zero ∧ (failAttach kind code cause s).ext.pair = s.ext.pair ∧
    (failAttach kind code cause s).ext.slip = s.ext.slip ∧ (failAttach kind code cause s).link.line = s.link.line ∧
    (failAttach kind code cause s).link.taking = s.link.taking ∧
    (failAttach kind code cause s).link.quiet = s.link.quiet ∧
    (failAttach kind code cause s).link.level = s.link.level ∧
    (failAttach kind code cause s).link.status = s.link.status ∧
    (failAttach kind code cause s).link.inFlight = s.link.inFlight ∧
    (failAttach kind code cause s).link.errCheck = s.link.errCheck ∧
    (failAttach kind code cause s).link.errLength = s.link.errLength ∧
    (failAttach kind code cause s).link.errShort = s.link.errShort ∧
    (failAttach kind code cause s).link.presence = s.link.presence ∧
    (failAttach kind code cause s).link.statusTimer = s.link.statusTimer ∧
    (failAttach kind code cause s).budget.table = s.budget.table ∧
    (failAttach kind code cause s).budget.epoch = s.budget.epoch ∧
    (failAttach kind code cause s).budget.inStep = s.budget.inStep ∧
    (failAttach kind code cause s).budget.coldTimer = s.budget.coldTimer ∧
    (failAttach kind code cause s).budget.lastHeard = s.budget.lastHeard ∧
    (failAttach kind code cause s).recorder.store = s.recorder.store ∧
    (failAttach kind code cause s).recorder.offered = s.recorder.offered ∧
    (failAttach kind code cause s).recorder.lost = s.recorder.lost ∧
    (failAttach kind code cause s).recorder.sent = s.recorder.sent ∧
    (failAttach kind code cause s).recorder.decCount = s.recorder.decCount ∧
    (failAttach kind code cause s).recorder.runBegun = s.recorder.runBegun := by
  dsimp only [failAttach]
  simp [Ext.opening]

@[simp] theorem enterMeasuring_fields (s : State) :
    (enterMeasuring s).ext.idRec = s.ext.idRec ∧ (enterMeasuring s).ext.shift = s.ext.shift ∧
    (enterMeasuring s).ext.closeTimer = s.ext.closeTimer ∧ (enterMeasuring s).ext.identTimer = s.ext.identTimer ∧
    (enterMeasuring s).ext.openTimer = s.ext.openTimer ∧ (enterMeasuring s).ext.strainCount = s.ext.strainCount ∧
    (enterMeasuring s).ext.lastReading = s.ext.lastReading ∧ (enterMeasuring s).ext.offset = s.ext.offset ∧
    (enterMeasuring s).ext.attachWaits = s.ext.attachWaits := by
  unfold enterMeasuring
  simp

@[simp] theorem reportMeasuring_fields (s : State) :
    (reportMeasuring s).seq.order = s.seq.order ∧ (reportMeasuring s).seq.phase = s.seq.phase ∧
    (reportMeasuring s).seq.phaseBegun = s.seq.phaseBegun ∧ (reportMeasuring s).seq.phaseTime = s.seq.phaseTime ∧
    (reportMeasuring s).seq.refValue = s.seq.refValue ∧ (reportMeasuring s).seq.holdCount = s.seq.holdCount ∧
    (reportMeasuring s).seq.runSamples = s.seq.runSamples ∧ (reportMeasuring s).seq.testZero = s.seq.testZero ∧
    (reportMeasuring s).seq.returnCancelled = s.seq.returnCancelled ∧ (reportMeasuring s).link.line = s.link.line ∧
    (reportMeasuring s).link.taking = s.link.taking ∧ (reportMeasuring s).link.quiet = s.link.quiet ∧
    (reportMeasuring s).link.stop = s.link.stop ∧ (reportMeasuring s).link.level = s.link.level ∧
    (reportMeasuring s).link.status = s.link.status ∧ (reportMeasuring s).link.result = s.link.result ∧
    (reportMeasuring s).link.curve = s.link.curve ∧ (reportMeasuring s).link.inFlight = s.link.inFlight ∧
    (reportMeasuring s).link.notices = s.link.notices ∧ (reportMeasuring s).link.lost = s.link.lost ∧
    (reportMeasuring s).link.errCheck = s.link.errCheck ∧ (reportMeasuring s).link.errLength = s.link.errLength ∧
    (reportMeasuring s).link.errShort = s.link.errShort ∧ (reportMeasuring s).link.presence = s.link.presence ∧
    (reportMeasuring s).link.statusTimer = s.link.statusTimer ∧ (reportMeasuring s).budget.table = s.budget.table ∧
    (reportMeasuring s).budget.epoch = s.budget.epoch ∧ (reportMeasuring s).budget.inStep = s.budget.inStep ∧
    (reportMeasuring s).budget.coldTimer = s.budget.coldTimer ∧
    (reportMeasuring s).budget.lastHeard = s.budget.lastHeard := by
  unfold reportMeasuring
  split <;> simp

@[simp] theorem settled_fields (s : State) :
    (settled s).seq.order = s.seq.order ∧ (settled s).seq.phase = s.seq.phase ∧
    (settled s).seq.phaseBegun = s.seq.phaseBegun ∧ (settled s).seq.phaseTime = s.seq.phaseTime ∧
    (settled s).seq.refValue = s.seq.refValue ∧ (settled s).seq.holdCount = s.seq.holdCount ∧
    (settled s).seq.runSamples = s.seq.runSamples ∧ (settled s).seq.testZero = s.seq.testZero ∧
    (settled s).seq.returnCancelled = s.seq.returnCancelled ∧ (settled s).ext.idRec = s.ext.idRec ∧
    (settled s).ext.shift = s.ext.shift ∧ (settled s).ext.closeTimer = s.ext.closeTimer ∧
    (settled s).ext.identTimer = s.ext.identTimer ∧ (settled s).ext.openTimer = s.ext.openTimer ∧
    (settled s).ext.strainCount = s.ext.strainCount ∧ (settled s).ext.lastReading = s.ext.lastReading ∧
    (settled s).ext.offset = s.ext.offset ∧ (settled s).ext.attachWaits = s.ext.attachWaits ∧
    (settled s).link.line = s.link.line ∧ (settled s).link.taking = s.link.taking ∧
    (settled s).link.quiet = s.link.quiet ∧ (settled s).link.stop = s.link.stop ∧
    (settled s).link.level = s.link.level ∧ (settled s).link.status = s.link.status ∧
    (settled s).link.result = s.link.result ∧ (settled s).link.curve = s.link.curve ∧
    (settled s).link.inFlight = s.link.inFlight ∧ (settled s).link.notices = s.link.notices ∧
    (settled s).link.lost = s.link.lost ∧ (settled s).link.errCheck = s.link.errCheck ∧
    (settled s).link.errLength = s.link.errLength ∧ (settled s).link.errShort = s.link.errShort ∧
    (settled s).link.presence = s.link.presence ∧ (settled s).link.statusTimer = s.link.statusTimer ∧
    (settled s).budget.table = s.budget.table ∧ (settled s).budget.epoch = s.budget.epoch ∧
    (settled s).budget.inStep = s.budget.inStep ∧ (settled s).budget.coldTimer = s.budget.coldTimer ∧
    (settled s).budget.lastHeard = s.budget.lastHeard := by
  unfold settled
  split <;> simp

@[simp] theorem enterRunning_fields (s : State) :
    (enterRunning s).seq.order = s.seq.order ∧ (enterRunning s).seq.phase = s.seq.phase ∧
    (enterRunning s).seq.phaseBegun = s.seq.phaseBegun ∧ (enterRunning s).seq.phaseTime = s.seq.phaseTime ∧
    (enterRunning s).seq.refValue = s.seq.refValue ∧ (enterRunning s).seq.holdCount = s.seq.holdCount ∧
    (enterRunning s).seq.testZero = s.seq.testZero ∧ (enterRunning s).seq.returnCancelled = s.seq.returnCancelled ∧
    (enterRunning s).pair.mirror = s.pair.mirror ∧ (enterRunning s).pair.age = s.pair.age ∧
    (enterRunning s).pair.levelRun = s.pair.levelRun ∧ (enterRunning s).pair.levelTimer = s.pair.levelTimer ∧
    (enterRunning s).pair.skew = s.pair.skew ∧ (enterRunning s).pair.skewKnown = s.pair.skewKnown ∧
    (enterRunning s).pair.trim = s.pair.trim ∧ (enterRunning s).pair.alarmed = s.pair.alarmed ∧
    (enterRunning s).pair.overLimit = s.pair.overLimit ∧ (enterRunning s).pair.joined = s.pair.joined ∧
    (enterRunning s).recorder.collection = s.recorder.collection ∧
    (enterRunning s).recorder.store = s.recorder.store ∧ (enterRunning s).recorder.offered = s.recorder.offered ∧
    (enterRunning s).recorder.lost = s.recorder.lost ∧ (enterRunning s).recorder.sent = s.recorder.sent ∧
    (enterRunning s).recorder.decCount = s.recorder.decCount ∧
    (enterRunning s).recorder.waiting = s.recorder.waiting := by
  dsimp only [enterRunning]
  (repeat' split) <;> simp

@[simp] theorem enterHeld_fields (causes : HoldCauses) (s : State) :
    (enterHeld causes s).seq.order = s.seq.order ∧ (enterHeld causes s).seq.phase = s.seq.phase ∧
    (enterHeld causes s).seq.phaseBegun = s.seq.phaseBegun ∧ (enterHeld causes s).seq.phaseTime = s.seq.phaseTime ∧
    (enterHeld causes s).seq.refValue = s.seq.refValue ∧ (enterHeld causes s).seq.runSamples = s.seq.runSamples ∧
    (enterHeld causes s).seq.testZero = s.seq.testZero ∧
    (enterHeld causes s).seq.returnCancelled = s.seq.returnCancelled ∧ (enterHeld causes s).link.line = s.link.line ∧
    (enterHeld causes s).link.taking = s.link.taking ∧ (enterHeld causes s).link.quiet = s.link.quiet ∧
    (enterHeld causes s).link.stop = s.link.stop ∧ (enterHeld causes s).link.grant = s.link.grant ∧
    (enterHeld causes s).link.level = s.link.level ∧ (enterHeld causes s).link.status = s.link.status ∧
    (enterHeld causes s).link.result = s.link.result ∧ (enterHeld causes s).link.curve = s.link.curve ∧
    (enterHeld causes s).link.inFlight = s.link.inFlight ∧ (enterHeld causes s).link.errCheck = s.link.errCheck ∧
    (enterHeld causes s).link.errLength = s.link.errLength ∧ (enterHeld causes s).link.errShort = s.link.errShort ∧
    (enterHeld causes s).link.presence = s.link.presence ∧
    (enterHeld causes s).link.statusTimer = s.link.statusTimer := by
  dsimp only [enterHeld]
  simp

@[simp] theorem beginPhase_fields (r : SampleRec) (s : State) :
    (beginPhase r s).ext.idRec = s.ext.idRec ∧ (beginPhase r s).ext.strainCount = s.ext.strainCount ∧
    (beginPhase r s).ext.lastReading = s.ext.lastReading ∧ (beginPhase r s).ext.zero = s.ext.zero ∧
    (beginPhase r s).ext.pair = s.ext.pair ∧ (beginPhase r s).ext.slip = s.ext.slip ∧
    (beginPhase r s).ext.attachWaits = s.ext.attachWaits := by
  dsimp only [beginPhase]
  (repeat' split) <;> simp

@[simp] theorem nextPhase_fields (r : SampleRec) (s : State) :
    (nextPhase r s).pair.mirror = s.pair.mirror ∧ (nextPhase r s).pair.age = s.pair.age ∧
    (nextPhase r s).pair.levelRun = s.pair.levelRun ∧ (nextPhase r s).pair.levelTimer = s.pair.levelTimer ∧
    (nextPhase r s).pair.skew = s.pair.skew ∧ (nextPhase r s).pair.skewKnown = s.pair.skewKnown ∧
    (nextPhase r s).pair.trim = s.pair.trim ∧ (nextPhase r s).pair.alarmed = s.pair.alarmed ∧
    (nextPhase r s).pair.overLimit = s.pair.overLimit ∧ (nextPhase r s).pair.joined = s.pair.joined ∧
    (nextPhase r s).ext.idRec = s.ext.idRec ∧ (nextPhase r s).ext.strainCount = s.ext.strainCount ∧
    (nextPhase r s).ext.lastReading = s.ext.lastReading ∧ (nextPhase r s).ext.zero = s.ext.zero ∧
    (nextPhase r s).ext.pair = s.ext.pair ∧ (nextPhase r s).ext.slip = s.ext.slip ∧
    (nextPhase r s).budget.table = s.budget.table ∧ (nextPhase r s).budget.epoch = s.budget.epoch ∧
    (nextPhase r s).budget.inStep = s.budget.inStep ∧ (nextPhase r s).budget.coldTimer = s.budget.coldTimer ∧
    (nextPhase r s).budget.lastHeard = s.budget.lastHeard ∧
    (nextPhase r s).recorder.collection = s.recorder.collection ∧ (nextPhase r s).recorder.store = s.recorder.store ∧
    (nextPhase r s).recorder.offered = s.recorder.offered ∧ (nextPhase r s).recorder.lost = s.recorder.lost ∧
    (nextPhase r s).recorder.sent = s.recorder.sent ∧ (nextPhase r s).recorder.decCount = s.recorder.decCount ∧
    (nextPhase r s).recorder.waiting = s.recorder.waiting := by
  dsimp only [nextPhase]
  (repeat' split) <;> simp

@[simp] theorem loseUnits_fields (s : State) :
    (loseUnits s).seq.order = s.seq.order ∧ (loseUnits s).seq.phase = s.seq.phase ∧
    (loseUnits s).seq.phaseBegun = s.seq.phaseBegun ∧ (loseUnits s).seq.phaseTime = s.seq.phaseTime ∧
    (loseUnits s).seq.refValue = s.seq.refValue ∧ (loseUnits s).seq.holdCount = s.seq.holdCount ∧
    (loseUnits s).seq.runSamples = s.seq.runSamples ∧ (loseUnits s).seq.testZero = s.seq.testZero ∧
    (loseUnits s).seq.returnCancelled = s.seq.returnCancelled ∧ (loseUnits s).follow.share = s.follow.share ∧
    (loseUnits s).load.conv = s.load.conv ∧ (loseUnits s).load.convTimer = s.load.convTimer ∧
    (loseUnits s).load.reading = s.load.reading ∧ (loseUnits s).load.nextIndex = s.load.nextIndex ∧
    (loseUnits s).load.last = s.load.last ∧ (loseUnits s).load.statusLoad = s.load.statusLoad ∧
    (loseUnits s).load.range = s.load.range ∧ (loseUnits s).load.pendingRange = s.load.pendingRange ∧
    (loseUnits s).load.rangeMode = s.load.rangeMode ∧ (loseUnits s).load.settleCount = s.load.settleCount ∧
    (loseUnits s).load.settling = s.load.settling ∧ (loseUnits s).load.downCount = s.load.downCount ∧
    (loseUnits s).load.tareOffset = s.load.tareOffset ∧ (loseUnits s).load.overCheck = s.load.overCheck ∧
    (loseUnits s).load.overPrev = s.load.overPrev ∧ (loseUnits s).load.peak = s.load.peak ∧
    (loseUnits s).load.breakArmed = s.load.breakArmed ∧ (loseUnits s).load.breakFound = s.load.breakFound ∧
    (loseUnits s).ext.idRec = s.ext.idRec ∧ (loseUnits s).ext.strainCount = s.ext.strainCount ∧
    (loseUnits s).ext.lastReading = s.ext.lastReading ∧ (loseUnits s).ext.zero = s.ext.zero ∧
    (loseUnits s).ext.pair = s.ext.pair ∧ (loseUnits s).ext.slip = s.ext.slip ∧
    (loseUnits s).link.line = s.link.line ∧ (loseUnits s).link.taking = s.link.taking ∧
    (loseUnits s).link.quiet = s.link.quiet ∧ (loseUnits s).link.level = s.link.level ∧
    (loseUnits s).link.status = s.link.status ∧ (loseUnits s).link.inFlight = s.link.inFlight ∧
    (loseUnits s).link.errCheck = s.link.errCheck ∧ (loseUnits s).link.errLength = s.link.errLength ∧
    (loseUnits s).link.errShort = s.link.errShort ∧ (loseUnits s).link.presence = s.link.presence ∧
    (loseUnits s).link.statusTimer = s.link.statusTimer ∧ (loseUnits s).budget.table = s.budget.table ∧
    (loseUnits s).budget.epoch = s.budget.epoch ∧ (loseUnits s).budget.inStep = s.budget.inStep ∧
    (loseUnits s).budget.coldTimer = s.budget.coldTimer ∧ (loseUnits s).budget.lastHeard = s.budget.lastHeard ∧
    (loseUnits s).recorder.store = s.recorder.store ∧ (loseUnits s).recorder.offered = s.recorder.offered ∧
    (loseUnits s).recorder.lost = s.recorder.lost ∧ (loseUnits s).recorder.sent = s.recorder.sent ∧
    (loseUnits s).recorder.decCount = s.recorder.decCount ∧
    (loseUnits s).recorder.runBegun = s.recorder.runBegun := by
  dsimp only [loseUnits]
  (repeat' split) <;> simp

@[simp] theorem reclaimNode_fields (n : Nat) (epoch : Byte) (s : State) :
    (reclaimNode n epoch s).seq.order = s.seq.order ∧ (reclaimNode n epoch s).seq.phase = s.seq.phase ∧
    (reclaimNode n epoch s).seq.phaseBegun = s.seq.phaseBegun ∧
    (reclaimNode n epoch s).seq.phaseTime = s.seq.phaseTime ∧ (reclaimNode n epoch s).seq.refValue = s.seq.refValue ∧
    (reclaimNode n epoch s).seq.holdCount = s.seq.holdCount ∧
    (reclaimNode n epoch s).seq.runSamples = s.seq.runSamples ∧
    (reclaimNode n epoch s).seq.testZero = s.seq.testZero ∧
    (reclaimNode n epoch s).seq.returnCancelled = s.seq.returnCancelled ∧
    (reclaimNode n epoch s).follow.share = s.follow.share ∧ (reclaimNode n epoch s).load.conv = s.load.conv ∧
    (reclaimNode n epoch s).load.convTimer = s.load.convTimer ∧
    (reclaimNode n epoch s).load.reading = s.load.reading ∧
    (reclaimNode n epoch s).load.nextIndex = s.load.nextIndex ∧ (reclaimNode n epoch s).load.last = s.load.last ∧
    (reclaimNode n epoch s).load.statusLoad = s.load.statusLoad ∧ (reclaimNode n epoch s).load.range = s.load.range ∧
    (reclaimNode n epoch s).load.pendingRange = s.load.pendingRange ∧
    (reclaimNode n epoch s).load.rangeMode = s.load.rangeMode ∧
    (reclaimNode n epoch s).load.settleCount = s.load.settleCount ∧
    (reclaimNode n epoch s).load.settling = s.load.settling ∧
    (reclaimNode n epoch s).load.downCount = s.load.downCount ∧
    (reclaimNode n epoch s).load.tareOffset = s.load.tareOffset ∧
    (reclaimNode n epoch s).load.overCheck = s.load.overCheck ∧
    (reclaimNode n epoch s).load.overPrev = s.load.overPrev ∧ (reclaimNode n epoch s).load.peak = s.load.peak ∧
    (reclaimNode n epoch s).load.breakArmed = s.load.breakArmed ∧
    (reclaimNode n epoch s).load.breakFound = s.load.breakFound ∧ (reclaimNode n epoch s).ext.idRec = s.ext.idRec ∧
    (reclaimNode n epoch s).ext.strainCount = s.ext.strainCount ∧
    (reclaimNode n epoch s).ext.lastReading = s.ext.lastReading ∧ (reclaimNode n epoch s).ext.zero = s.ext.zero ∧
    (reclaimNode n epoch s).ext.pair = s.ext.pair ∧ (reclaimNode n epoch s).ext.slip = s.ext.slip ∧
    (reclaimNode n epoch s).link.line = s.link.line ∧ (reclaimNode n epoch s).link.taking = s.link.taking ∧
    (reclaimNode n epoch s).link.quiet = s.link.quiet ∧ (reclaimNode n epoch s).link.level = s.link.level ∧
    (reclaimNode n epoch s).link.status = s.link.status ∧ (reclaimNode n epoch s).link.inFlight = s.link.inFlight ∧
    (reclaimNode n epoch s).link.errCheck = s.link.errCheck ∧
    (reclaimNode n epoch s).link.errLength = s.link.errLength ∧
    (reclaimNode n epoch s).link.errShort = s.link.errShort ∧
    (reclaimNode n epoch s).link.presence = s.link.presence ∧
    (reclaimNode n epoch s).link.statusTimer = s.link.statusTimer ∧
    (reclaimNode n epoch s).budget.inStep = s.budget.inStep ∧
    (reclaimNode n epoch s).budget.coldTimer = s.budget.coldTimer ∧
    (reclaimNode n epoch s).budget.lastHeard = s.budget.lastHeard ∧
    (reclaimNode n epoch s).recorder.store = s.recorder.store ∧
    (reclaimNode n epoch s).recorder.offered = s.recorder.offered ∧
    (reclaimNode n epoch s).recorder.lost = s.recorder.lost ∧
    (reclaimNode n epoch s).recorder.sent = s.recorder.sent ∧
    (reclaimNode n epoch s).recorder.decCount = s.recorder.decCount ∧
    (reclaimNode n epoch s).recorder.runBegun = s.recorder.runBegun := by
  dsimp only [reclaimNode]
  (repeat' split) <;> simp

@[simp] theorem releasePort_fields (s : State) :
    (releasePort s).seq.order = s.seq.order ∧ (releasePort s).seq.phase = s.seq.phase ∧
    (releasePort s).seq.phaseBegun = s.seq.phaseBegun ∧ (releasePort s).seq.phaseTime = s.seq.phaseTime ∧
    (releasePort s).seq.refValue = s.seq.refValue ∧ (releasePort s).seq.holdCount = s.seq.holdCount ∧
    (releasePort s).seq.runSamples = s.seq.runSamples ∧ (releasePort s).seq.testZero = s.seq.testZero ∧
    (releasePort s).seq.returnCancelled = s.seq.returnCancelled ∧ (releasePort s).follow.share = s.follow.share ∧
    (releasePort s).travel.counter = s.travel.counter ∧ (releasePort s).travel.latched = s.travel.latched ∧
    (releasePort s).travel.appliedAtTick = s.travel.appliedAtTick ∧
    (releasePort s).travel.measure = s.travel.measure ∧ (releasePort s).travel.gateOpen = s.travel.gateOpen ∧
    (releasePort s).travel.gateTicks = s.travel.gateTicks ∧ (releasePort s).travel.gateSum = s.travel.gateSum ∧
    (releasePort s).travel.gateDue = s.travel.gateDue ∧ (releasePort s).travel.periodTimer = s.travel.periodTimer ∧
    (releasePort s).travel.velocity = s.travel.velocity ∧ (releasePort s).travel.standstill = s.travel.standstill ∧
    (releasePort s).travel.regValue = s.travel.regValue ∧ (releasePort s).travel.regMode = s.travel.regMode ∧
    (releasePort s).travel.window = s.travel.window ∧ (releasePort s).travel.holdPosition = s.travel.holdPosition ∧
    (releasePort s).load.conv = s.load.conv ∧ (releasePort s).load.convTimer = s.load.convTimer ∧
    (releasePort s).load.reading = s.load.reading ∧ (releasePort s).load.nextIndex = s.load.nextIndex ∧
    (releasePort s).load.last = s.load.last ∧ (releasePort s).load.statusLoad = s.load.statusLoad ∧
    (releasePort s).load.range = s.load.range ∧ (releasePort s).load.pendingRange = s.load.pendingRange ∧
    (releasePort s).load.rangeMode = s.load.rangeMode ∧ (releasePort s).load.settleCount = s.load.settleCount ∧
    (releasePort s).load.settling = s.load.settling ∧ (releasePort s).load.downCount = s.load.downCount ∧
    (releasePort s).load.tareOffset = s.load.tareOffset ∧ (releasePort s).load.overCheck = s.load.overCheck ∧
    (releasePort s).load.overPrev = s.load.overPrev ∧ (releasePort s).load.peak = s.load.peak ∧
    (releasePort s).load.breakArmed = s.load.breakArmed ∧ (releasePort s).load.breakFound = s.load.breakFound ∧
    (releasePort s).ext.idRec = s.ext.idRec ∧ (releasePort s).ext.strainCount = s.ext.strainCount ∧
    (releasePort s).ext.lastReading = s.ext.lastReading ∧ (releasePort s).ext.zero = s.ext.zero ∧
    (releasePort s).ext.pair = s.ext.pair ∧ (releasePort s).ext.slip = s.ext.slip ∧
    (releasePort s).link.line = s.link.line ∧ (releasePort s).link.taking = s.link.taking ∧
    (releasePort s).link.quiet = s.link.quiet ∧ (releasePort s).link.level = s.link.level ∧
    (releasePort s).link.status = s.link.status ∧ (releasePort s).link.inFlight = s.link.inFlight ∧
    (releasePort s).link.errCheck = s.link.errCheck ∧ (releasePort s).link.errLength = s.link.errLength ∧
    (releasePort s).link.errShort = s.link.errShort ∧ (releasePort s).link.presence = s.link.presence ∧
    (releasePort s).link.statusTimer = s.link.statusTimer ∧ (releasePort s).budget.table = s.budget.table ∧
    (releasePort s).budget.epoch = s.budget.epoch ∧ (releasePort s).budget.inStep = s.budget.inStep ∧
    (releasePort s).budget.coldTimer = s.budget.coldTimer ∧ (releasePort s).budget.lastHeard = s.budget.lastHeard ∧
    (releasePort s).recorder.store = s.recorder.store ∧ (releasePort s).recorder.offered = s.recorder.offered ∧
    (releasePort s).recorder.lost = s.recorder.lost ∧ (releasePort s).recorder.sent = s.recorder.sent ∧
    (releasePort s).recorder.decCount = s.recorder.decCount ∧
    (releasePort s).recorder.runBegun = s.recorder.runBegun := by
  dsimp only [releasePort]
  (repeat' split) <;> simp

@[simp] theorem clearStop_fields (s : State) :
    (clearStop s).seq.order = s.seq.order ∧ (clearStop s).seq.phase = s.seq.phase ∧
    (clearStop s).seq.phaseBegun = s.seq.phaseBegun ∧ (clearStop s).seq.phaseTime = s.seq.phaseTime ∧
    (clearStop s).seq.refValue = s.seq.refValue ∧ (clearStop s).seq.holdCount = s.seq.holdCount ∧
    (clearStop s).seq.runSamples = s.seq.runSamples ∧ (clearStop s).seq.testZero = s.seq.testZero ∧
    (clearStop s).seq.returnCancelled = s.seq.returnCancelled ∧ (clearStop s).follow.share = s.follow.share ∧
    (clearStop s).load.conv = s.load.conv ∧ (clearStop s).load.convTimer = s.load.convTimer ∧
    (clearStop s).load.reading = s.load.reading ∧ (clearStop s).load.nextIndex = s.load.nextIndex ∧
    (clearStop s).load.last = s.load.last ∧ (clearStop s).load.statusLoad = s.load.statusLoad ∧
    (clearStop s).load.range = s.load.range ∧ (clearStop s).load.pendingRange = s.load.pendingRange ∧
    (clearStop s).load.rangeMode = s.load.rangeMode ∧ (clearStop s).load.settleCount = s.load.settleCount ∧
    (clearStop s).load.settling = s.load.settling ∧ (clearStop s).load.downCount = s.load.downCount ∧
    (clearStop s).load.tareOffset = s.load.tareOffset ∧ (clearStop s).load.overCheck = s.load.overCheck ∧
    (clearStop s).load.overPrev = s.load.overPrev ∧ (clearStop s).load.peak = s.load.peak ∧
    (clearStop s).load.breakArmed = s.load.breakArmed ∧ (clearStop s).load.breakFound = s.load.breakFound ∧
    (clearStop s).ext.idRec = s.ext.idRec ∧ (clearStop s).ext.strainCount = s.ext.strainCount ∧
    (clearStop s).ext.lastReading = s.ext.lastReading ∧ (clearStop s).ext.zero = s.ext.zero ∧
    (clearStop s).ext.pair = s.ext.pair ∧ (clearStop s).ext.slip = s.ext.slip ∧
    (clearStop s).link.line = s.link.line ∧ (clearStop s).link.taking = s.link.taking ∧
    (clearStop s).link.quiet = s.link.quiet ∧ (clearStop s).link.stop = s.link.stop ∧
    (clearStop s).link.level = s.link.level ∧ (clearStop s).link.status = s.link.status ∧
    (clearStop s).link.inFlight = s.link.inFlight ∧ (clearStop s).link.errCheck = s.link.errCheck ∧
    (clearStop s).link.errLength = s.link.errLength ∧ (clearStop s).link.errShort = s.link.errShort ∧
    (clearStop s).link.presence = s.link.presence ∧ (clearStop s).link.statusTimer = s.link.statusTimer ∧
    (clearStop s).budget.table = s.budget.table ∧ (clearStop s).budget.epoch = s.budget.epoch ∧
    (clearStop s).budget.inStep = s.budget.inStep ∧ (clearStop s).budget.coldTimer = s.budget.coldTimer ∧
    (clearStop s).budget.lastHeard = s.budget.lastHeard ∧ (clearStop s).recorder.store = s.recorder.store ∧
    (clearStop s).recorder.offered = s.recorder.offered ∧ (clearStop s).recorder.lost = s.recorder.lost ∧
    (clearStop s).recorder.sent = s.recorder.sent ∧ (clearStop s).recorder.decCount = s.recorder.decCount ∧
    (clearStop s).recorder.runBegun = s.recorder.runBegun := by
  dsimp only [clearStop]
  (repeat' split) <;> simp

@[simp] theorem clearSequencer_fields (s : State) :
    (clearSequencer s).seq.phaseTime = s.seq.phaseTime ∧ (clearSequencer s).seq.refValue = s.seq.refValue ∧
    (clearSequencer s).seq.holdCount = s.seq.holdCount ∧ (clearSequencer s).seq.runSamples = s.seq.runSamples ∧
    (clearSequencer s).seq.testZero = s.seq.testZero ∧ (clearSequencer s).travel.counter = s.travel.counter ∧
    (clearSequencer s).travel.latched = s.travel.latched ∧
    (clearSequencer s).travel.appliedAtTick = s.travel.appliedAtTick ∧
    (clearSequencer s).travel.measure = s.travel.measure ∧ (clearSequencer s).travel.gateOpen = s.travel.gateOpen ∧
    (clearSequencer s).travel.gateTicks = s.travel.gateTicks ∧ (clearSequencer s).travel.gateSum = s.travel.gateSum ∧
    (clearSequencer s).travel.gateDue = s.travel.gateDue ∧
    (clearSequencer s).travel.periodTimer = s.travel.periodTimer ∧
    (clearSequencer s).travel.velocity = s.travel.velocity ∧
    (clearSequencer s).travel.standstill = s.travel.standstill ∧
    (clearSequencer s).travel.holdPosition = s.travel.holdPosition ∧
    (clearSequencer s).travel.applied = s.travel.applied ∧ (clearSequencer s).travel.tripped = s.travel.tripped ∧
    (clearSequencer s).pair.mirror = s.pair.mirror ∧ (clearSequencer s).pair.age = s.pair.age ∧
    (clearSequencer s).pair.levelRun = s.pair.levelRun ∧ (clearSequencer s).pair.levelTimer = s.pair.levelTimer ∧
    (clearSequencer s).pair.skew = s.pair.skew ∧ (clearSequencer s).pair.skewKnown = s.pair.skewKnown ∧
    (clearSequencer s).pair.trim = s.pair.trim ∧ (clearSequencer s).pair.alarmed = s.pair.alarmed ∧
    (clearSequencer s).pair.overLimit = s.pair.overLimit ∧ (clearSequencer s).load.conv = s.load.conv ∧
    (clearSequencer s).load.convTimer = s.load.convTimer ∧ (clearSequencer s).load.reading = s.load.reading ∧
    (clearSequencer s).load.nextIndex = s.load.nextIndex ∧ (clearSequencer s).load.last = s.load.last ∧
    (clearSequencer s).load.statusLoad = s.load.statusLoad ∧ (clearSequencer s).load.range = s.load.range ∧
    (clearSequencer s).load.pendingRange = s.load.pendingRange ∧
    (clearSequencer s).load.settleCount = s.load.settleCount ∧ (clearSequencer s).load.settling = s.load.settling ∧
    (clearSequencer s).load.downCount = s.load.downCount ∧ (clearSequencer s).load.tareOffset = s.load.tareOffset ∧
    (clearSequencer s).load.overCheck = s.load.overCheck ∧ (clearSequencer s).load.overPrev = s.load.overPrev ∧
    (clearSequencer s).ext.idRec = s.ext.idRec ∧ (clearSequencer s).ext.strainCount = s.ext.strainCount ∧
    (clearSequencer s).ext.lastReading = s.ext.lastReading ∧ (clearSequencer s).ext.zero = s.ext.zero ∧
    (clearSequencer s).ext.pair = s.ext.pair ∧ (clearSequencer s).ext.slip = s.ext.slip ∧
    (clearSequencer s).link.line = s.link.line ∧ (clearSequencer s).link.taking = s.link.taking ∧
    (clearSequencer s).link.quiet = s.link.quiet ∧ (clearSequencer s).link.stop = s.link.stop ∧
    (clearSequencer s).link.grant = s.link.grant ∧ (clearSequencer s).link.level = s.link.level ∧
    (clearSequencer s).link.status = s.link.status ∧ (clearSequencer s).link.result = s.link.result ∧
    (clearSequencer s).link.curve = s.link.curve ∧ (clearSequencer s).link.inFlight = s.link.inFlight ∧
    (clearSequencer s).link.errCheck = s.link.errCheck ∧ (clearSequencer s).link.errLength = s.link.errLength ∧
    (clearSequencer s).link.errShort = s.link.errShort ∧ (clearSequencer s).link.presence = s.link.presence ∧
    (clearSequencer s).link.statusTimer = s.link.statusTimer := by
  dsimp only [clearSequencer]
  (repeat' split) <;> simp

@[simp] theorem freeArm_fields (s : State) :
    (freeArm s).ext.idRec = s.ext.idRec ∧ (freeArm s).ext.shift = s.ext.shift ∧
    (freeArm s).ext.closeTimer = s.ext.closeTimer ∧ (freeArm s).ext.identTimer = s.ext.identTimer ∧
    (freeArm s).ext.openTimer = s.ext.openTimer ∧ (freeArm s).ext.strainCount = s.ext.strainCount ∧
    (freeArm s).ext.lastReading = s.ext.lastReading ∧ (freeArm s).ext.zero = s.ext.zero ∧
    (freeArm s).ext.pair = s.ext.pair ∧ (freeArm s).ext.offset = s.ext.offset ∧ (freeArm s).ext.slip = s.ext.slip ∧
    (freeArm s).ext.attachWaits = s.ext.attachWaits := by
  dsimp only [freeArm]
  (repeat' split) <;> simp

@[simp] theorem freshChecks_fields (s : State) :
    (freshChecks s).pair.mirror = s.pair.mirror ∧ (freshChecks s).pair.age = s.pair.age ∧
    (freshChecks s).pair.levelRun = s.pair.levelRun ∧ (freshChecks s).pair.levelTimer = s.pair.levelTimer ∧
    (freshChecks s).pair.skew = s.pair.skew ∧ (freshChecks s).pair.skewKnown = s.pair.skewKnown ∧
    (freshChecks s).pair.trim = s.pair.trim ∧ (freshChecks s).pair.alarmed = s.pair.alarmed ∧
    (freshChecks s).pair.joined = s.pair.joined ∧ (freshChecks s).pair.runCount = s.pair.runCount ∧
    (freshChecks s).load.conv = s.load.conv ∧ (freshChecks s).load.convTimer = s.load.convTimer ∧
    (freshChecks s).load.reading = s.load.reading ∧ (freshChecks s).load.nextIndex = s.load.nextIndex ∧
    (freshChecks s).load.last = s.load.last ∧ (freshChecks s).load.statusLoad = s.load.statusLoad ∧
    (freshChecks s).load.range = s.load.range ∧ (freshChecks s).load.pendingRange = s.load.pendingRange ∧
    (freshChecks s).load.rangeMode = s.load.rangeMode ∧ (freshChecks s).load.settleCount = s.load.settleCount ∧
    (freshChecks s).load.settling = s.load.settling ∧ (freshChecks s).load.downCount = s.load.downCount ∧
    (freshChecks s).load.tareOffset = s.load.tareOffset ∧ (freshChecks s).load.tare = s.load.tare ∧
    (freshChecks s).load.overCheck = s.load.overCheck ∧ (freshChecks s).load.spanOpen = s.load.spanOpen ∧
    (freshChecks s).load.peak = s.load.peak ∧ (freshChecks s).load.breakArmed = s.load.breakArmed ∧
    (freshChecks s).load.breakFound = s.load.breakFound ∧ (freshChecks s).load.yieldSearch = s.load.yieldSearch := by
  dsimp only [freshChecks]
  simp

@[simp] theorem clearStation_fields (s : State) :
    (clearStation s).seq.phaseTime = s.seq.phaseTime ∧ (clearStation s).seq.refValue = s.seq.refValue ∧
    (clearStation s).seq.holdCount = s.seq.holdCount ∧ (clearStation s).seq.runSamples = s.seq.runSamples ∧
    (clearStation s).seq.testZero = s.seq.testZero ∧ (clearStation s).travel.counter = s.travel.counter ∧
    (clearStation s).travel.latched = s.travel.latched ∧
    (clearStation s).travel.appliedAtTick = s.travel.appliedAtTick ∧
    (clearStation s).travel.measure = s.travel.measure ∧ (clearStation s).travel.gateOpen = s.travel.gateOpen ∧
    (clearStation s).travel.gateTicks = s.travel.gateTicks ∧ (clearStation s).travel.gateSum = s.travel.gateSum ∧
    (clearStation s).travel.gateDue = s.travel.gateDue ∧ (clearStation s).travel.periodTimer = s.travel.periodTimer ∧
    (clearStation s).travel.velocity = s.travel.velocity ∧ (clearStation s).travel.standstill = s.travel.standstill ∧
    (clearStation s).travel.holdPosition = s.travel.holdPosition ∧ (clearStation s).pair.mirror = s.pair.mirror ∧
    (clearStation s).pair.age = s.pair.age ∧ (clearStation s).pair.levelRun = s.pair.levelRun ∧
    (clearStation s).pair.levelTimer = s.pair.levelTimer ∧ (clearStation s).pair.skew = s.pair.skew ∧
    (clearStation s).pair.skewKnown = s.pair.skewKnown ∧ (clearStation s).pair.trim = s.pair.trim ∧
    (clearStation s).pair.alarmed = s.pair.alarmed ∧ (clearStation s).load.conv = s.load.conv ∧
    (clearStation s).load.convTimer = s.load.convTimer ∧ (clearStation s).load.reading = s.load.reading ∧
    (clearStation s).load.nextIndex = s.load.nextIndex ∧ (clearStation s).load.last = s.load.last ∧
    (clearStation s).load.statusLoad = s.load.statusLoad ∧ (clearStation s).load.range = s.load.range ∧
    (clearStation s).load.pendingRange = s.load.pendingRange ∧
    (clearStation s).load.settleCount = s.load.settleCount ∧ (clearStation s).load.settling = s.load.settling ∧
    (clearStation s).load.downCount = s.load.downCount ∧ (clearStation s).load.tareOffset = s.load.tareOffset ∧
    (clearStation s).load.overCheck = s.load.overCheck ∧ (clearStation s).ext.idRec = s.ext.idRec ∧
    (clearStation s).ext.strainCount = s.ext.strainCount ∧ (clearStation s).ext.lastReading = s.ext.lastReading ∧
    (clearStation s).ext.zero = s.ext.zero ∧ (clearStation s).ext.pair = s.ext.pair ∧
    (clearStation s).ext.slip = s.ext.slip ∧ (clearStation s).link.line = s.link.line ∧
    (clearStation s).link.taking = s.link.taking ∧ (clearStation s).link.quiet = s.link.quiet ∧
    (clearStation s).link.level = s.link.level ∧ (clearStation s).link.status = s.link.status ∧
    (clearStation s).link.inFlight = s.link.inFlight ∧ (clearStation s).link.errCheck = s.link.errCheck ∧
    (clearStation s).link.errLength = s.link.errLength ∧ (clearStation s).link.errShort = s.link.errShort ∧
    (clearStation s).link.presence = s.link.presence ∧ (clearStation s).link.statusTimer = s.link.statusTimer ∧
    (clearStation s).budget.table = s.budget.table ∧ (clearStation s).budget.epoch = s.budget.epoch ∧
    (clearStation s).budget.inStep = s.budget.inStep ∧ (clearStation s).budget.coldTimer = s.budget.coldTimer ∧
    (clearStation s).budget.lastHeard = s.budget.lastHeard ∧ (clearStation s).recorder.store = s.recorder.store ∧
    (clearStation s).recorder.offered = s.recorder.offered ∧ (clearStation s).recorder.lost = s.recorder.lost ∧
    (clearStation s).recorder.sent = s.recorder.sent ∧ (clearStation s).recorder.decCount = s.recorder.decCount ∧
    (clearStation s).recorder.runBegun = s.recorder.runBegun := by
  dsimp only [clearStation]
  simp

@[simp] theorem restartSequencer_fields (s : State) :
    (restartSequencer s).seq.phaseTime = s.seq.phaseTime ∧ (restartSequencer s).seq.refValue = s.seq.refValue ∧
    (restartSequencer s).seq.runSamples = s.seq.runSamples ∧ (restartSequencer s).seq.testZero = s.seq.testZero ∧
    (restartSequencer s).travel.counter = s.travel.counter ∧ (restartSequencer s).travel.latched = s.travel.latched ∧
    (restartSequencer s).travel.appliedAtTick = s.travel.appliedAtTick ∧
    (restartSequencer s).travel.measure = s.travel.measure ∧
    (restartSequencer s).travel.gateOpen = s.travel.gateOpen ∧
    (restartSequencer s).travel.gateTicks = s.travel.gateTicks ∧
    (restartSequencer s).travel.gateSum = s.travel.gateSum ∧ (restartSequencer s).travel.gateDue = s.travel.gateDue ∧
    (restartSequencer s).travel.periodTimer = s.travel.periodTimer ∧
    (restartSequencer s).travel.velocity = s.travel.velocity ∧
    (restartSequencer s).travel.standstill = s.travel.standstill ∧
    (restartSequencer s).travel.holdPosition = s.travel.holdPosition ∧
    (restartSequencer s).travel.applied = s.travel.applied ∧ (restartSequencer s).travel.tripped = s.travel.tripped ∧
    (restartSequencer s).pair.mirror = s.pair.mirror ∧ (restartSequencer s).pair.age = s.pair.age ∧
    (restartSequencer s).pair.levelRun = s.pair.levelRun ∧ (restartSequencer s).pair.levelTimer = s.pair.levelTimer ∧
    (restartSequencer s).pair.skew = s.pair.skew ∧ (restartSequencer s).pair.skewKnown = s.pair.skewKnown ∧
    (restartSequencer s).pair.trim = s.pair.trim ∧ (restartSequencer s).pair.alarmed = s.pair.alarmed ∧
    (restartSequencer s).pair.overLimit = s.pair.overLimit ∧ (restartSequencer s).load.conv = s.load.conv ∧
    (restartSequencer s).load.convTimer = s.load.convTimer ∧ (restartSequencer s).load.reading = s.load.reading ∧
    (restartSequencer s).load.nextIndex = s.load.nextIndex ∧ (restartSequencer s).load.last = s.load.last ∧
    (restartSequencer s).load.statusLoad = s.load.statusLoad ∧ (restartSequencer s).load.range = s.load.range ∧
    (restartSequencer s).load.pendingRange = s.load.pendingRange ∧
    (restartSequencer s).load.settleCount = s.load.settleCount ∧
    (restartSequencer s).load.settling = s.load.settling ∧ (restartSequencer s).load.downCount = s.load.downCount ∧
    (restartSequencer s).load.tareOffset = s.load.tareOffset ∧
    (restartSequencer s).load.overCheck = s.load.overCheck ∧ (restartSequencer s).load.overPrev = s.load.overPrev ∧
    (restartSequencer s).ext.idRec = s.ext.idRec ∧ (restartSequencer s).ext.strainCount = s.ext.strainCount ∧
    (restartSequencer s).ext.lastReading = s.ext.lastReading ∧ (restartSequencer s).ext.zero = s.ext.zero ∧
    (restartSequencer s).ext.pair = s.ext.pair ∧ (restartSequencer s).ext.slip = s.ext.slip ∧
    (restartSequencer s).link.line = s.link.line ∧ (restartSequencer s).link.taking = s.link.taking ∧
    (restartSequencer s).link.quiet = s.link.quiet ∧ (restartSequencer s).link.stop = s.link.stop ∧
    (restartSequencer s).link.grant = s.link.grant ∧ (restartSequencer s).link.level = s.link.level ∧
    (restartSequencer s).link.status = s.link.status ∧ (restartSequencer s).link.result = s.link.result ∧
    (restartSequencer s).link.curve = s.link.curve ∧ (restartSequencer s).link.inFlight = s.link.inFlight ∧
    (restartSequencer s).link.errCheck = s.link.errCheck ∧ (restartSequencer s).link.errLength = s.link.errLength ∧
    (restartSequencer s).link.errShort = s.link.errShort ∧ (restartSequencer s).link.presence = s.link.presence ∧
    (restartSequencer s).link.statusTimer = s.link.statusTimer := by
  dsimp only [restartSequencer]
  (repeat' split) <;> simp

@[simp] theorem restartMotion_fields (s : State) :
    (restartMotion s).travel.counter = s.travel.counter ∧ (restartMotion s).travel.latched = s.travel.latched ∧
    (restartMotion s).travel.appliedAtTick = s.travel.appliedAtTick ∧
    (restartMotion s).travel.measure = s.travel.measure ∧ (restartMotion s).travel.gateOpen = s.travel.gateOpen ∧
    (restartMotion s).travel.gateTicks = s.travel.gateTicks ∧ (restartMotion s).travel.gateSum = s.travel.gateSum ∧
    (restartMotion s).travel.gateDue = s.travel.gateDue ∧
    (restartMotion s).travel.periodTimer = s.travel.periodTimer ∧
    (restartMotion s).travel.velocity = s.travel.velocity ∧
    (restartMotion s).travel.standstill = s.travel.standstill ∧
    (restartMotion s).travel.holdPosition = s.travel.holdPosition ∧
    (restartMotion s).travel.applied = s.travel.applied ∧ (restartMotion s).travel.tripped = s.travel.tripped ∧
    (restartMotion s).pair.mirror = s.pair.mirror ∧ (restartMotion s).pair.age = s.pair.age ∧
    (restartMotion s).pair.levelRun = s.pair.levelRun ∧ (restartMotion s).pair.levelTimer = s.pair.levelTimer ∧
    (restartMotion s).pair.skew = s.pair.skew ∧ (restartMotion s).pair.skewKnown = s.pair.skewKnown ∧
    (restartMotion s).pair.trim = s.pair.trim := by
  dsimp only [restartMotion]
  simp

@[simp] theorem dropPair_fields (s : State) :
    (dropPair s).travel.counter = s.travel.counter ∧ (dropPair s).travel.appliedAtTick = s.travel.appliedAtTick ∧
    (dropPair s).travel.measure = s.travel.measure ∧ (dropPair s).travel.gateOpen = s.travel.gateOpen ∧
    (dropPair s).travel.gateTicks = s.travel.gateTicks ∧ (dropPair s).travel.gateSum = s.travel.gateSum ∧
    (dropPair s).travel.gateDue = s.travel.gateDue ∧ (dropPair s).travel.periodTimer = s.travel.periodTimer ∧
    (dropPair s).travel.velocity = s.travel.velocity ∧ (dropPair s).travel.standstill = s.travel.standstill ∧
    (dropPair s).travel.regValue = s.travel.regValue ∧ (dropPair s).travel.regMode = s.travel.regMode ∧
    (dropPair s).travel.window = s.travel.window ∧ (dropPair s).travel.holdPosition = s.travel.holdPosition ∧
    (dropPair s).travel.applied = s.travel.applied ∧ (dropPair s).travel.tripped = s.travel.tripped := by
  dsimp only [dropPair]
  (repeat' split) <;> simp

@[simp] theorem abortTest_fields (s : State) :
    (abortTest s).seq.order = s.seq.order ∧ (abortTest s).seq.phase = s.seq.phase ∧
    (abortTest s).seq.phaseBegun = s.seq.phaseBegun ∧ (abortTest s).seq.phaseTime = s.seq.phaseTime ∧
    (abortTest s).seq.refValue = s.seq.refValue ∧ (abortTest s).seq.holdCount = s.seq.holdCount ∧
    (abortTest s).seq.runSamples = s.seq.runSamples ∧ (abortTest s).seq.testZero = s.seq.testZero ∧
    (abortTest s).load.conv = s.load.conv ∧ (abortTest s).load.convTimer = s.load.convTimer ∧
    (abortTest s).load.reading = s.load.reading ∧ (abortTest s).load.nextIndex = s.load.nextIndex ∧
    (abortTest s).load.last = s.load.last ∧ (abortTest s).load.statusLoad = s.load.statusLoad ∧
    (abortTest s).load.range = s.load.range ∧ (abortTest s).load.pendingRange = s.load.pendingRange ∧
    (abortTest s).load.rangeMode = s.load.rangeMode ∧ (abortTest s).load.settleCount = s.load.settleCount ∧
    (abortTest s).load.settling = s.load.settling ∧ (abortTest s).load.downCount = s.load.downCount ∧
    (abortTest s).load.tareOffset = s.load.tareOffset ∧ (abortTest s).load.overCheck = s.load.overCheck ∧
    (abortTest s).load.overPrev = s.load.overPrev ∧ (abortTest s).load.spanOpen = s.load.spanOpen ∧
    (abortTest s).load.peak = s.load.peak ∧ (abortTest s).load.breakArmed = s.load.breakArmed ∧
    (abortTest s).load.breakFound = s.load.breakFound ∧ (abortTest s).load.yieldSearch = s.load.yieldSearch ∧
    (abortTest s).ext.idRec = s.ext.idRec ∧ (abortTest s).ext.strainCount = s.ext.strainCount ∧
    (abortTest s).ext.lastReading = s.ext.lastReading ∧ (abortTest s).ext.zero = s.ext.zero ∧
    (abortTest s).ext.pair = s.ext.pair ∧ (abortTest s).ext.slip = s.ext.slip ∧
    (abortTest s).link.line = s.link.line ∧ (abortTest s).link.taking = s.link.taking ∧
    (abortTest s).link.quiet = s.link.quiet ∧ (abortTest s).link.stop = s.link.stop ∧
    (abortTest s).link.level = s.link.level ∧ (abortTest s).link.status = s.link.status ∧
    (abortTest s).link.result = s.link.result ∧ (abortTest s).link.curve = s.link.curve ∧
    (abortTest s).link.inFlight = s.link.inFlight ∧ (abortTest s).link.errCheck = s.link.errCheck ∧
    (abortTest s).link.errLength = s.link.errLength ∧ (abortTest s).link.errShort = s.link.errShort ∧
    (abortTest s).link.presence = s.link.presence ∧ (abortTest s).link.statusTimer = s.link.statusTimer ∧
    (abortTest s).budget.table = s.budget.table ∧ (abortTest s).budget.epoch = s.budget.epoch ∧
    (abortTest s).budget.inStep = s.budget.inStep ∧ (abortTest s).budget.reason = s.budget.reason ∧
    (abortTest s).budget.coldTimer = s.budget.coldTimer ∧ (abortTest s).budget.lastHeard = s.budget.lastHeard := by
  dsimp only [abortTest]
  (repeat' split) <;> simp

@[simp] theorem sequencerToIdle_fields (s : State) :
    (sequencerToIdle s).seq.order = s.seq.order ∧ (sequencerToIdle s).seq.phase = s.seq.phase ∧
    (sequencerToIdle s).seq.phaseBegun = s.seq.phaseBegun ∧ (sequencerToIdle s).seq.phaseTime = s.seq.phaseTime ∧
    (sequencerToIdle s).seq.refValue = s.seq.refValue ∧ (sequencerToIdle s).seq.holdCount = s.seq.holdCount ∧
    (sequencerToIdle s).seq.runSamples = s.seq.runSamples ∧ (sequencerToIdle s).seq.testZero = s.seq.testZero ∧
    (sequencerToIdle s).seq.returnCancelled = s.seq.returnCancelled := by
  dsimp only [sequencerToIdle]
  (repeat' split) <;> simp

@[simp] theorem statusAct_fields (f : RxFrame) (s : State) :
    (statusAct f s).seq.order = s.seq.order ∧ (statusAct f s).seq.phase = s.seq.phase ∧
    (statusAct f s).seq.phaseBegun = s.seq.phaseBegun ∧ (statusAct f s).seq.phaseTime = s.seq.phaseTime ∧
    (statusAct f s).seq.refValue = s.seq.refValue ∧ (statusAct f s).seq.holdCount = s.seq.holdCount ∧
    (statusAct f s).seq.runSamples = s.seq.runSamples ∧ (statusAct f s).seq.testZero = s.seq.testZero ∧
    (statusAct f s).seq.returnCancelled = s.seq.returnCancelled ∧ (statusAct f s).follow.share = s.follow.share ∧
    (statusAct f s).load.conv = s.load.conv ∧ (statusAct f s).load.convTimer = s.load.convTimer ∧
    (statusAct f s).load.reading = s.load.reading ∧ (statusAct f s).load.nextIndex = s.load.nextIndex ∧
    (statusAct f s).load.last = s.load.last ∧ (statusAct f s).load.statusLoad = s.load.statusLoad ∧
    (statusAct f s).load.range = s.load.range ∧ (statusAct f s).load.pendingRange = s.load.pendingRange ∧
    (statusAct f s).load.rangeMode = s.load.rangeMode ∧ (statusAct f s).load.settleCount = s.load.settleCount ∧
    (statusAct f s).load.settling = s.load.settling ∧ (statusAct f s).load.downCount = s.load.downCount ∧
    (statusAct f s).load.tareOffset = s.load.tareOffset ∧ (statusAct f s).load.overCheck = s.load.overCheck ∧
    (statusAct f s).load.overPrev = s.load.overPrev ∧ (statusAct f s).load.peak = s.load.peak ∧
    (statusAct f s).load.breakArmed = s.load.breakArmed ∧ (statusAct f s).load.breakFound = s.load.breakFound ∧
    (statusAct f s).ext.idRec = s.ext.idRec ∧ (statusAct f s).ext.strainCount = s.ext.strainCount ∧
    (statusAct f s).ext.lastReading = s.ext.lastReading ∧ (statusAct f s).ext.zero = s.ext.zero ∧
    (statusAct f s).ext.pair = s.ext.pair ∧ (statusAct f s).ext.slip = s.ext.slip ∧
    (statusAct f s).link.line = s.link.line ∧ (statusAct f s).link.taking = s.link.taking ∧
    (statusAct f s).link.quiet = s.link.quiet ∧ (statusAct f s).link.level = s.link.level ∧
    (statusAct f s).link.inFlight = s.link.inFlight ∧
    (statusAct f s).link.errCheck = s.link.errCheck ∧ (statusAct f s).link.errLength = s.link.errLength ∧
    (statusAct f s).link.errShort = s.link.errShort ∧ (statusAct f s).link.presence = s.link.presence ∧
    (statusAct f s).link.statusTimer = s.link.statusTimer ∧ (statusAct f s).budget.lastHeard = s.budget.lastHeard ∧
    (statusAct f s).recorder.store = s.recorder.store ∧ (statusAct f s).recorder.offered = s.recorder.offered ∧
    (statusAct f s).recorder.lost = s.recorder.lost ∧ (statusAct f s).recorder.sent = s.recorder.sent ∧
    (statusAct f s).recorder.decCount = s.recorder.decCount ∧
    (statusAct f s).recorder.runBegun = s.recorder.runBegun := by
  dsimp only [statusAct]
  (repeat' split) <;> simp

end Sys2Proof.Laws
end

