-- ==== Sys2Proof/Laws/Sets.lean ====
section
/-! SUPPORT. What the shared operations of the sequencers, the arm and the fault unit write. -/

namespace Sys2Proof.Laws

open Sys2Proof.Machine Sys2Proof.Safety

/-! ## The arm -/

/-- R110: what OPENING sets. -/
@[simp] theorem opening_fields (e : Ext) :
    e.opening.state = .opening ∧ e.opening.openTimer = some 0 ∧ e.opening.closeTimer = none ∧
    e.opening.identTimer = none ∧ e.opening.shift = none ∧ e.opening.idRec = e.idRec ∧
    e.opening.strainCount = e.strainCount ∧ e.opening.lastReading = e.lastReading ∧ e.opening.zero = e.zero ∧
    e.opening.pair = e.pair ∧ e.opening.offset = e.offset ∧ e.opening.slip = e.slip ∧
    e.opening.attachWaits = e.attachWaits := by
  simp [Ext.opening]

theorem switchover_state (c : SwitchCause) (s : State) : (switchover c s).ext.state = .opening := by
  unfold switchover
  split <;> simp

/-- R108: an open command leaves the arm OPENING from a closed arm, and where it was from the other states. -/
theorem openArm_state (c : SwitchCause) (s : State) :
    (openArm c s).ext.state = if s.ext.state.closes then .opening else s.ext.state := by
  dsimp only [openArm]
  split <;> rename_i h <;> simp_all [switchover_state, ExtState.closes]

@[simp] theorem openArm_waits (c : SwitchCause) (s : State) : (openArm c s).ext.attachWaits = false := by
  dsimp only [openArm]
  (repeat' split) <;> simp

/-- An open command that finds no measuring arm touches the extensometer unit alone. -/
theorem openArm_link (c : SwitchCause) (s : State) (h : s.ext.state ≠ .measuring) :
    (openArm c s).link = s.link ∧ (openArm c s).testRec = s.testRec ∧ (openArm c s).ext.offset = s.ext.offset := by
  dsimp only [openArm]
  (repeat' split) <;> simp_all

/-! ## Requests -/

@[simp] theorem requestUnits_sets (n : Nat) (r : GrantReason) (s : State) :
    (requestUnits n r s).budget.requested = n ∧ (requestUnits n r s).budget.reason = r := by
  simp [requestUnits]

/-- R136, R148: a raise is judged, placed or dropped; a lowering is placed; before CONFIG nothing is. -/
theorem judgeRequest_grant (s : State) (h : s.link.grantInFlight = none) :
    (judgeRequest s).link.grant =
      if s.budget.requested = s.ownEntry ∨ s.configured = false then none
      else if s.budget.requested < s.ownEntry then
        some { units := s.budget.requested, reason := s.budget.reason, raise := false }
      else if s.budget.inStep && s.fits s.budget.requested then
        some { units := s.budget.requested, reason := s.budget.reason, raise := true }
      else none := by
  unfold judgeRequest
  simp only [h, Option.isSome_none, Bool.false_eq_true, if_false]
  (repeat' split) <;> simp_all [dropGrant, placeGrant]

/-- R133: the STATUS built does not depend on the one pending. -/
@[simp] theorem buildStatus_refreshStatus (s : State) : buildStatus (refreshStatus s) = buildStatus s := by
  simp [buildStatus, State.ownState, State.ownPhase, State.isFollow, State.capacity, State.lastIndex,
    State.lastPosition, Link.members]

/-- R133, R143: a recovery builds the pending STATUS afresh where the unit has entered IN_STEP. -/
theorem recover_status (entries : List Nat) (epoch : Byte) (s : State) :
    (recover entries epoch s).link.status =
      if s.configured then s.link.status.map fun _ => buildStatus (recover entries epoch s) else s.link.status := by
  have h : (adopt entries epoch s).budget.inStep = s.configured := by simp [adopt]
  unfold recover
  simp only [h]
  cases s.configured <;> simp [refreshStatus_link]

/-- R133, R143, R144: what a STATUS received leaves of the pending one. -/
theorem statusAct_status (f : RxFrame) (s : State) :
    (statusAct f s).link.status = s.link.status
      ∨ (s.budget.inStep = false ∧ (statusAct f s).budget.inStep = true
          ∧ (statusAct f s).link.status = s.link.status.map fun _ => buildStatus (statusAct f s)) := by
  cases hp : parseStatus f.payload with
  | none => simp [statusAct, hp]
  | some v =>
    cases he : v.entries with
    | none => left; simp only [statusAct, hp, he]; split <;> simp
    | some entries =>
      simp only [statusAct, hp, he]
      split
      · simp
      · split
        · have hr := recover_status entries v.epoch s
          cases hc : s.configured <;> simp_all [offeredForRecovery, adopt]
        · simp

/-! ## The sequencers -/

@[simp] theorem gotoState_sets (st : SeqState) (s : State) :
    (gotoState st s).seq.state = st ∧ (gotoState st s).seq.stateSamples = 0 ∧
    (gotoState st s).seq.gripsCount = 0 ∧ (gotoState st s).seq.gripsLowWaits = false ∧
    (gotoState st s).seq.due = none := by
  simp [gotoState, Seq.goto]

@[simp] theorem enterIdle_sets (s : State) :
    (enterIdle s).seq.state = .idle ∧ (enterIdle s).seq.order = none ∧ (enterIdle s).seq.phase = 0 ∧
    (enterIdle s).load.rangeMode = .auto ∧ (enterIdle s).load.tare = none ∧
    (enterIdle s).load.spanOpen = false ∧ (enterIdle s).load.peak = none ∧ (enterIdle s).ext.offset = 0 ∧
    (enterIdle s).travel.regValue = 0 ∧ (enterIdle s).travel.regMode = .zero ∧ (enterIdle s).travel.window = [] ∧
    (enterIdle s).pair.joined = false ∧ (enterIdle s).pair.runCount = 0 ∧
    (enterIdle s).ext.state = (openArm .stop s).ext.state ∧ (enterIdle s).link = (openArm .stop s).link := by
  simp [enterIdle, LoadCh.spanReset]

@[simp] theorem haltSequencer_sets (st : SeqState) (o : TestOutcome) (s : State) :
    (haltSequencer st o s).seq.state = st ∧ (haltSequencer st o s).budget.requested = 0 ∧
    (haltSequencer st o s).budget.reason = .release := by
  dsimp only [haltSequencer]
  split <;> simp

/-- R26: the outcome that the end of a test writes. -/
theorem endTest_outcome (o : TestOutcome) (s : State) : Outcome o (endTest o s) := by
  intro r hr
  simp only [endTest, closeSpan, setLoad_fields, closeCollection] at hr
  split at hr
  · rename_i h
    simp [writeRecord] at h
    simp [h, writeRecord] at hr
  · rename_i t h
    simp [writeRecord] at h
    obtain ⟨a, ha, rfl⟩ := h
    simp at hr
    subst hr
    simp [TestRecord.withCounts]

/-- R23: the states that the latch stops, and the others. -/
theorem stopSequencer_halts (s : State)
    (h : s.seq.state ≠ .unconfigured ∧ s.seq.state ≠ .idle ∧ s.seq.state ≠ .stopped) :
    stopSequencer s = haltSequencer .stopped .stopped s := by
  unfold stopSequencer
  split <;> simp_all

theorem stopSequencer_stays (s : State)
    (h : s.seq.state = .unconfigured ∨ s.seq.state = .idle ∨ s.seq.state = .stopped) : stopSequencer s = s := by
  unfold stopSequencer
  split <;> simp_all

/-- R24: the states that a local fault halts, and the others. -/
theorem faultSequencer_halts (s : State)
    (h : s.seq.state ≠ .unconfigured ∧ s.seq.state ≠ .idle ∧ s.seq.state ≠ .stopped ∧ s.seq.state ≠ .faulted) :
    faultSequencer s = haltSequencer .faulted .faulted s := by
  unfold faultSequencer
  split <;> simp_all

theorem faultSequencer_stays (s : State)
    (h : s.seq.state = .unconfigured ∨ s.seq.state = .idle ∨ s.seq.state = .stopped ∨ s.seq.state = .faulted) :
    faultSequencer s = s := by
  unfold faultSequencer
  split <;> simp_all

/-- R24, R26: a test state is one that a halt ends. -/
theorem isTest_halts (q : SeqState) (h : q.isTest = true) :
    q ≠ .unconfigured ∧ q ≠ .idle ∧ q ≠ .stopped ∧ q ≠ .faulted ∧ q ≠ .done := by
  cases q <;> simp_all [SeqState.isTest]

theorem haltSequencer_outcome (st : SeqState) (o : TestOutcome) (s : State) (h : s.seq.state.isTest = true) :
    Outcome o (haltSequencer st o s) := by
  dsimp only [haltSequencer]
  simp only [h, if_true]
  exact endTest_outcome _ _

/-! ## The stop latch and the fault report -/

/-- R150: a station with a good strap word has its latch set afterwards. -/
theorem setLatch_sets (s : State) (h : s.start.strapFault = false) : (setLatch s).stop.latch = true := by
  unfold setLatch
  split
  · simp_all
  · simp

/-- R152, R154: what a report does to the fault record. -/
theorem report_record (c : FaultCause) (s : State) (h : s.start.strapFault = false) :
    (report c s).stop.record = some (s.stop.record.getD (s.lockedPart c)) ∧
    (report c s).stop.further = (if s.stop.record.isSome then succ255 s.stop.further else 0) := by
  have r : (recordFault c s).stop.record = some (s.stop.record.getD (s.lockedPart c))
      ∧ (recordFault c s).stop.further = (if s.stop.record.isSome then succ255 s.stop.further else 0) := by
    unfold recordFault
    cases h2 : s.stop.record with
    | some r => simp [h2]
    | none =>
      dsimp only
      split <;> simp
  dsimp only [report]
  simp only [h, Bool.false_eq_true, if_false]
  split <;> simp [stopCell, r]

/-- R45: after a report the record is locked, so that the drive port is forced to zero. -/
theorem report_forced (c : FaultCause) (s : State) (h : s.start.strapFault = false) : forced (report c s) = true := by
  simp [forced, StopFault.locked, (report_record c s h).1]

end Sys2Proof.Laws
end

