-- ==== Sys2Proof/WellFormed.lean ====
section
/-! DEFINITION. The commands the part can meet: readings within the converter's span, frames no longer than the link
carries, classes in their own rows, nodes that exist. The meanings do not rely on it: they answer every command. -/

namespace Sys2Proof

open Machine

/-- R73, R100: a converter's reading lies in its span. -/
def readingFits (r : Int) : Bool := decide (-1100000 ≤ r) && decide (r ≤ 1100000)

/-- R114, R179: a good frame carries at most 160 payload bytes. -/
def frameFits (f : RxFrame) : Bool := decide (f.payload.length ≤ 160)

/-- R116: what was taken is a receive error. -/
def takenFails (t : Taken) : Bool := judgeTaken t != .good

/-- R126, R179: the class is none of those that have a row of their own. -/
def reportClass (cls : Byte) : Bool := !([1, 2, 3, 4, 8, 9, 10, 11, 12, 13].contains cls.toNat)

/-- R129: a node that the presence list can hold. -/
def nodeExists (n : Node) : Bool := decide (n.toNat ≤ 14)

/-- The command is one that the part can meet. -/
def Instr.wellFormed : Instr → Bool
  | .loadConversionEnd r | .strainConversionEnd r => readingFits r
  | .presenceTimeout n => nodeExists n
  | .receiveError t => takenFails t
  | .reportFrame cls f => reportClass cls && frameFits f
  | .grantFrame f | .levelFrame f | .stopFrame f | .statusFrame f | .config f | .order f | .abort f | .clear f _
  | .restart f _ | .reclaim f => frameFits f
  | _ => true

end Sys2Proof
end

