-- ==== Sys2Proof/Tests/Slice0.lean ====
section
/-! SUPPORT. Tests of this model's own text: the well-formedness checks, the worked figures of the spec, and for every
statement with hypotheses a state and operands that meet them, clause by clause. -/

namespace Sys2Proof.Tests

open Sys2Proof.Machine Sys2Proof.Safety

/-! ## A few stations -/

/-- A zone over the whole of the low travel. -/
def zone : Zone := { valid := true, k := 20, base := 0, permitsTest := true, permitsReturn := true, speedCap := 500 }

def settings : Settings :=
  { period := 10, statusPeriod := 64, gateLength := 8, capacity := 100, loadCapacity := 100000, extFitted := true,
    startPosition := 1000, trimLimit := 10, skewAlarm := 50, skewLimit := 200, zones := [zone] }

def startOf (r : Role) : StartUp :=
  { strapWord := 0x9A9D, strapFault := false, number := 9, role := r, partner := 10, intervalTimer := none,
    intervalEnded := true, config := some settings }

/-- Configured stations with number 9 and partner 10, at a quiet line. -/
def station (r : Role) : State :=
  { State.reset with start := startOf r, link := { Link.reset with line := .quiet }, ext := { Ext.reset with
      state := .parked, openTimer := none } }

/-- A station before its CONFIG. -/
def fresh (r : Role) : State := (station r).setStart { startOf r with config := none }

def solo : State := station .solo
def lead : State := station .lead
def follow : State := station .follow

/-- The same travel map with a zone that forbids test moves. -/
def forbidden : Settings := { settings with zones := [{ zone with permitsTest := false }] }

def barred (s : State) : State := s.setStart { s.start with config := some forbidden }

def inState (s : State) (q : SeqState) : State := s.setSeq { s.seq with state := q }
def followIn (q : SeqState) : State := follow.setFollow { follow.follow with state := q }
def extIn (s : State) (e : ExtState) : State := s.setExt { s.ext with state := e }
def flying (s : State) (f : OutFrame) : State :=
  s.setLink { s.link with line := .sending
                          inFlight := some { frame := f, epoch := 0, inStep := true, disowned := false } }

def oneTare (n : Nat) (last : Int) : Tare := { attempt := n, loads := List.replicate 15 0 ++ [last] }

/-- A mirror that shows this state of the partner in this role. -/
def mirrorOf (r : Role) (q : SeqState) : Level :=
  { role := r, position := 0, demand := 0, state := q, phase := 0, kind := .none, share := 10, index := 0 }

def withMirror (s : State) (m : Level) (age : Nat) : State := s.setPair { s.pair with mirror := some m, age }

def lines0 : Lines := Lines.reset
def lowLine : Lines := { Lines.reset with stopLow := true }

def phase1 : Phase :=
  { mode := .xhRate, target := 100, step := 0, rateLimit := 200, source := .xh, endKind := .brk, endValue := 0,
    share := 10 }

def plan : ExtPlan := { removal := .atStrain, value := 20000, fallback := true, slipTolerance := 100, gauge := 2 }

def order1 (p : Option ExtPlan) : Order :=
  { testId := 7, parallelLength := 50000, holdTimeout := none, rangeMode := .auto, decimation := 1,
    armFraction := 20, dropFraction := 400, yieldPlan := none, plan := p, returnPlan := none, phases := [phase1] }

def holding (s : State) (q : SeqState) (p : Option ExtPlan) : State :=
  s.setSeq { s.seq with state := q, order := some (order1 p) }

def stopRec : FaultRec :=
  { cause := .driveFault, state := .idle, phase := 0, index := 0, position := 0, load := 0 }

def sample (n : Nat) : SampleRec := { followRecord solo with index := BitVec.ofNat 32 n }

/-- A frame of the cell computer to station 9, and one of station 3 to all. -/
def fromCell (payload : List Byte) : RxFrame := { sender := 0, dest := 9, epoch := 5, inStep := true, payload }
def fromThree (payload : List Byte) : RxFrame := { sender := 3, dest := 15, epoch := 5, inStep := true, payload }
def fromTen (payload : List Byte) : RxFrame := { sender := 10, dest := 15, epoch := 5, inStep := true, payload }

/-- The settings above as a CONFIG payload, with five zones not valid. -/
def configBytes : List Byte :=
  [10, 64, 8, 100, 0, 1, 134, 160, 1, 0, 0, 3, 232, 0, 10, 0, 50, 0, 200] ++ [7, 20, 0, 0, 0, 0, 1, 244]
    ++ List.replicate 40 0

/-- The order above, without a plan, as an ORDER payload. -/
def orderBytes : List Byte :=
  [0, 0, 0, 7, 0, 0, 195, 80, 0, 0, 1] ++ [0, 20, 1, 144]
    ++ [6, 1, 19, 0, 0, 0, 100, 0, 0, 200, 6, 0, 0, 0, 0, 10]

/-! ## Well-formedness: each check refuses an ill-formed command -/

theorem test_reading_in_span : (Instr.loadConversionEnd 1100000).wellFormed = true := by decide
theorem test_reading_above_span : (Instr.loadConversionEnd 1100001).wellFormed = false := by decide
theorem test_reading_below_span : (Instr.strainConversionEnd (-1100001)).wellFormed = false := by decide
theorem test_node_fifteen : (Instr.presenceTimeout 15).wellFormed = false := by decide
theorem test_good_bytes_are_no_error :
    (Instr.receiveError { bytes := [1, 63, 61, 128, 0, 2, 40, 1, 41, 12], partialByte := false }).wellFormed
      = false := by decide
theorem test_bad_check_is_an_error :
    (Instr.receiveError { bytes := [1, 63, 61, 128, 0, 2, 40, 1, 41, 13], partialByte := false }).wellFormed
      = true := by decide
theorem test_class_with_its_own_row : (Instr.reportFrame 3 (fromThree [])).wellFormed = false := by decide
theorem test_payload_too_long : (Instr.stopFrame (fromThree (List.replicate 161 0))).wellFormed = false := by
  decide +kernel
theorem test_no_word_spells_a_command : decodeTableWord 16 0x9A9D = none := rfl

/-! ## The worked figures of the spec -/

theorem test_frame_check : checkBytes [1, 63, 61, 128, 0, 2, 40, 1] = [41, 12] := by decide
theorem test_strap_word : examineStrap 0b1001101010011101 =
    { strapWord := 0x9A9D, strapFault := false, number := 9, role := .lead, partner := 10,
      intervalTimer := some 0, intervalEnded := false, config := none } := by decide
theorem test_ident_word : identFields 0x4A11419C = { code := 2, travel := 10, serial := 4417 }
    ∧ identCheckGood 0x4A11419C = true := by decide
theorem test_gate_velocity : gateVelocity 40 8000 = 5000 ∧ gateVelocity (-15) 8000 = -1875 := by decide
theorem test_positioning : positioning 0 31620 2000 = -2000 ∧ positioning 150 0 2000 = 1500 := by decide
theorem test_trim : trimOf follow 100 = 10 := by decide
theorem test_wire_bytes_of_a_grant :
    wireBytes 3 { frame := .grant { units := 40, reason := .phase, raise := true }, epoch := 61, inStep := true,
                  disowned := false } = [1, 63, 61, 128, 0, 2, 40, 1, 41, 12] := by decide
theorem test_config_bytes : (parseConfig configBytes).toOption.map (·.zones.take 1) = some [zone] := by decide
theorem test_order_bytes : acceptableOrder settings orderBytes = some (order1 none) := by decide +kernel
theorem test_order_cut_short : parseOrder (orderBytes.take 30) = none := by decide +kernel

/-! ## The hypotheses of the statements are met, clause by clause -/

def queued (c : Instr) (s : State) : State := s.setPending [c]

theorem test_witness_StepRunsFrontCommand :
    ∃ (c : Instr) (rest : List Instr) (s : State), s.pending = c :: rest ∧ rest = ([] : List Instr) ∧ c = .gateClose :=
  ⟨.gateClose, [], queued .gateClose lead, rfl, rfl, rfl⟩

theorem test_witness_EveryCommandCompletesWithItsFrame : Block.lines ∉ mayChange .gateClose := by decide

theorem test_witness_PortObeysForcing : ∃ s t : State, PortSafe s ∧ forced s = true ∧ step s = .next t :=
  ⟨State.reset.setStop { StopFault.reset with latch := true }, _, by decide, by decide, rfl⟩

theorem test_bounded : Bounded lead := by
  refine ⟨by decide, by decide, ⟨by decide, ?_⟩, by decide, by decide, by decide, by decide, by decide, by decide,
    by decide, by decide, by decide⟩
  exact List.Pairwise.nil

theorem test_witness_BoundsHoldOverSteps : ∃ s t : State, Bounded s ∧ step s = .next t :=
  ⟨lead, _, test_bounded, rfl⟩

/-- A CURVE frame in flight that carries the whole store. -/
def curveFlying : State :=
  (flying lead (.curve { testId := 7, samples := [sample 1] })).setRecorder
    { lead.recorder with store := [sample 1], offered := 1 }

theorem test_witness_CurveAccountHoldsOverSteps : ∃ s t : State, CurveSound s ∧ step s = .next t := by
  refine ⟨curveFlying, _, ⟨by decide, ?_, ?_⟩, rfl⟩
  · intro c h
    cases h
  · intro i c h1 h2 _
    cases h1
    cases h2
    exact List.prefix_rfl

/-- A raise of the station's own, in flight under the lock. -/
def raiseFlying : State :=
  (flying lead (.grant { units := 10, reason := .phase, raise := true })).setBudget { lead.budget with lock := true }

theorem test_witness_ClaimLockStaysBacked :
    (∃ s t : State, s.budget.lock = true ∧ LockBacked s ∧ FlightSound s ∧ step s = .next t)
      ∧ ∃ s t : State, s.start.config = none ∧ NoGrantBeforeConfig s ∧ step s = .next t :=
  ⟨⟨raiseFlying, _, rfl, fun _ => .inr ⟨_, rfl, rfl⟩, by decide, rfl⟩, ⟨fresh .lead, _, rfl, fun _ => ⟨rfl, rfl⟩, rfl⟩⟩

/-- A station whose latch is set and whose record is locked. -/
def stoppedLead : State :=
  (inState lead .stopped).setStop { latch := true, driving := true, record := some stopRec, further := 255 }

theorem test_witness_OnlyNamedCommandsRelease :
    (∃ (c : Instr) (s : State) (r : FaultRec), Unlocks c = false ∧ s.stop.record = some r ∧ c = .rangeDown
      ∧ s = stoppedLead)
      ∧ (∃ (c : Instr) (s : State), ClearsLatch c = false ∧ s.stop.latch = true ∧ c = .restart (fromCell []) lines0
      ∧ s = stoppedLead)
      ∧ ∃ (c : Instr) (s : State) (k : Settings), (∀ w, c ≠ .powerOnReset w) ∧ s.start.config = some k
      ∧ c = .rangeDown ∧ s = lead :=
  ⟨⟨.rangeDown, stoppedLead, stopRec, rfl, rfl, rfl, rfl⟩, ⟨_, stoppedLead, rfl, rfl, rfl, rfl⟩,
    ⟨.rangeDown, lead, settings, by simp, rfl, rfl, rfl⟩⟩

/-- A station in STRAP_FAULT at a quiet line. -/
def strapBad : State := State.reset.setLink { Link.reset with line := .quiet }

theorem test_witness_StrapFaultTakesNoPart :
    strapBad.start.strapFault = true ∧ PortSafe strapBad ∧ strapBad.link.line = .quiet
      ∧ frameOf (.stopFrame (fromThree [])) = some (fromThree []) ∧ frameOf (.reportFrame 13 (fromThree [])) ≠ none
      ∧ frameOf (.reportFrame 14 (fromThree [])) = none := by decide

/-- The notice queue is full. -/
def full (s : State) : State :=
  s.setLink { s.link with notices := List.replicate 8 { kind := .holdEnded, index := 0 } }

theorem test_witness_ReportIsRecordedAndActsByClass :
    (lead.start.strapFault = false ∧ lead.link.notices.length < 8 ∧ lead.stop.record = none)
      ∧ (stoppedLead.start.strapFault = false ∧ stoppedLead.link.notices.length < 8 ∧ stoppedLead.stop.record ≠ none)
      ∧ FaultCause.travelUnmapped.code < 16 ∧ 16 ≤ FaultCause.zoneForbidden.code
      ∧ (lead.start.strapFault = false ∧ lead.isFollow = false)
      ∧ (follow.start.strapFault = false ∧ follow.isFollow = true)
      ∧ (full lead).start.strapFault = false ∧ 8 ≤ (full lead).link.notices.length := by decide

theorem test_witness_StopEdgeAndFrameSetLatch :
    lead.start.strapFault = false ∧ Takes (fromThree [9, 9]) lead
      ∧ Takes (fromThree []) (lead.setLink { lead.link with line := .receiving, taking := true }) := by decide

theorem test_witness_PowerOnResetExaminesStrap :
    let good := fun w : BitVec 16 =>
      (w.extractLsb' 0 6).toNat = ((w.extractLsb' 11 5).toNat + (w.extractLsb' 6 5).toNat) % 64
        ∧ w.extractLsb' 12 4 ≠ 0 ∧ w.extractLsb' 12 4 ≠ 15 ∧ w.extractLsb' 10 2 ≠ 0
    good 0x9A9D ∧ ¬good 0 ∧ ¬good 0x9A9C := by decide

theorem test_witness_StartIntervalEndOpensTheLink :
    ∃ (s : State) (k : Nat), s.start.strapFault = false ∧ s.start.intervalTimer = some k :=
  ⟨lead.setStart { startOf .lead with intervalTimer := some 2560000 }, 2560000, rfl, rfl⟩

theorem test_witness_ConfigIsAcceptedOrRefused :
    (∀ r : Role, Takes (fromCell configBytes) (fresh r) ∧ (fromCell configBytes).dest.toNat = (fresh r).start.number
        ∧ (fresh r).start.config = none ∧ (fresh r).travel.gateDue = none ∧ (fresh r).travel.measure = .gate)
      ∧ (fromCell configBytes).sender = 0 ∧ (∃ k, parseConfig (fromCell configBytes).payload = .ok k)
      ∧ (fresh .follow).isFollow = true ∧ (fresh .lead).isFollow = false
      ∧ (Takes (fromCell configBytes) lead ∧ lead.start.config.isSome = true)
      ∧ Takes (fromCell []) (fresh .lead) ∧ parseConfig (fromCell []).payload = .error 17
      ∧ Takes (fromCell (List.replicate 67 0)) (fresh .lead) ∧ parseConfig (List.replicate 67 0) = .error 1
      ∧ (Takes (fromCell []) (full lead) ∧ 8 ≤ (full lead).link.notices.length ∧ lead.link.notices.length < 8) := by
  refine ⟨?_, rfl, ⟨_, rfl⟩, rfl, rfl, by decide, by decide, rfl, by decide, rfl, by decide⟩
  intro r
  cases r <;> decide

/-- The settings above with all their six zones. -/
def settings6 : Settings := { settings with zones := zone :: List.replicate 5 { zone with valid := false } }

theorem test_settings_fit : SettingsFit settings6 := by
  unfold SettingsFit
  decide

theorem test_settings_good (n : Nat) (h1 : 1 ≤ n) (h2 : n ≤ 16) : SettingGood settings6 1 n := by
  interval_cases n <;> simp [SettingGood, settings6, settings, zone, ZoneGood]

theorem test_witness_ConfigContentIsChecked :
    (SettingsFit settings6 ∧ ∀ n, 1 ≤ n → n ≤ 16 → SettingGood settings6 1 n)
      ∧ (SettingsFit settings6 ∧ ¬SettingGood settings6 2 6 ∧ ∀ m, 1 ≤ m → m < 6 → SettingGood settings6 2 m)
      ∧ ([] : List Byte).length ≠ 67 ∧ (List.replicate 68 (0 : Byte)).length ≠ 67 := by
  refine ⟨⟨test_settings_fit, test_settings_good⟩, ⟨test_settings_fit, by simp [SettingGood], ?_⟩, by decide, by decide⟩
  intro m h1 h2
  interval_cases m <;> simp [SettingGood, settings6, settings]

theorem test_witness_TickLatchesAgesAndGates :
    (∀ r : Role, NothingOverdue (station r) ∧ (station r).start.strapFault = false
        ∧ (station r).load.pendingRange = none ∧ (station r).travel.measure = .gate
        ∧ (station r).travel.gateOpen = false)
      ∧ NothingOverdue (lead.setLoad { lead.load with pendingRange := some .r2 })
      ∧ NothingOverdue (lead.setTravel { lead.travel with measure := .period })
      ∧ NothingOverdue (lead.setTravel { lead.travel with gateOpen := true, gateTicks := 6 })
      ∧ NothingOverdue (lead.setTravel { lead.travel with gateOpen := true, gateTicks := 7 })
      ∧ 6 + 1 < lead.gateLength ∧ lead.gateLength ≤ 7 + 1 := by
  refine ⟨?_, by decide +kernel, by decide +kernel, by decide +kernel, by decide +kernel, by decide, by decide⟩
  intro r
  cases r <;> decide +kernel

/-- TARING with an attempt that holds `n` loads. -/
def taring (n : Nat) : State :=
  (inState lead .taring).setLoad { lead.load with tare := some { attempt := 4, loads := List.replicate n 0 } }

theorem test_witness_TickWatchesGrips :
    NothingOverdue (inState lead .armed) ∧ NothingOverdue (taring 0) ∧ NothingOverdue (taring 14)
      ∧ NothingOverdue (taring 15) ∧ (taring 15).seq.state = .taring ∧ lines0.ampFault = false
      ∧ lines0.grips = false ∧ ({ lines0 with grips := true } : Lines).grips = true := by decide +kernel

theorem test_witness_TickLatchesAgesAndGates_tare :
    let s := (taring 3).setLoad { (taring 3).load with pendingRange := some .r2 }
    NothingOverdue s ∧ s.start.strapFault = false ∧ s.load.pendingRange = some .r2
      ∧ s.load.tare = some { attempt := 4, loads := [0, 0, 0] } ∧ ({ lines0 with grips := true } : Lines).grips = true
      ∧ ({ lines0 with grips := true } : Lines).ampFault = false := by decide +kernel

theorem test_witness_MeasureUnitTakesGatesAndCounts :
    let period := fun n => lead.setTravel { lead.travel with measure := .period, periodTimer := n }
    PortSafe (lead.setTravel { lead.travel with gateDue := some 15, periodTimer := 65535 })
      ∧ PortSafe (lead.setTravel { lead.travel with gateDue := some (-16) })
      ∧ (PortSafe lead ∧ lead.travel.gateDue = none ∧ lead.travel.measure = .gate)
      ∧ (PortSafe (period 65534) ∧ (period 65534).travel.measure = .period)
      ∧ 65535 ≤ (period 65534).travel.periodTimer + 1 ∧ (period 65534).travel.periodTimer + 0 < 65535 := by decide

def withReturn (p : Option ExtPlan) : Order :=
  { order1 p with returnPlan := some { rate := 100, position := 10, share := 0 } }

def brokenReturn : State := solo.setSeq { solo.seq with state := .returning, order := some (withReturn none) }

/-- A RETURNING station whose return part asks for this share, after this many samples there. -/
def returning (share samples : Nat) : State :=
  solo.setSeq { solo.seq with
    state := .returning, stateSamples := samples
    order := some { order1 none with
      holdTimeout := some 1, returnPlan := some { rate := 100, position := 10, share } } }

theorem test_witness_LimitStageClamps :
    (forced lead = false ∧ Request.loadRate 100 1 5 ≠ .zero ∧ (Request.loadRate 100 1 5).mode = .loadRate)
      ∧ limitStage (.xhRate 100 5) (some zone) (-100) = -5 ∧ limitStage (.direct 0) (some zone) 20001 = 500
      ∧ limitStage (.direct 0) none (-20001) = -20000
      ∧ (brokenReturn.isFollow = false ∧ brokenReturn.seq.state = .returning
          ∧ (brokenReturn.seq.order.bind fun o => o.returnPlan).isSome = true) := by decide

theorem test_witness_RegulatorActsByMode :
    let seven : List (Int × Word32) := (List.range 7).map fun n : Nat => ((n : Int), BitVec.ofNat 32 n)
    seven.length < 8 ∧ ((70, 4294967295) :: seven).length = 8
      ∧ ((70, 4294967295) :: seven = (70, 4294967295) :: seven.take 6 ++ [(6, 6)])
      ∧ measuredRate ((70, 4294967295) :: seven) 10 = -9142
      ∧ forced lead = false ∧ forced stoppedLead = true ∧ (sample 1).held = false
      ∧ ((10 : Int) - 0).natAbs ≤ 10 ∧ 10 < ((11 : Int) - 0).natAbs := by decide

/-- The converter waits for the end of the load conversion. -/
def acquiring (s : State) : State := s.setLoad { s.load with conv := .acquiringLoad, overCheck := true }

theorem test_witness_LoadConversionLeadsOrCompletes :
    PortSafe (acquiring (extIn lead .measuring)) ∧ PortSafe (acquiring (extIn lead .settling))
      ∧ LoadEnds (acquiring lead) ∧ (acquiring lead).isFollow = false
      ∧ (acquiring lead).start.config ≠ none ∧ LoadEnds (acquiring (fresh .lead)) := by decide

theorem test_witness_LoadConversionLeadsOrCompletes_tare :
    ∀ n ∈ [14, 15], let s := acquiring (taring n)
      LoadEnds s ∧ s.isFollow = false ∧ s.start.strapFault = false ∧ s.stop.latch = false
        ∧ s.load.tare = some { attempt := 4, loads := List.replicate n 0 }
        ∧ (loadConversionEnd 0 s).seq.state = .taring := by decide +kernel

/-- An ATTACHING station about to receive its 16th reading in SETTLING, beside a load reading. -/
def settling (s : State) (loadReading : Int) : State :=
  ((holding s .attaching (some plan)).setExt { s.ext with state := .settling, strainCount := 15 }).setLoad
    { s.load with conv := .convertingStrain, reading := some loadReading, overCheck := true }

theorem test_witness_StrainConversionCompletesSample :
    let strain := fun (s : State) (e : ExtState) =>
      (extIn s e).setLoad { s.load with conv := .convertingStrain, reading := some 0 }
    let s := (strain lead .measuring).setExt
      { lead.ext with state := .measuring, zero := some 0, idRec := some { code := 2, travel := 10, serial := 1 } }
    StrainEnds s ∧ s.load.reading = some 0 ∧ s.isFollow = false ∧ s.ext.state = .measuring ∧ s.ext.zero = some 0
      ∧ s.ext.idRec.isSome = true ∧ StrainEnds (strain lead .settling) ∧ StrainEnds (strain lead .opening)
      ∧ (StrainEnds (strain follow .opening) ∧ (strain follow .opening).isFollow = true)
      ∧ StrainEnds (strain (fresh .lead) .settling)
      ∧ (StrainEnds (settling lead 0) ∧ 15 ≤ (settling lead 0).ext.strainCount)
      ∧ (strain lead .settling).ext.strainCount < 15 := by decide

theorem test_witness_StrainConversionCompletesSample_tare :
    ∀ n ∈ [14, 15],
      let s := (taring n).setLoad { (taring n).load with conv := .convertingStrain, reading := some 0 }
      StrainEnds s ∧ s.isFollow = false ∧ s.start.strapFault = false ∧ s.stop.latch = false
        ∧ s.load.tare = some { attempt := 4, loads := List.replicate n 0 }
        ∧ (strainConversionEnd 0 s).seq.state = .taring := by decide +kernel

/-- A RUNNING station with an open span, an armed break detector and a searching yield detector, on the last bit time
of its load conversion. The peak is 1000 N. -/
def detecting (limit : Nat) : State :=
  ((solo.setSeq { solo.seq with
      state := .running, phase := 1
      order := some { order1 none with yieldPlan := some { drop := 10, strainLimit := limit } } }).setLoad
    { solo.load with
        conv := .convertingLoad, spanOpen := true, breakArmed := true, yieldSearch := .searching
        peak := some { load := 1000, position := 0, strain := 0 } }).setTravel { solo.travel with latched := 100 }
    |>.setTestRec (some (TestRecord.fresh 7))

theorem test_witness_DetectorsActOnSample :
    let s := detecting 20000
    let seen := fun reading => (loadView reading none s).record
    CompletesSample (.loadConversionEnd 0) s ∧ TestStation s ∧ s.seq.order.isSome = true ∧ s.testRec.isSome = true
      ∧ s.link.notices.length < 8 ∧ Examined s (seen 0) ∧ s.load.yieldSearch = .searching
      ∧ (seen 30000).load = 3000 ∧ s.load.peak.map (·.load) = some 1000 ∧ (seen 30000).brk = false
      ∧ (seen 0).brk = true ∧ (seen 9500).yieldFlag = true ∧ (seen 9500).strain = 2000
      ∧ ((1999 : Nat) : Int) < (loadView 9500 none (detecting 1999)).record.strain :=
  ⟨.inl ⟨by decide, 0, rfl⟩, by decide, rfl, rfl, by decide, by decide, rfl, by decide, by decide, by decide,
    by decide, by decide, by decide, by decide⟩

theorem test_witness_DriveFaultAndOverloadStopCell :
    lead.start.intervalEnded = true ∧ lead.travel.tripped = false ∧ LoadEnds (acquiring lead)
      ∧ (acquiring lead).load.overCheck = true ∧ (acquiring lead).load.overPrev = false
      ∧ 105 * lead.loadCapacity
          < 100 * (((1050010 : Int) * (lead.loadCapacity * lead.load.range.percent)).tdiv 100000000).natAbs
      ∧ (lead.load.range = .r1 ∧ (-1100000 : Int).natAbs = 1100000) := by decide

theorem test_witness_DriveFaultAndOverloadStopCell_strain :
    let s := settling lead 1100000
    let latched := acquiring stoppedLead
    (StrainEnds s ∧ s.load.reading = some 1100000 ∧ s.start.strapFault = false ∧ s.load.overCheck = true
        ∧ s.load.overPrev = false ∧ s.load.range = .r1 ∧ s.seq.state ≠ .taring)
      ∧ (LoadEnds latched ∧ latched.load.overCheck = true ∧ latched.load.overPrev = false ∧ latched.stop.latch = true
          ∧ latched.seq.state ≠ .taring)
      ∧ (LoadEnds (acquiring (taring 15)) ∧ (taring 15).seq.state = .taring ∧ (taring 15).stop.latch = false
          ∧ (taring 15).isFollow = false) := by decide

theorem test_witness_RangeDecisions :
    (∃ l : LoadCh, l.range ≠ .r1 ∧ (1100000 : Int).natAbs = 1100000 ∧ l.rangeMode = .fixed .r2)
      ∧ lead.load.rangeMode = .auto ∧ PortSafe lead ∧ lead.load.range.narrower = some .r2
      ∧ PortSafe (lead.setLoad { lead.load with downCount := 32 })
      ∧ PortSafe (lead.setLoad { lead.load with settling := true, settleCount := 0 }) :=
  ⟨⟨{ lead.load with range := .r2, rangeMode := .fixed .r2 }, by decide, by decide, rfl⟩, by decide, by decide,
    by decide, by decide, by decide⟩

/-- A station in TARING with this attempt, with its plan and extensometer state. -/
def judging (a : Tare) (p : Option ExtPlan) (e : ExtState) : State :=
  (extIn (holding lead .taring p) e).setLoad { lead.load with tare := some a }

/-- A low grips line waits for a report, and the sample of the same tick is about to be completed. -/
def gripsWait (settling : Bool) : State :=
  ((inState lead .taring).setSeq { (inState lead .taring).seq with gripsLowWaits := true }).setLoad
    { lead.load with conv := .convertingLoad, settling, tare := some { attempt := 2, loads := List.replicate 15 0 } }

theorem test_witness_TareBeginsAndIsJudged :
    let armed := (inState lead .armed).setSeq { (inState lead .armed).seq with gripsCount := 16 }
    (PortSafe armed ∧ armed.seq.state = .armed ∧ 16 ≤ armed.seq.gripsCount)
      ∧ (∀ s ∈ [judging (oneTare 1 200) none .parked, judging (oneTare 1 200) (some plan) .parked,
            judging (oneTare 1 200) (some plan) .opening, judging (oneTare 1 200) (some plan) .jammed],
          TestStation s ∧ s.seq.state = .taring ∧ s.load.tare = some (oneTare 1 200)
            ∧ (oneTare 1 200).loads.length = 16
            ∧ ∀ x ∈ (oneTare 1 200).loads, ∀ y ∈ (oneTare 1 200).loads, (x - y) * 1000 ≤ 2 * s.loadCapacity)
      ∧ (∀ n ∈ [1, 3, 4], let s := judging (oneTare n 201) none .parked
          TestStation s ∧ s.seq.state = .taring ∧ s.load.tare = some (oneTare n 201)
            ∧ (oneTare n 201).loads.length = 16 ∧ 201 ∈ (oneTare n 201).loads ∧ 0 ∈ (oneTare n 201).loads
            ∧ 2 * (s.loadCapacity : Int) < (201 - 0) * 1000 ∧ s.seq.gripsLowWaits = false)
      ∧ ∀ b : Bool, let s := gripsWait b
          (LoadEnds s ∧ TestStation s ∧ s.seq.state = .taring ∧ s.seq.gripsLowWaits = true
            ∧ s.stop.latch = false ∧ s.load.tare.map (·.loads.length) = some 15) ∧ (loadView 0 none s).held = b := by
  decide

theorem test_witness_SequencerTimeoutsFault :
    let due := fun (q : SeqState) (d : DueTimeout) => lead.setSeq { lead.seq with state := q, due := some d }
    TestStation (due .held .hold) ∧ (due .held .hold).seq.due = some .hold
      ∧ TestStation (due .claiming .budget) ∧ TestStation (due .returning .budget)
      ∧ TestStation (due .ending .ending) := by decide

theorem test_witness_SequencerTimeoutsFault_waits :
    let far : SampleRec := { sample 1 with position := 21 }
    ((inState solo .ending).seq.state = .ending ∧ (inState solo .ending).travel.standstill = false)
      ∧ (∀ share ∈ [0, 1], (returning share 0).seq.state = .returning
          ∧ ((returning share 0).seq.order.bind (·.returnPlan)).map (·.share) = some share
          ∧ (returning share 0).holdsShare share = decide (share = 0))
      ∧ (((10 : Int) - (sample 1).position).natAbs ≤ 10 ∧ 10 < ((10 : Int) - far.position).natAbs)
      ∧ (returning 1 0).holdTimeout = 10000
      ∧ (10000 ≤ (999 + 1) * (returning 1 999).period
          ∧ (999 + 1) * (returning 1 999).period < 10000 + (returning 1 999).period) := by decide

/-- A RUNNING station in phase 1 of an order with these phases, with the plan and the own budget entry. -/
def runningIn (ps : List Phase) (p : Option ExtPlan) (own : Nat) : State :=
  (solo.setSeq { solo.seq with
      state := .running, phase := 1, phaseBegun := true, order := some { order1 p with phases := ps } }).setBudget
    { solo.budget with table := solo.budget.table.set 9 own }

/-- A phase that ends at once, and one that does not. -/
def quickPhase : Phase := { phase1 with endKind := .timeAt, share := 0 }
def longPhase (share : Nat) : Phase := { phase1 with share }

theorem test_witness_RegulatorActsByMode_request :
    let mode := fun m : PhaseMode => ({ phase1 with mode := m } : Phase)
    let follows := withMirror (followIn .following) (mirrorOf .lead .running) 0
    (∀ m ∈ [PhaseMode.xhRate, .loadRate, .strainRate, .hold], let s := runningIn [mode m] none 0
        s.isFollow = false ∧ s.seq.state = .running ∧ s.curPhase = some (mode m))
      ∧ (∀ share ∈ [0, 1], (returning share 0).isFollow = false ∧ (returning share 0).seq.state = .returning
          ∧ ((returning share 0).seq.order.bind (·.returnPlan)).map (·.share) = some share
          ∧ (returning share 0).holdsShare share = decide (share = 0))
      ∧ (solo.isFollow = false ∧ solo.seq.state ≠ .running ∧ solo.seq.state ≠ .returning)
      ∧ (follows.isFollow = true ∧ follows.follow.state = .following
          ∧ follows.pair.mirror = some (mirrorOf .lead .running))
      ∧ (follow.isFollow = true ∧ follow.follow.state ≠ .following) := by decide

theorem test_witness_SequencerHandlesSample :
    let broken : SampleRec := { sample 1 with brk := true }
    let held := fun s : State => s.setSeq { s.seq with state := .held }
    let unbegun := fun s : State => s.setSeq { s.seq with phaseBegun := false }
    let ends := fun s : State => s.seq.state = .running ∧ (sample 1).brk = false ∧ phaseEnds s (sample 1) false = true
    let stays := fun s : State => s.seq.state = .running ∧ phaseEnds s (sample 1) false = false
    (inState lead .claiming).holdsShare ((inState lead .claiming).shareOf 1) = true
      ∧ (holding lead .claiming none).holdsShare ((holding lead .claiming none).shareOf 1) = false
      ∧ (held (runningIn [longPhase 10] none 9)).seq.state = .held
      ∧ (holdCauses (held (runningIn [longPhase 10] none 9))).any = true
      ∧ ((holdCauses (held (runningIn [longPhase 10] none 10))).any = false
          ∧ (held (runningIn [longPhase 10] none 10)).seq.phaseBegun = true)
      ∧ ((holdCauses (unbegun (held (runningIn [longPhase 10] none 10)))).any = false
          ∧ (unbegun (held (runningIn [longPhase 10] none 10))).seq.state = .held
          ∧ (unbegun (held (runningIn [longPhase 10] none 10))).seq.phaseBegun = false)
      ∧ (TestStation (acquiring lead) ∧ LoadEnds (acquiring lead) ∧ partnerSuspect (acquiring lead) = false)
      ∧ (sampleFaults false false solo (demandRequest solo) (sample 1) = []
          ∧ sampleFaults true false lead (demandRequest lead) (sample 1) = []
          ∧ entryFaults solo = [] ∧ entryFaults lead = [])
      ∧ ((inState solo .attaching).seq.state.code ≤ 4 ∧ 10 ≤ (inState solo .done).seq.state.code)
      ∧ (broken.brk = true ∧ solo.travel.standstill = false
          ∧ (runningIn [quickPhase] none 0).travel.standstill = false)
      ∧ (ends (runningIn [quickPhase] none 0)
          ∧ ({ order1 none with phases := [quickPhase] } : Order).phaseAt 2 = none)
      ∧ (ends (runningIn [quickPhase, longPhase 5] none 6)
          ∧ ({ order1 none with phases := [quickPhase, longPhase 5] } : Order).phaseAt 2 = some (longPhase 5)
          ∧ (runningIn [quickPhase, longPhase 5] none 6).holdsShare 5 = true
          ∧ 5 < (runningIn [quickPhase, longPhase 5] none 6).ownEntry)
      ∧ (ends (runningIn [quickPhase, longPhase 5] none 5)
          ∧ (runningIn [quickPhase, longPhase 5] none 5).holdsShare 5 = true
          ∧ (runningIn [quickPhase, longPhase 5] none 5).ownEntry = 5
          ∧ (runningIn [quickPhase, longPhase 5] none 5).link.grantInFlight = none)
      ∧ (ends (runningIn [quickPhase, longPhase 5] none 4)
          ∧ (runningIn [quickPhase, longPhase 5] none 4).holdsShare 5 = false)
      ∧ (stays (runningIn [longPhase 5] none 4) ∧ (holdCauses (runningIn [longPhase 5] none 4)).any = true)
      ∧ (stays (runningIn [longPhase 5] none 5) ∧ (holdCauses (runningIn [longPhase 5] none 5)).any = false) := by
  decide

/-- A RUNNING station on the last bit time of its strain conversion. -/
def strainEnding : State :=
  (extIn (runningIn [longPhase 0] (some plan) 0) .measuring).setLoad
    { solo.load with conv := .convertingStrain, reading := some 0 }

/-- The plan removes the extensometer at the end of phase 1. -/
def removing : State :=
  (runningIn [quickPhase] (some { plan with removal := .atPhaseEnd, value := 1 }) 0).setExt
    { solo.ext with state := .measuring, pair := some (3, 4) }

theorem test_witness_SequencerHandlesSample_strain :
    TestStation strainEnding ∧ StrainEnds strainEnding ∧ strainEnding.load.reading = some 0
      ∧ partnerSuspect (takenSample (loadView 0 (some 0) strainEnding) strainEnding) = false := by decide +kernel

theorem test_witness_SequencerHandlesSample_removal :
    removing.seq.state = .running ∧ phaseEnds removing (sample 1) false = true
      ∧ removing.extPlan = some { plan with removal := .atPhaseEnd, value := 1 } ∧ removing.seq.phase = 1
      ∧ removing.ext.state = .measuring ∧ removing.ext.pair = some (3, 4) := by decide

theorem test_witness_EndConditionsAndHoldCauses :
    (runningIn [quickPhase] none 0).curPhase = some quickPhase ∧ (inState solo .running).curPhase = none
      ∧ ({ phase1 with endKind := .strainAt } : Phase).endKind = .strainAt
      ∧ reaches 0 5 5 = true ∧ reaches 5 5 9 = true ∧ reaches 0 5 4 = false ∧ reaches 9 5 4 = true := by decide

theorem test_witness_PhaseBeginsOnItsSample :
    let second := fun s : State => s.setSeq { s.seq with phase := 2 }
    let mode := fun m : PhaseMode => ({ longPhase 5 with mode := m } : Phase)
    (runningIn [longPhase 5] none 5).curPhase = some (longPhase 5)
      ∧ (holdCauses (runningIn [longPhase 5] none 5)).any = false
      ∧ (holdCauses (runningIn [longPhase 5] none 4)).any = true
      ∧ (second (runningIn [quickPhase, mode .xhRate] none 5)).curPhase = some (mode .xhRate)
      ∧ (second (runningIn [quickPhase, mode .xhRate] none 5)).windowKept (mode .xhRate) = true
      ∧ (second (runningIn [quickPhase, mode .hold] none 5)).windowKept (mode .hold) = false
      ∧ (removing.curPhase = some quickPhase ∧ quickPhase.source = .xh ∧ removing.ext.state = .measuring) := by decide

/-- A HELD lead whose skew is beyond the limit, and the same with the hold timeout found reached. -/
def skewed : State :=
  (withMirror (inState lead .held) (mirrorOf .follow .held) 0).setPair
    { (withMirror lead (mirrorOf .follow .held) 0).pair with skewKnown := true, skew := -201 }

def skewedDue : State := skewed.setSeq { skewed.seq with due := some .hold }

/-- The partner shows STOPPED. -/
def beside (s : State) : State := withMirror s (mirrorOf .follow .stopped) 12

theorem test_witness_MovementFaultsOfSample :
    let s := runningIn [longPhase 0] none 0
    let off : SampleRec := { sample 1 with position := 2000000 }
    (zoneInForce s.zones 5 = some zone ∧ zoneInForce s.zones 2000000 = none)
      ∧ ((barred s).moveKind = .test
          ∧ zoneFault (barred s) (demandRequest (barred s)) (sample 1) = some .zoneForbidden)
      ∧ zoneFault s (demandRequest s) off = some .travelUnmapped
      ∧ zoneFault (inState s .held) .zero off = none
      ∧ (skewed.start.strapFault = false ∧ skewFires skewed = true ∧ skewed.stop.record = none
          ∧ judgmentDue skewed = false)
      ∧ sampleFaults false false skewed (demandRequest skewed) off = [.skewLimit]
      ∧ (skewedDue.seq.state = .held ∧ skewedDue.seq.due = some .hold
          ∧ sampleFaults false false skewedDue (demandRequest skewedDue) (sample 1) = [.holdTimeout, .skewLimit])
      ∧ (sampleFaults false true lead (demandRequest lead) (sample 1) = []
          ∧ overloadFault true = [.overload])
      ∧ sampleFaults false false s (demandRequest s) (sample 1) = [] := by decide

theorem test_witness_MovementFaultsOfSample_partner :
    let late := beside (skewedDue.setPair { skewedDue.pair with skewKnown := false })
    partnerCause late = some .partnerFault
      ∧ sampleFaults false false late (demandRequest late) (sample 1) = [.holdTimeout, .partnerFault]
      ∧ sampleFaults true false late (demandRequest late) (sample 1) = [] := by decide

theorem test_witness_MovementFaultsOfSample_tare :
    let s := fun last => judging (oneTare 4 last) none .parked
    (judgmentDue (s 201) = true ∧ tareFails (s 201) = true ∧ (s 201).stop.record = none
        ∧ (s 201).isFollow = false ∧ (s 201).stop.latch = false)
      ∧ (judgmentDue (s 200) = true ∧ tareFails (s 200) = false)
      ∧ (sampleFaults false true (s 201) (demandRequest (s 201)) (sample 1) ++ overloadFault true = [.overload])
      ∧ sampleFaults false true (beside (s 201)) .zero (sample 1) ++ overloadFault true
          = [.partnerFault, .overload] := by decide

/-- A full stable tare attempt and a full settling, each about to lead to CLAIMING in a zone that forbids it. -/
def claimsBarred : List State :=
  [barred (judging (oneTare 1 200) none .parked),
    barred ((settling lead 0).setExt { (settling lead 0).ext with strainCount := 16 })]

theorem test_witness_MovementFaultsOfSample_entry :
    let skew := fun s : State => s.setPair { s.pair with skewKnown := true, skew := -201 }
    let enters := acquiring (barred (inState solo .claiming))
    (∀ s ∈ claimsBarred, entryFaults s = [.zoneForbidden] ∧ entryFaults (skew s) = [.skewLimit, .zoneForbidden]
        ∧ sampleFaults false false s (demandRequest s) (sample 1) = [] ∧ s.isFollow = false ∧ s.stop.latch = false
        ∧ s.stop.record = none ∧ s.start.strapFault = false)
      ∧ (entryFaults skewed = [] ∧ entryFaults (judging (oneTare 1 201) none .parked) = [])
      ∧ (LoadEnds enters ∧ TestStation enters ∧ enters.seq.state = .claiming ∧ enters.stop.record = none
          ∧ zoneInForce enters.zones enters.travel.latched = some { zone with permitsTest := false }) := by decide

theorem test_witness_PartnerChecksFaultLead :
    let s := acquiring (beside (inState lead .armed))
    let restarted := (withMirror (inState lead .held) (mirrorOf .follow .idle) 12).setPair
      { (withMirror lead (mirrorOf .follow .idle) 12).pair with runCount := 13 }
    let both := skewed.setPair { skewed.pair with mirror := some (mirrorOf .follow .stopped) }
    (CompletesSample (.loadConversionEnd 0) s ∧ s.start.strapFault = false ∧ s.seq.state = .armed
        ∧ partnerCause s = some .partnerFault ∧ s.travel.appliedAtTick = 0)
      ∧ (partnerCause restarted = some .partnerRestarted ∧ restarted.start.strapFault = false
          ∧ skewFires restarted = false)
      ∧ (partnerCause both = some .partnerFault ∧ skewFires both = true ∧ both.stop.latch = false
          ∧ both.stop.record = none)
      ∧ partnerCause lead = none :=
  ⟨⟨.inl ⟨by decide, 0, rfl⟩, by decide, by decide, by decide, by decide⟩, by decide, by decide, by decide⟩

theorem test_witness_PartnerChecksFaultLead_claim :
    let s := barred (inState lead .claiming)
    (claimForbidden s (sample 1) = true ∧ s.start.strapFault = false)
      ∧ (firstFaults false s (sample 1) = [.zoneForbidden] ∧ skewFires s = false ∧ s.stop.record = none)
      ∧ firstFaults false (beside s) (sample 1) = [.zoneForbidden, .partnerFault]
      ∧ skewFires ((beside s).setPair { (beside s).pair with skewKnown := true, skew := 201 }) = true
      ∧ firstFaults true (beside (inState lead .held)) (sample 1) = [.partnerFault]
      ∧ firstFaults false lead (sample 1) = [] := by decide

def brokenEnding : State :=
  (((holding solo .ending none).setTravel { solo.travel with standstill := true }).setSeq
    { (holding solo .ending none).seq with
        order := some (withReturn none) }).setTestRec
    (some { TestRecord.fresh 7 with outcome := some .broken })

theorem test_witness_StandstillInEndingReturnsOrEnds :
    brokenEnding.seq.state = .ending ∧ brokenEnding.travel.standstill = true
      ∧ brokenEnding.testRec.map (·.outcome) = some (some .broken) ∧ brokenEnding.seq.returnCancelled = false
      ∧ brokenEnding.holdsShare 0 = true ∧ ((10 : Int) - (sample 1).position).natAbs ≤ 10
      ∧ (brokenEnding.setTestRec none).testRec = none := by decide

theorem test_witness_StandstillInEndingReturnsOrEnds_entry :
    let ends := fun q : SeqState => ((inState (runningIn [quickPhase] none 0) q).setTravel
      { solo.travel with standstill := true }).setTestRec (some (TestRecord.fresh 7))
    (∀ q ∈ [SeqState.running, .held], (ends q).seq.state = q ∧ (ends q).travel.standstill = true
        ∧ (ends q).seq.order.isSome = true ∧ (ends q).testRec.isSome = true
        ∧ ((ends q).seq.order.bind (·.returnPlan)) = none)
      ∧ (phaseEnds (ends .running) (sample 1) false = true
          ∧ ({ order1 none with phases := [quickPhase] } : Order).phaseAt ((ends .running).seq.phase + 1) = none) := by
  decide

theorem test_witness_FollowLosesItsPartner :
    PortSafe (followIn .following) ∧ (followIn .following).isFollow = true ∧ (followIn .following).pair.lost = true
      ∧ 600000 ≤ 60000 * (followIn .held).period := by decide

theorem test_witness_FollowTracksLead :
    let s := fun own q age => withMirror (followIn own) (mirrorOf .lead q) age
    12 < (s .following .running 13).pair.age ∧ (s .following .running 12).pair.age ≤ 12
      ∧ SeqState.attaching.code ≤ 4 ∧ 10 ≤ SeqState.done.code ∧ SeqState.faulted.code ≤ 12
      ∧ SeqState.returning.claims = true ∧ (s .held .running 0).follow.state = .held
      ∧ ((s .idle .held 12).follow.state = .idle ∧ (s .idle .held 12).pair.mirror.isSome = true
          ∧ SeqState.held.claims = true ∧ (s .idle .held 12).stop.latch = false
          ∧ (s .idle .held 12).stop.record = none ∧ (s .idle .held 12).start.intervalEnded = true)
      ∧ (followIn .idle).pair.mirror = none ∧ SeqState.ending.claims = false
      ∧ ((followIn .followClaim).pair.mirror = none ∧ (followIn .followClaim).follow.state = .followClaim)
      ∧ (followIn .stopped).follow.state = .stopped
      ∧ (∀ q ∈ [SeqState.idle, .following], (acquiring (followIn q)).isFollow = true
          ∧ LoadEnds (acquiring (followIn q))) := by decide

theorem test_witness_SkewTrimAndAlarm :
    let s := fun age => withMirror (inState lead .idle) (mirrorOf .follow .idle) age
    (s 8).paired = true ∧ (s 8).pair.age ≤ 8 ∧ (s 8).ownState ≠ .unconfigured ∧ 8 < (s 9).pair.age
      ∧ (s 8).link.notices.length < 8 ∧ (s 8).pair.alarmed = false := by decide

theorem test_witness_ArmLinesStartBitAndSettling :
    let waits := extIn (lead.setExt { lead.ext with attachWaits := true }) .opening
    let settled := (holding lead .attaching (some plan)).setExt { lead.ext with state := .settling, strainCount := 16 }
    PortSafe (extIn lead .closing) ∧ (PortSafe (extIn lead .opening) ∧ (extIn lead .opening).ext.attachWaits = false)
      ∧ (PortSafe waits ∧ waits.ext.state = .opening ∧ waits.ext.attachWaits = true)
      ∧ (PortSafe lead ∧ lead.ext.state ≠ .opening ∧ lead.ext.state ≠ .closing ∧ lead.ext.state ≠ .ident)
      ∧ (PortSafe (extIn lead .ident) ∧ (extIn lead .ident).ext.shift = none)
      ∧ (settled.ext.state = .settling ∧ 16 ≤ settled.ext.strainCount ∧ settled.seq.state = .attaching)
      ∧ (∀ l ∈ [(0 : Int), 1100000], TestStation (settling solo l) ∧ StrainEnds (settling solo l)
          ∧ (settling solo l).load.reading = some l ∧ (settling solo l).stop.latch = false
          ∧ (settling solo l).stop.record = none ∧ (settling solo l).travel.appliedAtTick = 0
          ∧ partnerCause (settling solo l) = none
          ∧ overloadFires (settling solo l) (grossLoad (settling solo l).loadCapacity .r1 l) l = decide (l = 1100000))
      ∧ partnerCause (withMirror (settling lead 0) (mirrorOf .follow .stopped) 0) = some .partnerFault
      ∧ (∀ b : Bool, let s := if b then barred (settling solo 0) else settling solo 0
          TestStation s ∧ StrainEnds s ∧ s.ext.state = .settling ∧ s.ext.strainCount = 15
            ∧ entryFaults (takenSample (loadView 0 (some 17) (countSettling 17 s)) (countSettling 17 s))
              = if b then [.zoneForbidden] else []) := by
  decide +kernel

theorem test_witness_AttachAndArmFailures :
    let attaching := fun (f : Bool) (e : ExtState) =>
      extIn (holding lead .attaching (some { plan with fallback := f })) e
    let measured := lead.setExt { lead.ext with state := .measuring, pair := some (3, 4) }
    (∀ f ∈ [true, false], ∀ e ∈ [ExtState.closing, .ident, .settling], TestStation (attaching f e)
        ∧ (attaching f e).ext.state = e ∧ (attaching f e).seq.state = .attaching ∧ (attaching f e).fallback = f)
      ∧ (measured.ext.state = .measuring ∧ measured.ext.pair = some (3, 4) ∧ measured.link.notices.length < 8)
      ∧ ((extIn (inState lead .armed) .opening).ext.state = .opening
          ∧ (extIn (inState lead .armed) .opening).start.strapFault = false
          ∧ (extIn (inState lead .armed) .opening).start.config = some settings ∧ settings.extFitted = true
          ∧ (inState lead .armed).seq.state.isTest = true)
      ∧ ((extIn (followIn .following) .opening).isFollow = true
          ∧ (extIn (followIn .following) .opening).follow.state = .following)
      ∧ ((extIn (fresh .lead) .opening).ext.state = .opening
          ∧ (extIn (fresh .lead) .opening).start.config = none) := by decide

/-- A MEASURING station in phase 1, with a full slip window, on the last bit time of its strain conversion. -/
def examining (p : ExtPlan) : State :=
  ((runningIn [longPhase 0] (some p) 0).setExt
    { solo.ext with state := .measuring, zero := some 0, pair := some (5, 0)
                    idRec := some { code := 2, travel := 10, serial := 1 }
                    slip := List.replicate 8 (0, 1000) }).setLoad
    { solo.load with conv := .convertingStrain, reading := some 0, spanOpen := true, breakArmed := true }

theorem test_witness_ExaminationSwitchesOver :
    let s := examining plan
    let drop := { plan with removal := .atPeakDrop, value := 50 }
    let v : ExtView := { reading := 950000, peak := some { load := 1000, position := 0, strain := 0 }, inSpan := true }
    let r := fun l e : Int => ({ sample 1 with load := l, strain := e } : SampleRec)
    (s.ext.state = .measuring ∧ s.extPlan = some plan ∧ s.ext.slip.length ≤ 8 ∧ v.reading.natAbs ≤ 1100000)
      ∧ examineCause s v { sample 1 with brk := true } = some .testEnd
      ∧ (¬TravelPassed s.ext v.reading ∧ TravelPassed s.ext 950001)
      ∧ (Joins v (r 10 899) ∧ examineCause s v (r 10 899) = some .slip ∧ examineCause s v (r 10 900) = none)
      ∧ examineCause s v (r 9 20000) = some .removal
      ∧ examineCause (examining drop) v (r 950 1000) = some .removal
      ∧ (examineCause s v (r 9 1000) = none ∧ ¬Joins { v with inSpan := false } (r 9 1000)
          ∧ examineCause s { v with inSpan := false } (r 9 1000) = none)
      ∧ (lead.ext.state ≠ .measuring ∧ s.ext.pair = some (5, 0) ∧ s.link.notices.length < 8)
      ∧ (TestStation s ∧ StrainEnds s ∧ TravelPassed s.ext (max (-1100000) (min 1100000 1200000))) := by decide

/-- A RUNNING station that collects its curve, on the last bit time of its load conversion. -/
def collecting (store : List SampleRec) (offered dec : Nat) : State :=
  (acquiring (runningIn [longPhase 0] none 0)).setRecorder
    { Recorder.reset with collection := .collecting, runBegun := true, store, offered, decCount := dec }

theorem test_witness_SamplesAreOffered :
    (∀ s ∈ [collecting [] 0 0, collecting [sample 1] 1 0, collecting [] 1 1, collecting [] 4294967295 0],
        CompletesSample (.loadConversionEnd 0) s ∧ Eligible s)
      ∧ (CompletesSample (.loadConversionEnd 0) (acquiring lead) ∧ ¬Eligible (acquiring lead))
      ∧ HasRoom (collecting [] 0 0).recorder (sample 0) ∧ ¬HasRoom (collecting [sample 1] 1 0).recorder (sample 0) := by
  refine ⟨?_, ⟨.inl ⟨by decide, 0, rfl⟩, by decide⟩, ⟨by decide, fun _ h => nomatch h⟩, ?_⟩
  · intro s h
    exact ⟨.inl ⟨by revert s; decide, 0, rfl⟩, by revert s; decide⟩
  · intro h
    exact absurd (h.2 (sample 1) rfl) (by decide)

theorem test_witness_TestEndPlacesResult :
    let w := TestRecord.fresh 7
    let s := (collecting [sample 1] 1 0).setTestRec (some w)
    let full := s.setLink { s.link with result := some w, curve := some { testId := 7, samples := [] } }
    (s.testRec = some w ∧ s.link.result = none ∧ s.link.resultInFlight = false ∧ s.link.notices.length < 8
        ∧ s.link.curve = none ∧ s.link.curveInFlight = false ∧ s.recorder.store ≠ [])
      ∧ (full.testRec = some w ∧ full.link.result ≠ none ∧ full.link.curve ≠ none)
      ∧ brokenEnding.testRec.bind (·.outcome) = some .broken
      ∧ (TestStation s ∧ s.stop.latch = false ∧ s.seq.state.isTest = true) := by decide

theorem test_witness_IdentWordIsExamined :
    let good := fun w : BitVec 32 => (w.extractLsb' 0 8).toNat
      = ((w.extractLsb' 29 3).toNat * 32 + (w.extractLsb' 24 5).toNat + (w.extractLsb' 8 16).toNat / 256
          + (w.extractLsb' 8 16).toNat % 256) % 256
    good 0x4A11419C ∧ ¬good 0x4A11419D ∧ good 0 ∧ (holding lead .attaching (some plan)).expectedGauge = 2
      ∧ (some 0 : Option Nat) ≠ none := by decide

theorem test_witness_LineStateAndReceiveErrors :
    let wait := lead.setLink { lead.link with line := .receiving, taking := false }
    let inStep := lead.setBudget { lead.budget with inStep := true }
    let deaf := strapBad.setLink { strapBad.link with line := .receiving, taking := true }
    (PortSafe lead ∧ lead.link.line = .quiet)
      ∧ (PortSafe deaf ∧ deaf.link.line = .receiving ∧ deaf.start.strapFault = true)
      ∧ (PortSafe wait ∧ wait.link.line = .receiving ∧ wait.link.taking = false)
      ∧ (lead.start.strapFault = false ∧ lead.link.takes = true ∧ lead.budget.inStep = false)
      ∧ (inStep.start.strapFault = false ∧ inStep.link.takes = true ∧ inStep.budget.inStep = true)
      ∧ judgeTaken { bytes := List.replicate 5 0, partialByte := false } = .short
      ∧ judgeTaken { bytes := List.replicate 6 0, partialByte := false } = .length
      ∧ judgeTaken { bytes := [1, 63, 61, 128, 0, 2, 40, 1, 41, 13], partialByte := false } = .check := by decide

theorem test_witness_ReceivedBytesAreJudged :
    (List.replicate 5 (0 : Byte)).length < 6 ∧ 6 ≤ (List.replicate 6 (0 : Byte)).length
      ∧ (List.replicate 7 (0 : Byte)).length ≠ 6 + 0 + 2 ∧ (List.replicate 8 (0 : Byte)).length = 6 + 0 + 2
      ∧ judgeTaken { bytes := [1, 63, 61, 128, 0, 2, 40, 1, 41, 12], partialByte := false } = .good
      ∧ judgeTaken { bytes := [1, 63, 61, 128, 0, 2, 40, 1, 41, 12], partialByte := true } = .length
      ∧ weightedSum [1, 63, 61, 128, 0, 2, 40, 1] % 255 = 12
      ∧ (OutFrame.status (buildStatus lead)).payload.length ≤ 160 := by decide

/-- The line is quiet and a raise waits in its slot. -/
def raiseWaits : State :=
  (inState lead .claiming).setLink
    { lead.link with grant := some { units := 10, reason := .phase, raise := true } }

theorem test_witness_ArbiterStartsLowestLevel :
    let locked := raiseWaits.setBudget { raiseWaits.budget with lock := true }
    let early := lead.setStart { lead.start with intervalEnded := false }
    let double := lead.setStop { lead.stop with record := some { stopRec with cause := .duplicateNumber } }
    (PortSafe raiseWaits ∧ raiseWaits.link.line = .quiet ∧ eligible raiseWaits 1 = true
        ∧ pendingFrame raiseWaits 0 = none
        ∧ pendingFrame raiseWaits 1 = some (.grant { units := 10, reason := .phase, raise := true })
        ∧ raiseWaits.link.quiet + 33 = 8 + 16 * 1 + raiseWaits.start.number ∧ raiseWaits.budget.lock = false
        ∧ raiseWaits.link.inFlight = none)
      ∧ (PortSafe locked ∧ eligible locked 1 = true ∧ locked.budget.lock = true)
      ∧ strapBad.start.strapFault = true ∧ (early.start.strapFault = false ∧ early.start.intervalEnded = false)
      ∧ (double.start.strapFault = false ∧ double.stop.record.map (·.cause) = some .duplicateNumber)
      ∧ (stoppedLead.start.intervalEnded = true ∧ stoppedLead.stop.record.map (·.cause) = some .driveFault) := by decide

theorem test_witness_CompletionOfOwnFrames :
    let notice : OutFrame := .notice { kind := .holdEnded, index := 0 }
    let lost := (flying lead notice).setLink { (flying lead notice).link with lost := 2 }
    let grant := fun s : State => s.link.grantInFlight
    ((flying lead notice).link.line = .sending ∧ (flying lead notice).link.inFlight.map (·.frame) = some notice
        ∧ (flying lead notice).link.lost = 0)
      ∧ (lost.link.inFlight.map (·.disowned) = some false ∧ lost.link.lost ≠ 0)
      ∧ (curveFlying.link.line = .sending ∧ curveFlying.link.inFlight.isSome = true)
      ∧ (raiseFlying.link.line = .sending ∧ grant raiseFlying = some { units := 10, reason := .phase, raise := true }
          ∧ 1 ≤ raiseFlying.start.number ∧ raiseFlying.start.number ≤ 14 ∧ raiseFlying.ownEntry < 10
          ∧ raiseFlying.link.inFlight.map (·.epoch) = some raiseFlying.budget.epoch ∧ raiseFlying.fits 10 = true
          ∧ raiseFlying.fits 101 = false) := by decide

theorem test_witness_AbandonmentReturnsFrame :
    ∃ (s : State) (i : InFlight), s.link.line = .sending ∧ s.link.inFlight = some i ∧ i.frame = .stop .overload
      ∧ s.link.stop = none
      ∧ s.budget.requested = s.ownEntry :=
  ⟨flying lead (.stop .overload), _, rfl, rfl, rfl, rfl, by decide⟩

theorem test_witness_TimersAndPresence :
    let s := (lead.setPair { lead.pair with levelTimer := some 4 }).setLink
      { lead.link with statusTimer := some 64, presence := lead.link.presence.set 14 (some 257) }
    PortSafe s ∧ s.pair.levelTimer = some 4 ∧ s.statusPeriod ≤ 64 ∧ s.link.presence[14] = some 257
      ∧ 4 * s.statusPeriod < 257 ∧ 256 ≤ 4 * s.statusPeriod ∧ (14 : Node).toNat < 15 := by decide

theorem test_witness_GoodFrameIsExamined :
    Takes (fromThree []) lead ∧ 1 ≤ (5 : Byte).toNat ∧ (7 : Byte).toNat ≤ 13
      ∧ ({ fromThree [] with sender := 9 } : RxFrame).sender.toNat = lead.start.number
      ∧ (PortSafe lead ∧ lead.link.takes = true ∧ frameOf (.order { fromCell [] with sender := 15 }) ≠ none
          ∧ (0 : Byte).toNat = 0 ∧ 13 < (14 : Byte).toNat)
      ∧ (inState lead .armed).seq.state.isTest = true := by decide

theorem test_witness_GoodFrameIsExamined_discards :
    let cell := fromCell []
    let fixed := { cell with dest := 8 }
    (∀ f ∈ [cell, fixed, fromThree [], fromThree [40, 1], fromCell [9]], Takes f lead)
      ∧ (cell.sender = 0 ∧ (fromThree []).payload.length ≠ 2 ∧ (fromThree [40, 1]).sender ≠ 0
          ∧ fixed.dest.toNat ≠ lead.start.number ∧ fixed.dest ≠ 15 ∧ (fromCell [9]).payload ≠ []
          ∧ cell.payload.length ≠ 1) := by decide

theorem test_witness_GrantIsAppliedOrRefused :
    Takes (fromThree [40, 1]) lead ∧ (fromThree [40, 1]).sender ≠ 0
      ∧ (fromThree [40, 1]).epoch ≠ lead.budget.epoch ∧ lead.budget.entry 3 < 40
      ∧ tableSum (lead.budget.setEntry 3 100) ≤ lead.capacity ∧ lead.capacity < tableSum (lead.budget.setEntry 3 101)
      ∧ (0 : Nat) ≤ lead.budget.entry 3
      ∧ (Takes (fromThree [40, 1]) raiseWaits ∧ raiseWaits.link.pendingRaise = true) := by decide

theorem test_witness_LevelFrameBecomesMirror :
    Takes (fromTen [3, 0, 0, 0, 100, 14]) lead ∧ (fromTen []).sender.toNat = lead.start.partner
      ∧ parseLevel [3, 0, 0, 0, 100, 14]
          = some { mirrorOf .follow .following with position := 100, share := 0 }
      ∧ LevelFits { mirrorOf .follow .following with position := -2147483648, share := 0 }
      ∧ LevelFits { mirrorOf .lead .running with demand := -5, phase := 255, share := 255 }
      ∧ parseLevel [3, 0, 0, 0, 100, 15] = none ∧ parseLevel [3, 0, 0, 0, 100, 14, 0] = none
      ∧ parseLevel [1, 0, 0, 0, 100, 14] = none
      ∧ (fromThree [3, 0, 0, 0, 100, 14]).sender.toNat ≠ lead.start.partner := by
  refine ⟨by decide, by decide, by decide, ?_, ?_, by decide, by decide, by decide, by decide⟩ <;>
    simp [LevelFits, Signed32, mirrorOf]

theorem test_witness_StatusFrameRecoversTable_layout :
    StatusFits (buildStatus lead) ∧ StatusFits (buildStatus (lead.setBudget { lead.budget with inStep := true }))
      ∧ parseStatus (fromThree []).payload = none := by
  refine ⟨?_, ?_, by decide⟩
  · unfold StatusFits
    exact ⟨by decide, by decide, by decide, by decide, by decide, by decide, by decide, by decide, by decide,
      by decide, by decide, by decide, by decide⟩
  · unfold StatusFits
    refine ⟨by decide, by decide, by decide, by decide, by decide, by decide, by decide, by decide, by decide,
      by decide, by decide, ?_, by decide⟩
    exact fun _ => ⟨_, rfl, by decide, by decide⟩

theorem test_witness_StatusFrameRecoversTable :
    (parseStatus ([2, 1, 0, 8, 0, 0, 5, 100] ++ List.replicate 47 0)).map (·.capacity) = some 100
      ∧ (parseStatus ([2, 1, 0, 0, 0, 0, 5, 99] ++ List.replicate 32 0)).map (·.entries) = some none
      ∧ staysInStep (fromThree []) lead = false ∧ lead.capacity = 100 ∧ Takes (fromThree []) lead
      ∧ (Takes (fromThree []) (fresh .lead) ∧ (fresh .lead).start.config = none
          ∧ (fresh .lead).link.grantInFlight = none ∧ staysInStep (fromThree []) (fresh .lead) = false)
      ∧ (let s := (lead.setBudget { lead.budget with inStep := true, epoch := 5 }).setLink
          { lead.link with status := some (buildStatus lead) }
        let f : RxFrame := { fromThree [] with epoch := 6 }
        Takes f s ∧ staysInStep f s = false ∧ s.start.config ≠ none ∧ s.link.status ≠ none) := by
  decide +kernel

theorem test_witness_ColdStartKeepsOwnEntry :
    ∃ (s : State) (n : Nat), s.budget.coldTimer = some n ∧ 4 * s.statusPeriod ≤ n ∧ s.budget.inStep = false :=
  ⟨lead.setBudget { lead.budget with coldTimer := some 256 }, 256, rfl, by decide, rfl⟩

theorem test_witness_OrderIsAcceptedOrRefused :
    (Takes (fromCell orderBytes) follow ∧ follow.isFollow = true)
      ∧ (Takes (fromCell orderBytes) (inState lead .armed) ∧ (inState lead .armed).isFollow = false)
      ∧ (Takes (fromCell []) (inState lead .done) ∧ acceptableOrder settings (fromCell []).payload = none)
      ∧ (Takes (fromCell orderBytes) (inState lead .idle) ∧ (fromCell orderBytes).sender = 0
          ∧ (fromCell orderBytes).dest.toNat = (inState lead .idle).start.number
          ∧ (inState lead .idle).isFollow = false ∧ (inState lead .idle).start.intervalEnded = true
          ∧ (inState lead .idle).stop.latch = false ∧ (inState lead .idle).stop.record = none
          ∧ (inState lead .idle).start.config = some settings ∧ (inState lead .idle).link.notices.length < 8
          ∧ acceptableOrder settings (fromCell orderBytes).payload = some (order1 none)) := by decide +kernel

theorem test_witness_OrderContentIsChecked :
    (OrderFits (order1 none) ∧ OrderGood 100 true (order1 none))
      ∧ (OrderFits { order1 none with decimation := 3 } ∧ ¬OrderGood 100 true { order1 none with decimation := 3 })
      ∧ orderLayout (order1 none) = orderBytes ∧ 30 < (orderLayout (order1 none)).length
      ∧ acceptableOrder settings orderBytes = some (order1 none) := by
  refine ⟨⟨?_, ?_⟩, ⟨?_, ?_⟩, by decide, by decide, test_order_bytes⟩ <;>
    simp [OrderFits, OrderGood, Signed32, order1, phase1]

theorem test_witness_AbortEndsTest :
    let toAll : RxFrame := { fromCell [] with dest := 15 }
    Takes toAll (inState lead .armed) ∧ toAll.sender = 0 ∧ toAll.payload = [] ∧ 2 ≤ SeqState.armed.code
      ∧ SeqState.held.code ≤ 7 ∧ 10 ≤ SeqState.done.code ∧ (inState lead .returning).isFollow = false
      ∧ (Takes toAll follow ∧ follow.isFollow = true) := by decide

/-- The drive port is TRIPPED, and the amplifier fault line active. -/
def trippedPort (s : State) : State := s.setTravel { s.travel with tripped := true }
def ampLine : Lines := { Lines.reset with ampFault := true }

theorem test_witness_ClearReleasesStop :
    Takes (fromCell []) stoppedLead ∧ (fromCell []).dest.toNat = stoppedLead.start.number
      ∧ stoppedLead.travel.tripped = false ∧ lines0.stopLow = false ∧ lowLine.stopLow = true
      ∧ stoppedLead.stop.latch = true
      ∧ (Takes (fromCell []) (trippedPort stoppedLead) ∧ (trippedPort stoppedLead).travel.tripped = true
          ∧ ampLine.ampFault = true ∧ lines0.ampFault = false
          ∧ (trippedPort stoppedLead).link.notices.length < 8) := by decide

theorem test_witness_RestartReturnsToIdle :
    Takes (fromCell []) stoppedLead ∧ Commands (fromCell []) stoppedLead ∧ stoppedLead.start.config ≠ none
      ∧ stoppedLead.link.grantInFlight = none ∧ Takes (fromCell []) follow
      ∧ (Takes (fromCell []) (trippedPort stoppedLead) ∧ (trippedPort stoppedLead).start.config ≠ none
          ∧ ampLine.ampFault = true)
      ∧ (Takes (fromCell []) (fresh .lead) ∧ (fresh .lead).start.config = none)
      ∧ (Takes (fromCell [0]) lead ∧ ¬Commands (fromCell [0]) lead) := by decide

theorem test_witness_ReclaimTakesUnits :
    Takes (fromCell [9]) (inState lead .claiming) ∧ (inState lead .claiming).moveKind ≠ .none
      ∧ lead.moveKind = .none ∧ (9 : Byte).toNat = lead.start.number ∧ (14 : Byte).toNat ≤ 14
      ∧ 14 < (15 : Byte).toNat := by decide

/-! ## A few steps -/

theorem test_gate_close_of_minus_fifteen :
    gateClose (lead.setTravel { lead.travel with gateDue := some (-15), gateOpen := true })
      = lead.setTravel { lead.travel with measure := .period, velocity := -1875 } := by decide +kernel

theorem test_count_wraps_at_the_top :
    (encoderCount true 0 (lead.setTravel { lead.travel with counter := 0x7FFFFFFF })).travel.counter = 0x80000000 := by
  decide

theorem test_held_sample_takes_low_grips :
    (loadConversionEnd 0 (gripsWait true)).seq.state = .armed
      ∧ (loadConversionEnd 0 (gripsWait false)).seq.state = .taring := by decide +kernel

theorem test_failed_tare_counts_in_either_order :
    let s := judging (oneTare 4 201) none .parked
    let seen := fun t : State => (t.stop.record.map (·.cause), t.stop.further, t.seq.state)
    seen (reportAll (tareFails s) [.tareUnstable, .overload] s) = (some .tareUnstable, 1, .stopped)
      ∧ seen (reportAll (tareFails s) [.overload, .tareUnstable] s) = (some .overload, 1, .stopped) := by
  decide +kernel

theorem test_good_tare_counts_only_before_overload :
    let s := judging (oneTare 1 160) none .parked
    let seen := fun t : State => (t.load.tareOffset, t.stop.further, t.seq.state)
    seen (reportAll (tareFails s) [.tareUnstable, .overload] s) = (10, 0, .stopped)
      ∧ seen (reportAll (tareFails s) [.overload, .tareUnstable] s) = (0, 0, .stopped) := by decide +kernel

theorem test_sixteenth_reading_beside_overload_switches_over :
    let t := strainConversionEnd 17 (settling solo 1100000)
    let s := strainConversionEnd 17 (settling solo 0)
    (t.ext.state, t.ext.zero, t.ext.pair, t.seq.state) = (.opening, some 17, some (0, 0), .stopped)
      ∧ t.stop.record.map (fun r => (r.cause, r.state)) = some (.overload, .claiming)
      ∧ (s.ext.state, s.ext.strainCount, s.seq.state) = (.settling, 16, .attaching) := by decide +kernel

theorem test_adoption_before_config_places_no_grant :
    (adopt (List.replicate 15 5) 3 (fresh .lead)).link.grant = none
      ∧ (adopt (List.replicate 15 5) 3 lead).link.grant = some { units := 0, reason := .release, raise := false } := by
  decide +kernel

/-- A lowering to 3 units is pending when a phase of the own entry's very share begins. -/
theorem test_equal_share_withdraws_pending_lowering :
    let s := runningIn [quickPhase, longPhase 5] none 5
    let t := nextPhase (sample 1) ((s.setLink
      { s.link with grant := some { units := 3, reason := .phase, raise := false } }).setBudget
      { s.budget with requested := 3 })
    (t.seq.phase, t.budget.requested, t.link.grant) = (2, 5, none) := by decide

/-- A STATUS from node 3, in step at epoch 5 with a capacity of 100 and 15 entries of 0. -/
def statusOfThree : RxFrame := fromThree ([2, 1, 0, 8, 0, 0, 5, 100] ++ List.replicate 47 0)

/-- The header takes the station out of step, the payload gives its very table and epoch back. -/
theorem test_status_out_of_step_and_back_replaces_pending_status :
    let s := (lead.setBudget { lead.budget with inStep := true, epoch := 5 }).setLink
      { lead.link with status := some { buildStatus lead with epoch := 99 } }
    let f := { statusOfThree with epoch := 6 }
    let t := finish s (receive f (statusAct f) s)
    (budgetChanged s t, t.link.status) = (false, some (buildStatus t)) := by decide +kernel

theorem test_follow_rests_at_zero :
    let s := (followIn .held).setTravel { follow.travel with regValue := 70 }
    (followLead (mirrorOf .lead .idle) s).travel.regValue = 0 := by decide +kernel

theorem test_claim_in_forbidden_zone_faults_before_it_starts :
    let t := loadConversionEnd 0 (acquiring (barred (inState solo .claiming)))
    (t.seq.state, t.seq.phase, t.recorder.runBegun) = (.faulted, 0, false)
      ∧ t.stop.record.map (fun r => (r.cause, r.state)) = some (.zoneForbidden, .claiming) := by decide +kernel

theorem test_tare_that_leads_to_forbidden_claim_faults_on_its_sample :
    let t := loadConversionEnd 10000 (acquiring (barred (judging { attempt := 1, loads := List.replicate 15 1000 }
      none .parked)))
    (t.seq.state, t.load.tareOffset) = (.faulted, 1000)
      ∧ t.stop.record.map (fun r => (r.cause, r.state)) = some (.zoneForbidden, .claiming) := by decide +kernel

theorem test_idle_line_quiets_a_station_in_strap_fault :
    (lineIdle (strapBad.setLink { strapBad.link with line := .receiving, taking := true })).link.line = .quiet := by
  decide

theorem test_level_of_a_resting_lead_demands_zero :
    (buildLevel (lead.setTravel { lead.travel with applied := 70 })).demand = 0 := by decide

theorem test_empty_queue_passes_a_bit_time :
    step lead = .next (passBitTime lead) ∧ (passBitTime lead).clock.sampleTimer = 1 := ⟨rfl, rfl⟩

end Sys2Proof.Tests
end

section
namespace Sys2Proof.Proofs
open Sys2Proof.Machine Sys2Proof.Safety Sys2Proof.Laws

/-! ## Reset values, end conditions and hold causes -/

/-- Settles O8: each value is read off the reset state. -/
theorem resetLeavesSpecValues : Obligations.ResetLeavesSpecValues := by
  unfold Obligations.ResetLeavesSpecValues
  and_intros <;> rfl

theorem reaches_iff (ref goal q : Int) :
    reaches ref goal q = true ↔ q = goal ∨ ref = goal ∨ (ref < goal ∧ goal < q) ∨ (goal < ref ∧ q < goal) := by
  simp [reaches, or_assoc]

theorem phaseEnds_of_some {s : State} {p : Phase} (r : SampleRec) (ended : Bool) (h : s.curPhase = some p) :
    phaseEnds s r ended = endMet s p r ended := by
  simp [phaseEnds, h]

theorem phaseEnds_of_none {s : State} (r : SampleRec) (ended : Bool) (h : s.curPhase = none) :
    phaseEnds s r ended = false := by
  simp [phaseEnds, h]

theorem lost_iff (p : Pair) : p.lost = true ↔ p.mirror = none ∨ 12 < p.age := by
  simp only [Pair.lost, Bool.or_eq_true, Option.isNone_iff_eq_none, decide_eq_true_eq]
  rfl

theorem holdCauses_budget (s : State) : (holdCauses s).budget = true ↔
    s.ownEntry < s.moveShare ∨ (s.start.role = .lead ∧ s.partnerEntry < s.moveShare) := by
  by_cases h1 : s.moveShare ≤ s.ownEntry <;> by_cases h2 : s.start.role = .lead <;>
    simp [holdCauses, State.holdsShare, h1, h2] <;> omega

theorem holdCauses_partner (s : State) : (holdCauses s).partner = true ↔
    s.start.role = .lead ∧ (s.pair.mirror = none ∨ 12 < s.pair.age
      ∨ (s.seq.state = .running ∧ 12 < s.seq.runSamples
          ∧ ∃ m, s.pair.mirror = some m ∧ (m.state = .held ∨ m.state = .followClaim))) := by
  have hd : decide (partnerAllowance < s.seq.runSamples) = true ↔ 12 < s.seq.runSamples := decide_eq_true_iff
  simp only [holdCauses, Bool.and_eq_true, Bool.or_eq_true, lost_iff, beq_iff_eq, hd, or_assoc, and_assoc]
  cases h : s.pair.mirror <;> simp

theorem holdCauses_extNotReady (s : State) : (holdCauses s).extNotReady = true ↔
    s.ext.state ≠ .measuring ∧ s.fallback = false ∧ ∃ p, s.curPhase = some p ∧ p.source = .extRequired := by
  have h : (holdCauses s).extNotReady = ((match s.curPhase with | none => false | some p => p.source == .extRequired)
      && s.ext.state != .measuring && !s.fallback) := rfl
  rw [h]
  cases s.curPhase <;> simp [and_assoc, and_comm, and_left_comm]

/-- Settles O30, by an equivalence for every end condition and every hold cause. -/
theorem endConditionsAndHoldCauses : Obligations.EndConditionsAndHoldCauses := by
  unfold Obligations.EndConditionsAndHoldCauses
  refine ⟨fun r ended p s => ⟨phaseEnds_of_some r ended, phaseEnds_of_none r ended, ?_, ?_, ?_, ?_, ?_, ?_⟩,
    fun s => ⟨holdCauses_budget s, holdCauses_partner s, holdCauses_extNotReady s, ?_⟩⟩
  · intro h; simp only [endMet, h, reaches_iff, endQuantity]
  · intro h; simp only [endMet, h, Bool.and_eq_true, reaches_iff, Bool.not_eq_true']
  · intro h; simp only [endMet, h, reaches_iff, endQuantity]
  · intro h; simp only [endMet, h, decide_eq_true_eq]
  · intro h; simp only [endMet, h, Bool.or_eq_true]
  · intro h; simp only [endMet, h]
  · simp only [HoldCauses.any, Bool.or_eq_true, or_assoc]
end Sys2Proof.Proofs
end

section
namespace Sys2Proof.Proofs
open Sys2Proof.Machine Sys2Proof.Safety Sys2Proof.Laws

/-! ## The regulator -/

theorem pushWindow_of_short {α : Type} {w : List α} (x : α) (h : w.length < 8) : pushWindow w x = w ++ [x] := by
  have h8 : ¬windowLength ≤ w.length := by simpa [windowLength] using h
  simp [pushWindow, h8]

theorem pushWindow_of_full {α : Type} {w : List α} (x : α) (h : w.length = 8) : pushWindow w x = w.tail ++ [x] := by
  simp [pushWindow, windowLength, h]

theorem measuredRate_of_short {w : List (Int × Word32)} (period : Nat) (h : w.length < 8) :
    measuredRate w period = 0 := by
  simp [measuredRate, windowLength, h]

theorem measuredRate_of_full (oldest newest : Int × Word32) (middle : List (Int × Word32)) (period : Nat)
    (h : (oldest :: middle ++ [newest]).length = 8) :
    measuredRate (oldest :: middle ++ [newest]) period
      = ((newest.1 - oldest.1) * 10000).tdiv (((newest.2 - oldest.2).toNat * period : Nat) : Int) := by
  have hl : (oldest :: middle ++ [newest]).getLast? = some newest := List.getLast?_append_of_ne_nil _ (by simp)
  simp only [measuredRate, windowLength, h, lt_irrefl, if_false, hl]
  simp

theorem nearGoal_iff (goal pos : Int) : nearGoal goal pos = true ↔ (goal - pos).natAbs ≤ 10 := by
  rw [nearGoal, decide_eq_true_eq]
  rfl

theorem positioning_of_near {goal pos : Int} (limit : Nat) (h : (goal - pos).natAbs ≤ 10) :
    positioning goal pos limit = 0 := by
  simp [positioning, (nearGoal_iff goal pos).2 h]

/-- The positioning law clamps to the mode limit, as the limit stage does again. -/
theorem positioning_of_far {goal pos : Int} (limit : Nat) (h : ¬(goal - pos).natAbs ≤ 10) :
    positioning goal pos limit = clampMag limit (10 * (goal - pos)) := by
  simp [positioning, nearGoal_iff, h]

theorem clampMag_clampMag (m : Nat) (x : Int) : clampMag m (clampMag m x) = clampMag m x := by
  unfold clampMag
  omega

theorem clampMag_zero (m : Int) (h : 0 ≤ m) : clampMag m 0 = 0 := by
  unfold clampMag
  omega

theorem limitStage_zero (q : Request) (zone : Option Zone) : limitStage q zone 0 = 0 := by
  have hp : clampMag portLimit 0 = 0 := clampMag_zero _ (by decide)
  unfold limitStage
  cases q.limit <;> cases zone <;> simp [clampMag_zero, hp]

theorem limitStage_clampMag {q : Request} {limit : Nat} (h : q.limit = some limit) (zone : Option Zone) (x : Int) :
    limitStage q zone (clampMag limit x) = limitStage q zone x := by
  simp only [limitStage, h, clampMag_clampMag]

/-- R41, R44: under the limit stage of its own mode the positioning law is 10 per second of the distance, or zero near
the goal. -/
theorem limitStage_positioning {q : Request} {limit : Nat} (h : q.limit = some limit) (zone : Option Zone)
    (goal pos : Int) :
    limitStage q zone (positioning goal pos limit)
      = limitStage q zone (if (goal - pos).natAbs ≤ 10 then 0 else 10 * (goal - pos)) := by
  split
  · rename_i hn
    rw [positioning_of_near limit hn]
  · rename_i hn
    rw [positioning_of_far limit hn, limitStage_clampMag h]

theorem regulateSample_forced {s : State} (q : Request) (r : SampleRec) (h : forced s = true) :
    (regulateSample q r s).travel = { s.travel with regMode := q.mode, window := [], applied := 0 } := by
  simp [regulateSample, h]

theorem regulateSample_zero {s : State} (r : SampleRec) (h : forced s = false) :
    (regulateSample .zero r s).travel = { s.travel with regMode := .zero, applied := 0 } := by
  simp [regulateSample, h]

/-- R38 to R44: a request that moves, on a sample that is not forced. -/
theorem regulateSample_moves {s : State} {q : Request} (r : SampleRec) (h : forced s = false) (hq : q ≠ .zero) :
    (regulateSample q r s).travel.window = windowAfter s.travel.window q r
      ∧ (regulateSample q r s).travel.regValue = limitStage q (zoneInForce s.zones r.position)
          (regulate s.travel q (windowAfter s.travel.window q r) s.period r)
      ∧ (regulateSample q r s).travel.applied = (regulateSample q r s).travel.regValue := by
  simp [regulateSample, h, hq]

theorem regulateSample_applied {s : State} {q : Request} (r : SampleRec) (h : forced s = false) (hq : q ≠ .zero) :
    (regulateSample q r s).travel.applied = limitStage q (zoneInForce s.zones r.position)
      (regulate s.travel q (windowAfter s.travel.window q r) s.period r) := by
  obtain ⟨-, hv, ha⟩ := regulateSample_moves r h hq
  rw [ha, hv]

theorem demandRequest_follow {s : State} (h : s.isFollow = true) :
    demandRequest s = if s.follow.state = .following then .direct s.directValue else .zero := by
  simp [demandRequest, h]

theorem demandRequest_running {s : State} {p : Phase} (h : s.isFollow = false) (hr : s.seq.state = .running)
    (hp : s.curPhase = some p) : demandRequest s = p.request := by
  simp [demandRequest, h, hr, hp]

theorem demandRequest_returning {s : State} {o : Order} {p : ReturnPlan} (h : s.isFollow = false)
    (hr : s.seq.state = .returning) (ho : s.seq.order = some o) (hp : o.returnPlan = some p) :
    demandRequest s = if s.holdsShare p.share then .ret p.position p.rate else .zero := by
  simp [demandRequest, h, hr, ho, hp]

theorem demandRequest_resting {s : State} (h : s.isFollow = false) (h1 : s.seq.state ≠ .running)
    (h2 : s.seq.state ≠ .returning) : demandRequest s = .zero := by
  unfold demandRequest
  simp only [h, Bool.false_eq_true, if_false]

theorem demandRequest_of_test {s : State} (h : s.isFollow = false) :
    (∀ p, s.seq.state = .running → s.curPhase = some p →
        (p.mode = .xhRate → demandRequest s = .xhRate p.target p.rateLimit)
          ∧ (p.mode = .loadRate → demandRequest s = .loadRate p.target p.step p.rateLimit)
          ∧ (p.mode = .strainRate → demandRequest s = .strainRate p.target p.step p.rateLimit)
          ∧ (p.mode = .hold → demandRequest s = .hold p.rateLimit))
      ∧ (∀ o p, s.seq.state = .returning → s.seq.order = some o → o.returnPlan = some p →
          demandRequest s = if s.holdsShare p.share then .ret p.position p.rate else .zero)
      ∧ (s.seq.state ≠ .running → s.seq.state ≠ .returning → demandRequest s = .zero) := by
  refine ⟨fun p hr hp => ?_, fun o p => demandRequest_returning h, demandRequest_resting h⟩
  rw [demandRequest_running h hr hp]
  refine ⟨?_, ?_, ?_, ?_⟩ <;> intro hm <;> simp [Phase.request, hm]

/-- Settles O21, by the three branches of `regulateSample` and the law of each mode under the limit stage. -/
theorem regulatorActsByMode : Obligations.RegulatorActsByMode := by
  unfold Obligations.RegulatorActsByMode
  refine ⟨fun w x period => ⟨fun h => ⟨pushWindow_of_short x h, measuredRate_of_short period h⟩, ?_, ?_⟩,
    fun s h => demandRequest_of_test h, fun s h => ⟨?_, ?_⟩, fun r s => ⟨fun q h => regulateSample_forced q r h, ?_⟩⟩
  · rintro oldest rest rfl h
    exact pushWindow_of_full x h
  · rintro oldest middle newest rfl h
    exact measuredRate_of_full oldest newest middle period h
  · intro m hf hm
    simp [demandRequest_follow h, hf, State.directValue, hm]
  · intro hf
    simp [demandRequest_follow h, hf]
  · intro h
    refine ⟨regulateSample_zero r h, fun q hq => (regulateSample_moves r h hq).2.2,
      fun target l => (regulateSample_moves r h (by simp)).2.1, ?_, ?_, ?_, ?_, ?_, ?_, ?_, ?_⟩
    · intro target step l hh
      simpa [windowAfter, hh] using (regulateSample_moves (q := .loadRate target step l) r h (by simp)).1
    · intro target step l hh
      simpa [regulate, hh] using (regulateSample_moves (q := .loadRate target step l) r h (by simp)).2.1
    · intro target step l hh
      obtain ⟨hw, hv, -⟩ := regulateSample_moves (q := .loadRate target step l) r h (by simp)
      simp [hw, hv, windowAfter, regulate, hh, stepToward]
    · intro target step l
      obtain ⟨hw, hv, -⟩ := regulateSample_moves (q := .strainRate target step l) r h (by simp)
      exact ⟨hw, hv⟩
    · intro l
      rw [regulateSample_applied r h (by simp)]
      exact limitStage_positioning rfl _ _ _
    · intro goal l hn
      rw [regulateSample_applied r h (by simp), regulate, positioning_of_near l hn, limitStage_zero]
    · intro goal l hn
      rw [regulateSample_applied r h (by simp), regulate, limitStage_positioning rfl, if_neg (by omega)]
    · intro v
      rw [regulateSample_applied r h (by simp), regulate]
end Sys2Proof.Proofs
end

section
namespace Sys2Proof.Proofs
open Sys2Proof.Machine Sys2Proof.Safety Sys2Proof.Laws

/-! ## Notices -/

/-- R123: a notice joins a queue with room. -/
theorem pushNotice_notices {s : State} (k : NoticeKind) (h : s.link.notices.length < 8) :
    (pushNotice k s).link.notices = s.link.notices ++ [{ kind := k, index := s.lastIndex }] := by
  have h8 : s.link.notices.length < noticeCapacity := h
  simp [pushNotice, h8]

/-- R123: what `t` has of notices beyond those of `s` came behind them. -/
def NoticesFollow (s t : State) : Prop := s.link.notices <+: t.link.notices

theorem noticesFollow_pushNotice (k : NoticeKind) (s : State) : NoticesFollow s (pushNotice k s) := by
  unfold NoticesFollow pushNotice
  split <;> simp

theorem noticesFollow_switchover (c : SwitchCause) (s : State) : NoticesFollow s (switchover c s) := by
  unfold switchover switchNotice
  split
  · simp [NoticesFollow]
  · split
    · simp [NoticesFollow]
    · simpa [NoticesFollow] using noticesFollow_pushNotice _ ((s.setExt _).setTestRec _)

theorem noticesFollow_removeArm (s : State) : NoticesFollow s (removeArm s) := by
  unfold removeArm
  split
  · exact noticesFollow_switchover .removal s
  · exact List.prefix_refl _

/-! ## Hold causes -/

/-- R69: what holding a share is read from. -/
theorem holdsShare_congr {s t : State} (hstart : t.start = s.start) (hbudget : t.budget.table = s.budget.table)
    (n : Nat) : t.holdsShare n = s.holdsShare n := by
  have hentry : ∀ k, t.budget.entry k = s.budget.entry k := fun k => by simp only [Budget.entry, hbudget]
  unfold State.holdsShare State.ownEntry State.partnerEntry
  rw [hstart, hentry, hentry]

/-- Table 1-3, R65: what the share in force is read from. -/
theorem moveShare_congr {s t : State} (hstart : t.start = s.start) (hfollow : t.follow = s.follow)
    (horder : t.seq.order = s.seq.order) (hphase : t.seq.phase = s.seq.phase) (hstate : t.seq.state = s.seq.state) :
    t.moveShare = s.moveShare := by
  unfold State.moveShare State.isFollow State.shareOf State.phaseShare State.curPhase State.returnShare
  rw [hstart, hfollow, horder, hphase, hstate]

/-- R15: what the hold causes are read from. -/
theorem holdCauses_congr {s t : State} (hstart : t.start = s.start) (hbudget : t.budget.table = s.budget.table)
    (hfollow : t.follow = s.follow) (hpair : t.pair = s.pair) (horder : t.seq.order = s.seq.order)
    (hphase : t.seq.phase = s.seq.phase) (hstate : t.seq.state = s.seq.state)
    (hrun : t.seq.runSamples = s.seq.runSamples)
    (hext : t.ext.state = s.ext.state ∨ ∀ p, s.curPhase = some p → p.source ≠ .extRequired) :
    holdCauses t = holdCauses s := by
  have hcur : t.curPhase = s.curPhase := by simp [State.curPhase, horder, hphase]
  have hshare := moveShare_congr hstart hfollow horder hphase hstate
  have hholds := holdsShare_congr hstart hbudget
  have hready : (holdCauses t).extNotReady = (holdCauses s).extNotReady := by
    unfold holdCauses
    rcases hext with he | hne
    · simp only [hcur, he, horder]
    · simp only [hcur]
      cases hp : s.curPhase with
      | none => rfl
      | some p => simp [beq_eq_false_iff_ne.2 (hne p hp)]
  have hrest : (holdCauses t).budget = (holdCauses s).budget ∧ (holdCauses t).partner = (holdCauses s).partner := by
    simp only [holdCauses, hholds, hshare, hstart, hpair, hstate, hrun, and_self]
  cases h1 : holdCauses t; cases h2 : holdCauses s
  simp_all

theorem holdOrAdvance_holds {s : State} (h : (holdCauses s).any = true) :
    holdOrAdvance s = enterHeld (holdCauses s) s := by
  simp [holdOrAdvance, h]

theorem holdOrAdvance_advances {s : State} (h : (holdCauses s).any = false) : holdOrAdvance s = advancePhase s := by
  simp [holdOrAdvance, h]

/-- R16: what the entry to HELD writes. -/
@[simp] theorem enterHeld_sets (c : HoldCauses) (s : State) :
    (enterHeld c s).seq.state = .held ∧ (enterHeld c s).seq.stateSamples = 0
      ∧ (enterHeld c s).seq.holdCount = s.seq.holdCount + 1 := by
  simp [enterHeld]

theorem enterHeld_testRec (c : HoldCauses) (s : State) :
    (enterHeld c s).testRec = s.testRec.map fun w => { w with holdCount := s.seq.holdCount + 1 } := by
  simp [enterHeld, writeRecord]

theorem enterHeld_notices {c : HoldCauses} {s : State} (h : s.link.notices.length < 8) :
    (enterHeld c s).link.notices = s.link.notices ++ [{ kind := .holdBegun c, index := s.lastIndex }] := by
  unfold enterHeld
  rw [pushNotice_notices]
  · simp [writeRecord, State.lastIndex]
  · simpa [writeRecord]

theorem noticesFollow_enterHeld (c : HoldCauses) (s : State) : NoticesFollow s (enterHeld c s) := by
  unfold enterHeld
  simpa [NoticesFollow, writeRecord] using
    noticesFollow_pushNotice (.holdBegun c) (writeRecord _ ((gotoState .held s).setSeq _))

theorem noticesFollow_holdOrAdvance (s : State) : NoticesFollow s (holdOrAdvance s) := by
  unfold holdOrAdvance
  split
  · exact noticesFollow_enterHeld _ s
  · simp [advancePhase, NoticesFollow]

@[simp] theorem advancePhase_sets (s : State) :
    (advancePhase s).seq = { s.seq with phaseTime := s.seq.phaseTime + s.period } := by
  simp [advancePhase]

/-- R12: what holds and phase time leave of the sequencer. -/
@[simp] theorem holdOrAdvance_fields (s : State) :
    (holdOrAdvance s).seq.order = s.seq.order ∧ (holdOrAdvance s).seq.phase = s.seq.phase
      ∧ (holdOrAdvance s).seq.phaseBegun = s.seq.phaseBegun ∧ (holdOrAdvance s).seq.refValue = s.seq.refValue
      ∧ (holdOrAdvance s).seq.testZero = s.seq.testZero ∧ (holdOrAdvance s).seq.runSamples = s.seq.runSamples
      ∧ (holdOrAdvance s).seq.returnCancelled = s.seq.returnCancelled := by
  unfold holdOrAdvance
  split <;> simp

/-! ## The sample on which a phase begins -/

/-- R11, R39, R41, R42, R104: phase time, reference value, notice, regulator and removal of the phase that begins. -/
def phaseStarted (r : SampleRec) (p : Phase) (s : State) : State :=
  let s1 := beginRegulator p r (pushNotice (.phaseBegun s.seq.phase)
    (s.setSeq { s.seq with phaseTime := 0, refValue := endQuantity s p.endKind r, phaseBegun := true }))
  if p.source = .xh then removeArm s1 else s1

theorem beginPhase_of_phase {s : State} {p : Phase} (r : SampleRec) (h : s.curPhase = some p) :
    beginPhase r s = holdOrAdvance (phaseStarted r p s) := by
  unfold beginPhase
  simp only [h, phaseStarted]

@[simp] theorem phaseStarted_keeps (r : SampleRec) (p : Phase) (s : State) :
    (phaseStarted r p s).start = s.start ∧ (phaseStarted r p s).budget = s.budget
      ∧ (phaseStarted r p s).follow = s.follow ∧ (phaseStarted r p s).pair = s.pair
      ∧ (phaseStarted r p s).load = s.load
      ∧ (phaseStarted r p s).seq
          = { s.seq with phaseTime := 0, refValue := endQuantity s p.endKind r, phaseBegun := true } := by
  dsimp only [phaseStarted]
  split <;> simp

theorem removeArm_state (s : State) :
    (removeArm s).ext.state = if s.ext.state = .measuring then .opening else s.ext.state := by
  unfold removeArm
  by_cases h : s.ext.state = .measuring <;> simp [h, switchover_state]

theorem removeArm_stays {s : State} (h : s.ext.state ≠ .measuring) : removeArm s = s := by
  simp [removeArm, h]

theorem phaseStarted_removes {r : SampleRec} {p : Phase} {s : State} (hp : p.source = .xh)
    (hm : s.ext.state = .measuring) : (phaseStarted r p s).ext.state = .opening := by
  simp [phaseStarted, hp, removeArm_state, hm]

theorem phaseStarted_keepsArm {r : SampleRec} {p : Phase} {s : State}
    (h : p.source ≠ .xh ∨ s.ext.state ≠ .measuring) : (phaseStarted r p s).ext = s.ext := by
  dsimp only [phaseStarted]
  split
  · rename_i hp
    rw [removeArm_stays (by simpa [hp] using h)]
    simp
  · simp

/-- R39: what the keeping of the window is read from. -/
theorem windowKept_congr {s t : State} (horder : t.seq.order = s.seq.order) (hphase : t.seq.phase = s.seq.phase)
    (p : Phase) : t.windowKept p = s.windowKept p := by
  simp only [State.windowKept, horder, hphase]

/-- R42, R39, R41: the regulator of the phase that begins. -/
theorem phaseStarted_travel (r : SampleRec) (p : Phase) (s : State) :
    (phaseStarted r p s).travel = { s.travel with
      regValue := if s.seq.phase = 1 then 0 else s.travel.regValue
      window := if s.windowKept p then s.travel.window else []
      holdPosition := if p.mode = .hold then r.position else s.travel.holdPosition } := by
  have hk : ∀ q, (pushNotice (.phaseBegun s.seq.phase) (s.setSeq { s.seq with
      phaseTime := 0, refValue := q, phaseBegun := true })).windowKept p = s.windowKept p :=
    fun q => windowKept_congr (by simp) (by simp) p
  dsimp only [phaseStarted]
  split <;> simp [beginRegulator, hk]

theorem windowKept_iff (s : State) (p : Phase) : s.windowKept p = true ↔
    ∃ o q, s.seq.order = some o ∧ o.phaseAt (s.seq.phase - 1) = some q ∧ q.mode = p.mode := by
  unfold State.windowKept
  cases s.seq.order with
  | none => simp
  | some o =>
    cases h : o.phaseAt (s.seq.phase - 1) with
    | none => simp [h]
    | some q => simp [h]

/-- The removal of a phase that does not ask for the extensometer gives no hold cause. -/
theorem holdCauses_phaseStarted {s : State} {p : Phase} (r : SampleRec) (h : s.curPhase = some p) :
    holdCauses (phaseStarted r p s) = holdCauses s := by
  refine holdCauses_congr (by simp) (by simp) (by simp) (by simp) (by simp) (by simp) (by simp) (by simp) ?_
  by_cases hp : p.source = .xh
  · right
    intro q hq
    obtain rfl : p = q := by simpa [h] using hq
    simp [hp]
  · left
    rw [phaseStarted_keepsArm (.inl hp)]

theorem beginPhase_notices {s : State} {p : Phase} (r : SampleRec) (h : s.curPhase = some p)
    (hq : s.link.notices.length < 8) :
    ∃ more, (beginPhase r s).link.notices
      = s.link.notices ++ { kind := .phaseBegun s.seq.phase, index := s.lastIndex } :: more := by
  have hstart : s.link.notices ++ [{ kind := .phaseBegun s.seq.phase, index := s.lastIndex }]
      <+: (phaseStarted r p s).link.notices := by
    have hpush := pushNotice_notices (s := s.setSeq { s.seq with
      phaseTime := 0, refValue := endQuantity s p.endKind r, phaseBegun := true }) (.phaseBegun s.seq.phase) hq
    dsimp only [phaseStarted]
    split
    · refine List.IsPrefix.trans ?_ (noticesFollow_removeArm _)
      simp [beginRegulator, hpush, State.lastIndex]
    · simp [beginRegulator, hpush, State.lastIndex]
  rw [beginPhase_of_phase r h]
  obtain ⟨more, hm⟩ := hstart.trans (noticesFollow_holdOrAdvance (phaseStarted r p s))
  exact ⟨more, by simp [← hm]⟩

/-- Settles O31: the begin is `phaseStarted` and then `holdOrAdvance`, and the hold causes are those of before. -/
theorem phaseBeginsOnItsSample : Obligations.PhaseBeginsOnItsSample := by
  unfold Obligations.PhaseBeginsOnItsSample
  intro r p s h
  have hcauses := holdCauses_phaseStarted r h
  have htravel := phaseStarted_travel r p s
  refine ⟨?_, ?_, ?_, ?_, ?_, ?_, ?_, ?_, ?_, ?_, ?_, ?_, ?_, beginPhase_notices r h⟩ <;>
    rw [beginPhase_of_phase r h]
  · simp
  · simp
  · intro hk; simp [hk, endQuantity]
  · intro hk; simp [hk, endQuantity]
  · intro hk; simp [hk, endQuantity]
  · intro hn
    rw [holdOrAdvance_advances (by rwa [hcauses])]
    simp [State.period]
  · intro hn
    rw [holdOrAdvance_holds (by rwa [hcauses])]
    simp
  · simp [htravel]
  · intro hk
    simp [htravel, (windowKept_iff s p).2 hk]
  · intro hk
    have hw : s.windowKept p = false := Bool.eq_false_iff.2 (mt (windowKept_iff s p).1 hk)
    simp [htravel, hw]
  · intro hm
    simp [htravel, hm]
  · intro hp hm
    simp [phaseStarted_removes hp hm]
  · intro hp
    simp [phaseStarted_keepsArm hp]
end Sys2Proof.Proofs
end

section
namespace Sys2Proof.Proofs
open Sys2Proof.Machine Sys2Proof.Safety Sys2Proof.Laws

/-! ## Test stations, reports and outcomes -/

theorem next_iff (t : State) (p : State → Prop) : Next (.next t) p ↔ p t := by
  simp [Next]

theorem isFollow_of_testStation {s : State} (h : TestStation s) : s.isFollow = false := by
  simp [State.isFollow, h.2]

/-- R24, R153: a local fault in a test state halts the test sequencer after the record has taken it. -/
theorem report_local {s : State} {c : FaultCause} (hs : TestStation s) (ht : s.seq.state.isTest = true)
    (hc : c.isCellStop = false) :
    report c s = haltSequencer .faulted .faulted (pushNotice (faultNotice c s) (recordFault c s)) := by
  obtain ⟨h1, h2, h3, h4, -⟩ := isTest_halts _ ht
  have hf : (pushNotice (faultNotice c s) (recordFault c s)).isFollow = false := by
    simpa [State.isFollow] using hs.2
  unfold report
  simp only [hs.1, hc, faultOwn, hf, Bool.false_eq_true, if_false]
  exact faultSequencer_halts _ (by simp [h1, h2, h3, h4])

theorem recorded_report (c : FaultCause) {s : State} (h : s.start.strapFault = false) : Recorded c s (report c s) := by
  obtain ⟨hr, hf⟩ := report_record c s h
  refine ⟨fun hn => ⟨by simp [hf, hn], s.lockedPart c, by simp [hr, hn], ?_⟩, fun r hl => ⟨by simp [hr, hl], ?_⟩⟩
  · exact ⟨rfl, rfl, rfl, rfl, rfl, rfl⟩
  · simp [hf, hl, succ255]

/-- R24, R153: a command that reports a local fault in a test state ends the test as FAULTED. -/
theorem endsFaulted_report {s : State} {c : FaultCause} (old : State) (hs : TestStation s)
    (ht : s.seq.state.isTest = true) (hc : c.isCellStop = false) : EndsFaulted c s (finish old (report c s)) := by
  have hhalt := report_local hs ht hc
  have hout : Outcome .faulted (report c s) := by
    rw [hhalt]
    exact haltSequencer_outcome _ _ _ (by simpa using ht)
  refine ⟨by simp [hhalt], by simpa [Recorded] using recorded_report c hs.1, by simpa [Outcome] using hout, ?_,
    by simp [hhalt]⟩
  rw [applied_finish, if_pos (report_forced c s hs.1)]

/-- R106: a switchover with a measured pair writes the switch part. -/
theorem switchover_testRec_of_pair {s : State} {e x : Int} (c : SwitchCause) (h : s.ext.pair = some (e, x)) :
    (switchover c s).testRec = s.testRec.map fun t => { t with switchPart := some (c, e, x) } := by
  simp [switchover, h]

theorem switchover_testRec_of_none {s : State} (c : SwitchCause) (h : s.ext.pair = none) :
    (switchover c s).testRec = s.testRec := by
  simp [switchover, h]

/-- R108: an open command to a measuring arm is a switchover. -/
theorem openArm_measuring {s : State} (c : SwitchCause) (h : s.ext.state = .measuring) :
    openArm c s = switchover c (s.setExt { s.ext with attachWaits := false }) := by
  unfold openArm
  rw [h]

/-- R106: an open command writes at most the switchover into the test record. -/
theorem openArm_testRec (c : SwitchCause) (s : State) :
    (openArm c s).testRec = s.testRec
      ∨ ∃ part, (openArm c s).testRec = s.testRec.map fun t => { t with switchPart := some part } := by
  by_cases hm : s.ext.state = .measuring
  · rw [openArm_measuring c hm]
    rcases hp : s.ext.pair with _ | ⟨e, x⟩
    · left
      exact switchover_testRec_of_none c (s := s.setExt { s.ext with attachWaits := false }) hp
    · right
      exact ⟨(c, e, x), switchover_testRec_of_pair c (s := s.setExt { s.ext with attachWaits := false }) hp⟩
  · exact .inl (openArm_link c s hm).2.1

theorem outcome_openArm {o : TestOutcome} {s : State} (c : SwitchCause) (h : Outcome o s) : Outcome o (openArm c s) := by
  intro r hr
  rcases openArm_testRec c s with he | ⟨part, he⟩
  · exact h r (he ▸ hr)
  · rw [he, Option.map_eq_some_iff] at hr
    obtain ⟨w, hw, rfl⟩ := hr
    exact h w hw

theorem provisional_of_outcome {o : TestOutcome} {s : State} (h : Outcome o s) (hr : s.testRec.isSome = true) :
    s.provisional = o := by
  obtain ⟨w, hw⟩ := Option.isSome_iff_exists.1 hr
  simp [State.provisional, hw, h w hw]

theorem openArm_testRec_isSome (c : SwitchCause) (s : State) :
    (openArm c s).testRec.isSome = s.testRec.isSome := by
  rcases openArm_testRec c s with he | ⟨part, he⟩ <;> simp [he]

/-! ## The end of a test -/

/-- R26, R168: the test record as the end of the test leaves it. -/
def TestRecord.ended (w : TestRecord) (o : TestOutcome) (s : State) : TestRecord :=
  { w with outcome := some o, endPhase := s.seq.phase, offered := s.recorder.offered
           stored := s.recorder.offered - s.recorder.lost, lost := s.recorder.lost }

/-- R168: the state in which the RESULT is placed. -/
def resultBuilt (o : TestOutcome) (w : TestRecord) (s : State) : State :=
  ((pushNotice (.testEnded o) (writeRecord (fun t => { t with outcome := some o, endPhase := s.seq.phase }) s)).setTestRec
    (some (TestRecord.ended w o s))).setRecorder { s.recorder with collection := .ended }

theorem endTest_of_record {s : State} {w : TestRecord} (o : TestOutcome) (h : s.testRec = some w) :
    endTest o s = closeSpan (judgeCurve (placeResult (TestRecord.ended w o s) (resultBuilt o w s))) := by
  simp [endTest, closeCollection, writeRecord, h, resultBuilt, TestRecord.withCounts, TestRecord.ended]

/-- R164: whether the tail of an ended collection is placed. -/
theorem judgeCurve_ended {s : State} (h : s.recorder.collection = .ended) :
    (judgeCurve s).link.curve =
      if s.link.curve = none ∧ s.link.curveInFlight = false ∧ s.recorder.store ≠ [] then
        some { testId := s.testId, samples := s.recorder.store.take 8 }
      else s.link.curve := by
  have hdue : curveDue s = true ↔ s.link.curve = none ∧ s.link.curveInFlight = false ∧ s.recorder.store ≠ [] := by
    simp [curveDue, h, List.length_pos_iff, curveSamples, and_assoc]
    intro _ _
    cases s.recorder.store <;> simp
  unfold judgeCurve
  simp only [hdue]
  split <;> simp [curveSamples]

theorem placeResult_free {s : State} (t : TestRecord) (h1 : s.link.result = none) (h2 : s.link.resultInFlight = false) :
    (placeResult t s).link.result = some t ∧ (placeResult t s).recorder.waiting = s.recorder.waiting := by
  simp [placeResult, h1, h2]

theorem placeResult_taken {s : State} (t : TestRecord) (h : s.link.result ≠ none ∨ s.link.resultInFlight = true) :
    (placeResult t s).link.result = s.link.result ∧ (placeResult t s).recorder.waiting = some t := by
  have hn : ¬((s.link.result.isNone && !s.link.resultInFlight) = true) := by
    rcases h with h | h <;> simp [h]
  simp [placeResult, hn]

@[simp] theorem resultBuilt_fields (o : TestOutcome) (w : TestRecord) (s : State) :
    (resultBuilt o w s).testRec = some (TestRecord.ended w o s)
      ∧ (resultBuilt o w s).recorder = { s.recorder with collection := .ended }
      ∧ (resultBuilt o w s).load = s.load ∧ (resultBuilt o w s).seq = s.seq
      ∧ (resultBuilt o w s).link.result = s.link.result ∧ (resultBuilt o w s).link.inFlight = s.link.inFlight
      ∧ (resultBuilt o w s).link.curve = s.link.curve
      ∧ (resultBuilt o w s).link.curveInFlight = s.link.curveInFlight
      ∧ (resultBuilt o w s).link.resultInFlight = s.link.resultInFlight := by
  simp [resultBuilt, writeRecord, Link.curveInFlight, Link.resultInFlight]

theorem placeResult_curve {s : State} (t : TestRecord) :
    (placeResult t s).link.curveInFlight = s.link.curveInFlight := by
  simp [Link.curveInFlight]

theorem endTest_writes {s : State} {w : TestRecord} (o : TestOutcome) (h : s.testRec = some w) :
    (endTest o s).testRec = some (TestRecord.ended w o s) ∧ (endTest o s).recorder.collection = .ended
      ∧ (endTest o s).load.spanOpen = false := by
  rw [endTest_of_record o h]
  simp [closeSpan]

theorem endTest_places {s : State} {w : TestRecord} (o : TestOutcome) (h : s.testRec = some w)
    (h1 : s.link.result = none) (h2 : s.link.resultInFlight = false) :
    (endTest o s).link.result = some (TestRecord.ended w o s)
      ∧ (endTest o s).recorder.waiting = s.recorder.waiting := by
  rw [endTest_of_record o h]
  simpa using placeResult_free (s := resultBuilt o w s) (TestRecord.ended w o s) (by simpa) (by simpa)

theorem endTest_waits {s : State} {w : TestRecord} (o : TestOutcome) (h : s.testRec = some w)
    (ht : s.link.result ≠ none ∨ s.link.resultInFlight = true) :
    (endTest o s).link.result = s.link.result
      ∧ (endTest o s).recorder.waiting = some (TestRecord.ended w o s) := by
  rw [endTest_of_record o h]
  simpa using placeResult_taken (s := resultBuilt o w s) (TestRecord.ended w o s) (by simpa)

theorem endTest_notices {s : State} (o : TestOutcome) (h : s.link.notices.length < 8) :
    (endTest o s).link.notices = s.link.notices ++ [{ kind := .testEnded o, index := s.lastIndex }] := by
  simp only [endTest, closeSpan, setLoad_fields, closeCollection_fields]
  rw [pushNotice_notices _ (by simpa [writeRecord])]
  simp [writeRecord, State.lastIndex]

theorem endTest_curve {s : State} {w : TestRecord} (o : TestOutcome) (h : s.testRec = some w) :
    (endTest o s).link.curve =
      if s.link.curve = none ∧ s.link.curveInFlight = false ∧ s.recorder.store ≠ [] then
        some { testId := w.testId, samples := s.recorder.store.take 8 }
      else s.link.curve := by
  rw [endTest_of_record o h]
  have hj := judgeCurve_ended (s := placeResult (TestRecord.ended w o s) (resultBuilt o w s)) (by simp)
  simpa [placeResult_curve, State.testId, TestRecord.ended] using hj

theorem enterDone_outcome (s : State) : Outcome s.provisional (enterDone s) := endTest_outcome _ _

@[simp] theorem enterDone_sets (s : State) :
    (enterDone s).seq.state = .done ∧ (enterDone s).budget.requested = 0 ∧ (enterDone s).budget.reason = .release := by
  simp [enterDone]

theorem enterDone_collection {s : State} (h : s.testRec.isSome = true) :
    (enterDone s).recorder.collection = .ended := by
  obtain ⟨w, hw⟩ := Option.isSome_iff_exists.1 (show
    (requestUnits 0 .release (openArm .testEnd (gotoState .done s))).testRec.isSome = true by
      simpa [openArm_testRec_isSome] using h)
  exact (endTest_writes _ hw).2.1

/-- R23, R150: the falling edge of the stop line in a test state halts the test. -/
theorem stopLineFall_halts {s : State} (low : Bool) (hs : TestStation s) (hl : s.stop.latch = false)
    (ht : s.seq.state.isTest = true) :
    stopLineFall low s = haltSequencer .stopped .stopped
      ((s.setLines { s.lines with stopLow := low }).setStop { s.stop with latch := true }) := by
  obtain ⟨h1, h2, h3, -⟩ := isTest_halts _ ht
  have hf : ((s.setLines { s.lines with stopLow := low }).setStop { s.stop with latch := true }).isFollow = false := by
    simpa [State.isFollow] using hs.2
  simp only [stopLineFall, setLatch, setLines_fields, hl, hs.1, Bool.or_self, Bool.false_eq_true, if_false, stopOwn, hf]
  exact stopSequencer_halts _ (by simp [h1, h2, h3])

/-- R23, R24, R168: a halt in a test state places the RESULT in an empty slot. -/
theorem haltSequencer_places {s : State} (st : SeqState) (o : TestOutcome) (ht : s.seq.state.isTest = true)
    (hr : s.testRec.isSome = true) (h1 : s.link.result = none) (h2 : s.link.resultInFlight = false) :
    ∃ done, (haltSequencer st o s).testRec = some done ∧ (haltSequencer st o s).link.result = some done
      ∧ done.outcome = some o ∧ done.endPhase = s.seq.phase ∧ done.offered = s.recorder.offered
      ∧ done.lost = s.recorder.lost ∧ (haltSequencer st o s).recorder.collection = .ended := by
  obtain ⟨w, hw⟩ := Option.isSome_iff_exists.1 (show
    (requestUnits 0 .release (gotoState st (openArm .stop (abandonTare s)))).testRec.isSome = true by
      simpa [openArm_testRec_isSome] using hr)
  obtain ⟨hrec, hcol, -⟩ := endTest_writes o hw
  have hres := (endTest_places o hw (by simpa) (by simpa [Link.resultInFlight] using h2)).1
  simp only [haltSequencer, ht, if_true]
  exact ⟨_, hrec, hres, rfl, by simp [TestRecord.ended], by simp [TestRecord.ended], by simp [TestRecord.ended], hcol⟩

/-- Settles O42, by the end of a test written out with its record (`endTest_of_record`) and the halt of a test state. -/
theorem testEndPlacesResult : Obligations.TestEndPlacesResult := by
  unfold Obligations.TestEndPlacesResult
  refine ⟨fun o w s h => ?_, fun w k s hw hk => ?_, fun low w s hs hl ht hw h1 h2 => ?_⟩
  · obtain ⟨hrec, hcol, hspan⟩ := endTest_writes o h
    refine ⟨hrec, hcol, by simp, hspan, by simp, endTest_places o h, endTest_waits o h, endTest_notices o, ?_, ?_⟩
    · intro h1 h2 h3
      rw [endTest_curve o h, if_pos ⟨h1, h2, h3⟩]
    · intro hn
      rw [endTest_curve o h, if_neg]
      rintro ⟨h1, h2, h3⟩
      simp [h1, h2, h3] at hn
  · obtain ⟨hstate, hreq, hreason⟩ := enterDone_sets s
    refine ⟨hstate, hreq, hreason, enterDone_collection (by simp [hw]), ?_⟩
    have hp : s.provisional = k := by simp [State.provisional, hw, hk]
    exact hp ▸ enterDone_outcome s
  · refine (next_iff _ _).2 ?_
    simpa [stopLineFall_halts low hs hl ht] using haltSequencer_places .stopped .stopped
      (s := (s.setLines { s.lines with stopLow := low }).setStop { s.stop with latch := true })
      (by simpa) (by simp [hw]) (by simpa) (by simpa)
end Sys2Proof.Proofs
end

section
namespace Sys2Proof.Proofs
open Sys2Proof.Machine Sys2Proof.Safety Sys2Proof.Laws

/-! ## Handling by state -/

theorem handleSample_claiming {s : State} (r : SampleRec) (ended : Bool) (h : s.seq.state = .claiming) :
    handleSample r ended s = claimingSample r (countSample s) := by
  unfold handleSample
  rw [h]

theorem handleSample_running {s : State} (r : SampleRec) (ended : Bool) (h : s.seq.state = .running) :
    handleSample r ended s = runningSample r ended (countSample s) := by
  unfold handleSample
  rw [h]

theorem handleSample_held {s : State} (r : SampleRec) (ended : Bool) (h : s.seq.state = .held) :
    handleSample r ended s = heldSample r (countSample s) := by
  unfold handleSample
  rw [h]

theorem handleSample_ending {s : State} (r : SampleRec) (ended : Bool) (h : s.seq.state = .ending) :
    handleSample r ended s = endingStep r (countSample s) := by
  unfold handleSample
  rw [h]

theorem handleSample_returning {s : State} (r : SampleRec) (ended : Bool) (h : s.seq.state = .returning) :
    handleSample r ended s = returnStep r (countSample s) := by
  unfold handleSample
  rw [h]

/-- R5: the states in which a sample is only counted. -/
theorem handleSample_waiting {s : State} (r : SampleRec) (ended : Bool) (h : s.seq.state.actsOnSample = false) :
    handleSample r ended s = countSample s := by
  unfold handleSample
  split <;> simp_all [SeqState.actsOnSample]

@[simp] theorem countSample_fields (s : State) :
    (countSample s).seq.state = s.seq.state ∧ (countSample s).seq.order = s.seq.order
      ∧ (countSample s).seq.phase = s.seq.phase ∧ (countSample s).seq.phaseBegun = s.seq.phaseBegun
      ∧ (countSample s).seq.phaseTime = s.seq.phaseTime ∧ (countSample s).seq.refValue = s.seq.refValue
      ∧ (countSample s).seq.holdCount = s.seq.holdCount ∧ (countSample s).seq.testZero = s.seq.testZero
      ∧ (countSample s).seq.stateSamples = s.seq.stateSamples + 1
      ∧ (countSample s).seq.returnCancelled = s.seq.returnCancelled := by
  simp [countSample]

/-! ## The end of a test on a sample -/

theorem returnWanted_iff (s : State) : returnWanted s = true ↔
    s.provisional = .broken ∧ (∃ o p, s.seq.order = some o ∧ o.returnPlan = some p)
      ∧ s.seq.returnCancelled = false := by
  simp only [returnWanted, Bool.and_eq_true, beq_iff_eq, Bool.not_eq_true', and_assoc, Option.isSome_iff_exists,
    Option.bind_eq_some_iff]
  grind

/-- R21: the goal of the return move is reached on the sample, with the return share held. -/
def ReturnReached (p : ReturnPlan) (r : SampleRec) (s : State) : Prop :=
  s.holdsShare p.share = true ∧ ((p.position : Int) - r.position).natAbs ≤ 10

theorem returnStep_done {s : State} {o : Order} {p : ReturnPlan} {r : SampleRec} (ho : s.seq.order = some o)
    (hp : o.returnPlan = some p) (h : ReturnReached p r s) : returnStep r s = enterDone s := by
  simp [returnStep, ho, hp, h.1, (nearGoal_iff _ _).2 h.2]

theorem returnStep_moves {s : State} {o : Order} {p : ReturnPlan} {r : SampleRec} (ho : s.seq.order = some o)
    (hp : o.returnPlan = some p) (h : s.holdsShare p.share = true)
    (hf : ¬((p.position : Int) - r.position).natAbs ≤ 10) : returnStep r s = s := by
  have hn : ¬nearGoal p.position r.position = true := fun hn => hf ((nearGoal_iff _ _).1 hn)
  simp [returnStep, ho, hp, h, hn]

/-- R21: without the share the return waits, and the sample on which the wait reaches the timeout leaves the mark. -/
theorem returnStep_waits {s : State} {o : Order} {p : ReturnPlan} (r : SampleRec) (ho : s.seq.order = some o)
    (hp : o.returnPlan = some p) (h : s.holdsShare p.share = false) :
    returnStep r s = if s.holdTimeout ≤ s.elapsed ∧ s.elapsed < s.holdTimeout + s.period then
      s.setSeq { s.seq with due := some .budget } else s := by
  simp [returnStep, ho, hp, h]

theorem returnStep_stays {s : State} {o : Order} {p : ReturnPlan} {r : SampleRec} (ho : s.seq.order = some o)
    (hp : o.returnPlan = some p) (h : ¬ReturnReached p r s) :
    (returnStep r s).seq.state = s.seq.state ∧ (returnStep r s).testRec = s.testRec := by
  by_cases hs : s.holdsShare p.share = true
  · rw [returnStep_moves ho hp hs fun hn => h ⟨hs, hn⟩]
    exact ⟨rfl, rfl⟩
  · rw [returnStep_waits r ho hp (by simpa using hs)]
    split <;> simp

/-- The state in which the return move takes the sample of the entry to RETURNING. -/
def returnEntered (s : State) : State := requestUnits s.returnShare .ret (openArm .testEnd (gotoState .returning s))

theorem endingStep_done {s : State} (r : SampleRec) (hs : s.travel.standstill = true) (hw : returnWanted s = false) :
    endingStep r s = enterDone s := by
  simp [endingStep, hs, hw]

theorem endingStep_returns {s : State} (r : SampleRec) (hs : s.travel.standstill = true) (hw : returnWanted s = true) :
    endingStep r s = returnStep r (returnEntered s) := by
  simp [endingStep, hs, hw, enterReturning, returnEntered]

theorem endingStep_waits {s : State} (r : SampleRec) (hs : s.travel.standstill = false) :
    endingStep r s = if s.holdTimeout ≤ s.elapsed then s.setSeq { s.seq with due := some .ending } else s := by
  simp [endingStep, hs]

@[simp] theorem returnEntered_sets (s : State) :
    (returnEntered s).seq.state = .returning ∧ (returnEntered s).seq.order = s.seq.order
      ∧ (returnEntered s).start = s.start ∧ (returnEntered s).budget.table = s.budget.table := by
  simp [returnEntered]

theorem outcome_returnEntered {k : TestOutcome} {s : State} (h : Outcome k s) : Outcome k (returnEntered s) := by
  have ho : Outcome k (openArm .testEnd (gotoState .returning s)) := outcome_openArm _ (by simpa [Outcome] using h)
  simpa [Outcome, returnEntered] using ho

theorem returnReached_returnEntered (p : ReturnPlan) (r : SampleRec) (s : State) :
    ReturnReached p r (returnEntered s) ↔ ReturnReached p r s := by
  obtain ⟨-, -, hstart, hbudget⟩ := returnEntered_sets s
  simp only [ReturnReached, holdsShare_congr hstart hbudget]

/-- R20, R21: standstill in ENDING with a return move wanted. -/
theorem endingStep_returns_state {s : State} {o : Order} {p : ReturnPlan} (r : SampleRec)
    (hs : s.travel.standstill = true) (hw : returnWanted s = true) (ho : s.seq.order = some o)
    (hp : o.returnPlan = some p) :
    (endingStep r s).seq.state
      = if s.holdsShare p.share = true ∧ ((p.position : Int) - r.position).natAbs ≤ 10 then .done else .returning := by
  have ho' : (returnEntered s).seq.order = some o := by simpa using ho
  rw [endingStep_returns r hs hw]
  split
  · rename_i h
    simp [returnStep_done ho' hp ((returnReached_returnEntered p r s).2 h)]
  · rename_i h
    simp [(returnStep_stays ho' hp (mt (returnReached_returnEntered p r s).1 h)).1]

/-- R20, R26: ENDING is left at standstill with the outcome that was decided at its entry. -/
theorem outcome_endingStep {k : TestOutcome} {s : State} (r : SampleRec) (hs : s.travel.standstill = true)
    (h : Outcome k s) (hr : s.testRec.isSome = true) : Outcome k (endingStep r s) := by
  have hdone : ∀ t, Outcome k t → t.testRec.isSome = true → Outcome k (enterDone t) := fun t ht hrt =>
    provisional_of_outcome ht hrt ▸ enterDone_outcome t
  by_cases hw : returnWanted s = true
  · obtain ⟨-, ⟨o, p, ho, hp⟩, -⟩ := (returnWanted_iff s).1 hw
    have ho' : (returnEntered s).seq.order = some o := by simpa using ho
    have hout := outcome_returnEntered h
    rw [endingStep_returns r hs hw]
    by_cases hreach : ReturnReached p r (returnEntered s)
    · rw [returnStep_done ho' hp hreach]
      exact hdone _ hout (by simpa [returnEntered, openArm_testRec_isSome] using hr)
    · simpa [Outcome, (returnStep_stays ho' hp hreach).2] using hout
  · rw [endingStep_done r hs (by simpa using hw)]
    exact hdone s h hr

/-- R19, R26: what the entry to ENDING decides. -/
@[simp] theorem enterEnding_state (k : TestOutcome) (c : SwitchCause) (s : State) :
    (enterEnding k c s).seq.state = .ending := by
  simp [enterEnding]

theorem enterEnding_outcome (k : TestOutcome) (c : SwitchCause) (s : State) : Outcome k (enterEnding k c s) := by
  have h : Outcome k (openArm c (gotoState .ending
      (writeRecord (fun t => { t with outcome := some k, endPhase := s.seq.phase }) s))) := by
    refine outcome_openArm c ?_
    intro w hw
    simp only [gotoState_keeps, writeRecord, setTestRec_fields, Option.map_eq_some_iff] at hw
    obtain ⟨t, -, rfl⟩ := hw
    rfl
  simpa [Outcome, enterEnding] using h

theorem enterEnding_testRec_isSome (k : TestOutcome) (c : SwitchCause) (s : State) :
    (enterEnding k c s).testRec.isSome = s.testRec.isSome := by
  simp [enterEnding, openArm_testRec_isSome, writeRecord]

/-- R19: the end of a test on a sample, with standstill already reported. -/
theorem endOnSample_standstill {s : State} (k : TestOutcome) (r : SampleRec) (hs : s.travel.standstill = true) :
    endOnSample k r s = endingStep r (enterEnding k .testEnd s) := by
  simp [endOnSample, hs]

theorem endOnSample_moving {s : State} (k : TestOutcome) (r : SampleRec) (hs : s.travel.standstill = false) :
    endOnSample k r s = enterEnding k .testEnd s := by
  simp [endOnSample, hs]

/-- R12, R14: the state in which the phase after the one that ends is looked for. -/
def removalMade (s : State) : State := if removesAtEnd s then removeArm s else s

@[simp] theorem removalMade_keeps (s : State) :
    (removalMade s).start = s.start ∧ (removalMade s).seq = s.seq ∧ (removalMade s).follow = s.follow
      ∧ (removalMade s).travel = s.travel ∧ (removalMade s).pair = s.pair ∧ (removalMade s).load = s.load
      ∧ (removalMade s).budget = s.budget ∧ (removalMade s).stop = s.stop
      ∧ (removalMade s).recorder = s.recorder := by
  unfold removalMade
  split <;> simp

theorem removeArm_testRec_isSome (s : State) : (removeArm s).testRec.isSome = s.testRec.isSome := by
  unfold removeArm
  split
  · rcases hp : s.ext.pair with _ | ⟨e, x⟩
    · rw [switchover_testRec_of_none _ hp]
    · rw [switchover_testRec_of_pair _ hp, Option.isSome_map]
  · rfl

theorem removalMade_testRec_isSome (s : State) : (removalMade s).testRec.isSome = s.testRec.isSome := by
  unfold removalMade
  split
  · exact removeArm_testRec_isSome s
  · rfl

/-- R12, R14: what follows the removal of step 3; ENDING is left at once where standstill is already reported. -/
theorem endPhase_eq (r : SampleRec) (s : State) :
    endPhase r s =
      if (nextPhase r (removalMade s)).seq.state = .ending then
        (if (nextPhase r (removalMade s)).travel.standstill then endingStep r (nextPhase r (removalMade s))
          else nextPhase r (removalMade s))
      else nextPhase r (removalMade s) := rfl

/-- R14: the last phase of the order has ended. -/
theorem endPhase_last {s : State} {o : Order} (r : SampleRec) (ho : s.seq.order = some o)
    (hn : o.phaseAt (s.seq.phase + 1) = none) : endPhase r s = endOnSample .ended r (removalMade s) := by
  have hnext : nextPhase r (removalMade s) = enterEnding .ended .testEnd (removalMade s) := by
    simp [nextPhase, ho, hn]
  rw [endPhase_eq, hnext, if_pos (enterEnding_state _ _ _)]
  rfl

theorem phaseEnds_countSample (r : SampleRec) (ended : Bool) (s : State) :
    phaseEnds (countSample s) r ended = phaseEnds s r ended := by
  simp only [phaseEnds, State.curPhase, countSample_fields, endMet, endQuantity]

theorem holdsShare_countSample (s : State) (n : Nat) : (countSample s).holdsShare n = s.holdsShare n :=
  holdsShare_congr (by simp) (by simp) n

/-- R19, R20: a break on a RUNNING or HELD sample ends the test on it. -/
theorem handleSample_breaks {s : State} {r : SampleRec} (ended : Bool)
    (hstate : s.seq.state = .running ∨ s.seq.state = .held) (hb : r.brk = true) :
    handleSample r ended s = endOnSample .broken r (countSample s) := by
  rcases hstate with h | h
  · rw [handleSample_running r ended h, runningSample, if_pos hb]
  · rw [handleSample_held r ended h, heldSample, if_pos hb]

theorem endOnSample_not_returning {s : State} {k : TestOutcome} (r : SampleRec) (hs : s.travel.standstill = true)
    (hr : s.testRec.isSome = true)
    (h : k ≠ .broken ∨ (∀ o, s.seq.order = some o → o.returnPlan = none) ∨ s.seq.returnCancelled = true) :
    (endOnSample k r s).seq.state = .done := by
  have hprov : (enterEnding k .testEnd s).provisional = k :=
    provisional_of_outcome (enterEnding_outcome _ _ _) (by rwa [enterEnding_testRec_isSome])
  have hw : returnWanted (enterEnding k .testEnd s) = false := by
    refine Bool.eq_false_iff.2 fun hw => ?_
    obtain ⟨hbroken, ⟨o, p, ho, hp⟩, hc⟩ := (returnWanted_iff _).1 hw
    simp only [enterEnding_fields] at ho hc
    rcases h with h | h | h
    · exact h (hprov ▸ hbroken)
    · simp [h o ho] at hp
    · simp [h] at hc
  rw [endOnSample_standstill k r hs, endingStep_done r (by simpa) hw]
  simp

theorem endOnSample_returning {s : State} {o : Order} {p : ReturnPlan} (r : SampleRec) (hs : s.travel.standstill = true)
    (hr : s.testRec.isSome = true) (ho : s.seq.order = some o) (hp : o.returnPlan = some p)
    (hc : s.seq.returnCancelled = false) :
    (endOnSample .broken r s).seq.state
      = if s.holdsShare p.share = true ∧ ((p.position : Int) - r.position).natAbs ≤ 10 then .done
        else .returning := by
  have hprov : (enterEnding .broken .testEnd s).provisional = .broken :=
    provisional_of_outcome (enterEnding_outcome _ _ _) (by rwa [enterEnding_testRec_isSome])
  have hw : returnWanted (enterEnding .broken .testEnd s) = true :=
    (returnWanted_iff _).2 ⟨hprov, ⟨o, p, by simpa using ho, hp⟩, by simpa using hc⟩
  rw [endOnSample_standstill _ r hs, endingStep_returns_state r (by simpa) hw (by simpa using ho) hp,
    holdsShare_congr (s := s) (by simp) (by simp)]

theorem outcome_endOnSample {s : State} (k : TestOutcome) (r : SampleRec) (hs : s.travel.standstill = true)
    (hr : s.testRec.isSome = true) : Outcome k (endOnSample k r s) := by
  rw [endOnSample_standstill k r hs]
  exact outcome_endingStep r (by simpa) (enterEnding_outcome _ _ _) (by rwa [enterEnding_testRec_isSome])

/-- Settles O32: standstill in ENDING goes to DONE, or by way of RETURNING where the return is wanted; the outcome is that
of the entry. -/
theorem standstillInEndingReturnsOrEnds : Obligations.StandstillInEndingReturnsOrEnds := by
  unfold Obligations.StandstillInEndingReturnsOrEnds
  refine ⟨fun r ended s h hs => ?_, fun r ended s o hs ho hr => ⟨fun hstate hb => ⟨?_, ?_, ?_⟩, ?_⟩⟩
  · have hprov : (countSample s).provisional = s.provisional := by simp [State.provisional]
    rw [handleSample_ending r ended h]
    constructor
    · intro o p t ho hp ht hk hc
      have hw : returnWanted (countSample s) = true :=
        (returnWanted_iff _).2 ⟨by simp [State.provisional, ht, hk], ⟨o, p, by simpa using ho, hp⟩, by simpa⟩
      rw [endingStep_returns_state r (by simpa) hw (by simpa using ho) hp, holdsShare_countSample]
    · intro hn
      have hw : returnWanted (countSample s) = false := by
        refine Bool.eq_false_iff.2 fun hw => ?_
        obtain ⟨hbroken, ⟨o, p, ho, hp⟩, hc⟩ := (returnWanted_iff _).1 hw
        simp only [countSample_fields] at ho hc
        rw [hprov] at hbroken
        rcases hn with hn | ⟨o', ho', hn⟩ | hn | ⟨t, ht, hn⟩ | hn
        · simp [hn] at ho
        · simp_all
        · simp [State.provisional, hn] at hbroken
        · cases hk : t.outcome <;> simp_all [State.provisional]
        · simp [hn] at hc
      rw [endingStep_done r (by simpa) hw]
      simp
  · intro p hp hc
    rw [handleSample_breaks ended hstate hb,
      endOnSample_returning r (by simpa) (by simpa) (by simpa using ho) hp (by simpa), holdsShare_countSample]
  · intro hn
    rw [handleSample_breaks ended hstate hb]
    refine endOnSample_not_returning r (by simpa) (by simpa) (.inr ?_)
    rcases hn with hn | hn
    · left
      intro o' ho'
      obtain rfl : o = o' := by simpa [ho] using ho'
      exact hn
    · exact .inr (by simpa)
  · rw [handleSample_breaks ended hstate hb]
    exact outcome_endOnSample _ r (by simpa) (by simpa)
  · intro h hb he hn
    have hlast : handleSample r ended s = endOnSample .ended r (removalMade (countSample s)) := by
      rw [handleSample_running r ended h, runningSample, if_neg (by simp [hb]),
        if_pos (by rwa [phaseEnds_countSample]), endPhase_last r (by simpa using ho) (by simpa using hn)]
    rw [hlast]
    have hr' : (removalMade (countSample s)).testRec.isSome = true := by
      rw [removalMade_testRec_isSome]
      simpa using hr
    exact ⟨endOnSample_not_returning r (by simpa) hr' (.inl (by simp)), outcome_endOnSample _ r (by simpa) hr'⟩

/-! ## The timeouts -/

theorem countSample_of_not_running {s : State} (h : s.seq.state ≠ .running) :
    countSample s = s.setSeq { s.seq with stateSamples := s.seq.stateSamples + 1 } := by
  simp [countSample, h]

/-- Settles O28: each timeout event reports a local fault in a test state, and the waiting samples leave its mark. -/
theorem sequencerTimeoutsFault : Obligations.SequencerTimeoutsFault := by
  unfold Obligations.SequencerTimeoutsFault
  refine ⟨fun s hs => ⟨fun h hd => ?_, fun h hd => ?_, fun h hd => ?_⟩, fun r ended s o p => ⟨?_, ?_⟩⟩
  · refine (next_iff _ _).2 ?_
    simpa [holdExpired, h, hd] using endsFaulted_report s hs (by simp [h, SeqState.isTest]) (c := .holdTimeout) rfl
  · have ht : s.seq.state.isTest = true := by rcases h with h | h <;> simp [h, SeqState.isTest]
    have he : budgetExpired s = report .budgetTimeout s := by rcases h with h | h <;> simp [budgetExpired, h, hd]
    refine (next_iff _ _).2 ?_
    simpa [he] using endsFaulted_report s hs ht (c := .budgetTimeout) rfl
  · refine (next_iff _ _).2 ?_
    simpa [endingExpired, h, hd] using endsFaulted_report s hs (by simp [h, SeqState.isTest]) (c := .holdTimeout) rfl
  · intro h hs
    rw [handleSample_ending r ended h, endingStep_waits r (by simpa), countSample_of_not_running (by simp [h])]
    rfl
  · intro h ho hp
    have hc := countSample_of_not_running (s := s) (by simp [h])
    have hoc : (countSample s).seq.order = some o := by simpa using ho
    rw [handleSample_returning r ended h]
    refine ⟨fun hh hn => ?_, fun hh hf => ?_, fun hh => ?_⟩
    · rw [returnStep_done hoc hp ⟨by rwa [holdsShare_countSample], hn⟩]
      simp
    · rw [returnStep_moves hoc hp (by rwa [holdsShare_countSample]) (by omega), hc]
    · rw [returnStep_waits r hoc hp (by rwa [holdsShare_countSample]), hc]
      rfl
end Sys2Proof.Proofs
end

section
namespace Sys2Proof.Proofs
open Sys2Proof.Machine Sys2Proof.Safety Sys2Proof.Laws

/-! ## The frames built from the state, and the timers -/

theorem moveKind_of_test {s : State} (h : s.isFollow = false) :
    (s.moveKind = .test ↔ 5 ≤ s.seq.state.code ∧ s.seq.state.code ≤ 8)
      ∧ (s.moveKind = .ret ↔ s.seq.state = .returning) := by
  simp only [State.moveKind, h, Bool.false_eq_true, if_false]
  cases s.seq.state <;> simp [SeqState.code]

theorem moveShare_of_test {s : State} (h : s.isFollow = false) :
    (s.moveKind = .none → s.moveShare = 0)
      ∧ (s.seq.state = .claiming → s.moveShare = s.shareOf 1)
      ∧ (s.seq.state = .running ∨ s.seq.state = .held ∨ s.seq.state = .ending → s.moveShare = s.shareOf s.seq.phase)
      ∧ (s.seq.state = .returning → s.moveShare = s.returnShare) := by
  simp only [State.moveKind, State.moveShare, h, Bool.false_eq_true, if_false]
  cases s.seq.state <;> simp [State.phaseShare, State.shareOf, State.curPhase]

theorem requestsMovement_iff (q : SeqState) : q.requestsMovement = true ↔ q = .running ∨ q = .returning := by
  cases q <;> simp [SeqState.requestsMovement]

theorem levelOf_buildLevel (s : State) : LevelOf s (buildLevel s) := by
  cases h : s.isFollow with
  | true => simp [LevelOf, buildLevel, h]
  | false =>
    obtain ⟨hnone, hclaim, hphase, hret⟩ := moveShare_of_test h
    obtain ⟨htest, hkind⟩ := moveKind_of_test h
    simp only [LevelOf, buildLevel, h, requestsMovement_iff, Bool.false_eq_true, if_false, false_implies, true_and,
      true_implies]
    exact ⟨htest, hkind, hnone, hclaim, hphase, hret⟩

theorem mem_members (l : Link) (n : Nat) : n ∈ l.members ↔ ∃ h : n < 15, l.presence[n].isSome = true := by
  by_cases h : n < 15 <;> simp [Link.members, h]

theorem members_rise (l : Link) : l.members.Pairwise (· < ·) := List.pairwise_lt_range.filter _

theorem capacity_of_config (s : State) :
    (s.start.config = none → s.capacity = 0) ∧ ∀ c, s.start.config = some c → s.capacity = c.capacity := by
  cases h : s.start.config <;> simp [State.capacity, h]

theorem statusOf_buildStatus (s : State) : StatusOf s (buildStatus s) := by
  obtain ⟨hcap, hcap'⟩ := capacity_of_config s
  refine ⟨rfl, ?_, ?_, ?_, rfl, rfl, rfl, ?_, ?_, rfl, rfl, rfl, hcap, hcap', ?_, ?_, rfl, rfl, rfl, rfl, rfl, ?_, ?_, ?_,
    ?_, rfl, rfl, rfl, rfl, members_rise _, mem_members _⟩
  · intro h; simp [buildStatus, State.ownState, State.ownPhase, h]
  · intro h; simp [buildStatus, State.ownState, State.ownPhase, h]
  · intro r h; simp [buildStatus, State.lastIndex, State.lastPosition, h]
  · intro h; simp [buildStatus, h]
  · intro k h; simp [buildStatus, h]
  · intro h; simp [buildStatus, h]
  · intro h; simp [buildStatus, h]
  · intro h; simp [buildStatus, h]
  · intro i h; simp [buildStatus, h]
  · intro h; simp [buildStatus, h]
  · intro m hf hm; simp [buildStatus, hf, hm]

/-- R45: what the forcing conditions are read from. -/
theorem forced_of_share {s t : State} (hstop : t.stop = s.stop) (hbudget : t.budget.table = s.budget.table)
    (hstart : t.start = s.start) (hshare : t.moveShare = s.moveShare) (hmirror : t.pair.mirror = s.pair.mirror)
    (hage : t.pair.age = s.pair.age) (htripped : t.travel.tripped = s.travel.tripped) : forced t = forced s := by
  have hown : t.ownEntry = s.ownEntry := by simp only [State.ownEntry, Budget.entry, hbudget, hstart]
  simp only [forced, State.isFollow, Pair.lost, hstop, hown, hshare, hstart, hmirror, hage, htripped]

theorem forced_congr {s t : State} (hstop : t.stop = s.stop) (hbudget : t.budget.table = s.budget.table)
    (hstart : t.start = s.start) (hseq : t.seq = s.seq) (hfollow : t.follow = s.follow)
    (hmirror : t.pair.mirror = s.pair.mirror) (hage : t.pair.age = s.pair.age)
    (htripped : t.travel.tripped = s.travel.tripped) : forced t = forced s :=
  forced_of_share hstop hbudget hstart (moveShare_congr hstart hfollow (by rw [hseq]) (by rw [hseq]) (by rw [hseq]))
    hmirror hage htripped

theorem buildLevel_setPair (p : Pair) (s : State) : buildLevel (s.setPair p) = buildLevel s := by
  cases h : s.isFollow <;>
    simp_all [buildLevel, State.isFollow, State.moveKind, State.moveShare, State.shareOf, State.phaseShare,
      State.curPhase, State.returnShare, State.lastIndex]

theorem timerReached_some {t : Option Nat} {n k : Nat} (h : t = some n) : timerReached t k = true ↔ k ≤ n := by
  simp [timerReached, h]

/-- A command that changes neither the budget unit nor what the forcing conditions read ends with its own effect. -/
theorem finish_of_same {s t : State} (hp : PortSafe s) (hb : t.budget = s.budget) (ht : t.travel = s.travel)
    (hf : forced t = forced s) : finish s t = t := by
  refine finish_eq s t hb fun h => ?_
  rw [ht]
  exact hp (hf ▸ h)

theorem presenceExpired_iff {s : State} {n a : Nat} (h : n < 15) (ha : s.link.presence[n] = some a) :
    presenceExpired s n = true ↔ 4 * s.statusPeriod < a := by
  simp only [presenceExpired, h, ha, dif_pos, decide_eq_true_eq]
  rfl

/-- Settles O49: the frames field by field, and commands that change nothing that a forcing condition reads. -/
theorem timersAndPresence : Obligations.TimersAndPresence := by
  unfold Obligations.TimersAndPresence
  refine ⟨fun s => ⟨levelOf_buildLevel s, statusOf_buildStatus s⟩, ⟨fun s n hp ht hn => ?_, fun s n hp ht hn => ?_⟩,
    fun n s h a hp ha => ?_⟩
  · have hr : timerReached s.pair.levelTimer levelTicks = true := (timerReached_some ht).2 hn
    have he : levelTimer s = (s.setPair { s.pair with levelTimer := some 0 }).setLink
        { s.link with level := some (buildLevel s) } := by
      simp [levelTimer, hr, placeLevel, buildLevel_setPair]
    show Host.Outcome.next (finish s (levelTimer s)) = _
    rw [he, finish_of_same hp (by simp) (by simp) (forced_congr (by simp) (by simp) (by simp) (by simp) (by simp)
      (by simp) (by simp) (by simp))]
  · have hr : timerReached s.link.statusTimer s.statusPeriod = true := (timerReached_some ht).2 hn
    have he : statusTimer s = s.setLink { s.link with statusTimer := some 0, status := some (buildStatus s) } := by
      simp only [statusTimer, hr, if_true, placeStatus]
      rfl
    show Host.Outcome.next (finish s (statusTimer s)) = _
    rw [he, finish_of_same hp (by simp) (by simp) (forced_congr (by simp) (by simp) (by simp) (by simp) (by simp)
      (by simp) (by simp) (by simp))]
  · have hx := presenceExpired_iff h ha
    show (_ → Host.Outcome.next (finish s (dropMember n.toNat s)) = _)
      ∧ (_ → Host.Outcome.next (finish s (dropMember n.toNat s)) = _)
    constructor <;> intro hage
    · rw [show dropMember n.toNat s = s.setLink { s.link with presence := s.link.presence.set n.toNat none h } by
        simp [dropMember, hx.2 hage, h]]
      rw [finish_of_same hp (by simp) (by simp) (forced_congr (by simp) (by simp) (by simp) (by simp) (by simp)
        (by simp) (by simp) (by simp))]
    · have hn : presenceExpired s n.toNat = false := Bool.eq_false_iff.2 fun hx' => by have := hx.1 hx'; omega
      rw [show dropMember n.toNat s = s by simp [dropMember, hn], finish_of_same hp rfl rfl rfl]
end Sys2Proof.Proofs
end

section
namespace Sys2Proof.Proofs
open Sys2Proof.Machine Sys2Proof.Safety Sys2Proof.Laws

/-! ## The grips line at a tick -/

/-- R80, R82: a decided range empties the attempt. -/
theorem takeRange_tare (l : LoadCh) :
    l.takeRange.tare = if l.pendingRange.isSome then l.tare.map fun t => { t with loads := [] } else l.tare := by
  unfold LoadCh.takeRange
  split <;> simp_all

theorem takeRange_tareOffset (l : LoadCh) : l.takeRange.tareOffset = l.tareOffset := by
  unfold LoadCh.takeRange
  split <;> simp

/-- R53, R56, R70: the state of a tick in which the sequencer looks at the grips line. -/
def ticked (lines : Lines) (s : State) : State := tickAges (tickCore (s.setLines lines))

theorem ticked_fields (lines : Lines) (s : State) :
    (ticked lines s).lines = lines ∧ (ticked lines s).seq = s.seq
      ∧ (ticked lines s).load.tareOffset = s.load.tareOffset
      ∧ (ticked lines s).load.tare
          = if s.load.pendingRange.isSome then s.load.tare.map fun t => { t with loads := [] } else s.load.tare := by
  simp [ticked, tickCore, tickLoad, takeRange_tare, takeRange_tareOffset]

/-- R70: a tick on which nothing is overdue and the amplifier reports no fault. -/
theorem sampleTick_of_settled {s : State} {lines : Lines} (hn : NothingOverdue s) (hs : s.start.strapFault = false)
    (ha : lines.ampFault = false) : sampleTick lines s = forceZero (tickGrips (ticked lines s)) := by
  have hl : (ticked lines s).lines.ampFault = false := by rw [(ticked_fields lines s).1, ha]
  simp only [sampleTick, hn, tickCore_keeps, setLines_fields, hs, Bool.false_eq_true, if_false]
  exact if_neg (by simp [ha])

theorem tickGrips_armed {s : State} (h : s.seq.state = .armed) :
    tickGrips s
      = s.setSeq { s.seq with gripsCount := if s.lines.grips then min gripsTicks (s.seq.gripsCount + 1) else 0 } := by
  unfold tickGrips
  rw [h]

theorem tickGrips_taring {s : State} (h : s.seq.state = .taring) : tickGrips s = tickTaring s := by
  unfold tickGrips
  rw [h]

/-- R8: grips that stay closed leave the tare in progress. -/
theorem tickTaring_closed {s : State} (h : s.lines.grips = true) : tickTaring s = s := by
  simp [tickTaring, h]

/-- R8: a low line on a tick whose sample cannot end the attempt takes the sequencer back. -/
theorem tickTaring_drops {s : State} (h : s.lines.grips = false)
    (ht : ∀ a, s.load.tare = some a → a.loads.length ≠ 15) : tickTaring s = dropGrips s := by
  unfold tickTaring
  cases hs : s.load.tare with
  | none => simp [h]
  | some a =>
    have ha := ht a hs
    simp [h, tareSamples, ha]

/-- R8, R84: where the sample of the tick may end the attempt, the line is taken now or waits for the report. -/
theorem tickTaring_open {s : State} {a : Tare} (h : s.lines.grips = false) (ht : s.load.tare = some a)
    (ha : a.loads.length = 15) :
    tickTaring s = dropGrips s.draw.2 ∨ tickTaring s = s.draw.2.setSeq { s.seq with gripsLowWaits := true } := by
  by_cases hd : s.draw.1 = true
  · left
    simp [tickTaring, h, ht, ha, tareSamples, hd]
  · right
    have hd' : Config.freeBit s.free = false := by simpa [State.draw] using hd
    simp [tickTaring, h, ht, ha, tareSamples, hd', State.draw]

theorem dropGrips_sets (s : State) :
    (dropGrips s).seq.state = .armed ∧ (dropGrips s).seq.gripsCount = 0 ∧ (dropGrips s).load.tare = none := by
  simp [dropGrips, abandonTare]

theorem tickTaring_tareOffset (s : State) : (tickTaring s).load.tareOffset = s.load.tareOffset := by
  by_cases hg : s.lines.grips = true
  · rw [tickTaring_closed hg]
  · have hlow : s.lines.grips = false := by simpa using hg
    by_cases hopen : ∀ a, s.load.tare = some a → a.loads.length ≠ 15
    · simp [tickTaring_drops hlow hopen]
    · push Not at hopen
      obtain ⟨a, ha, hl⟩ := hopen
      rcases tickTaring_open hlow ha hl with ht | ht <;> simp [ht, State.draw]

theorem tickGrips_tareOffset (s : State) : (tickGrips s).load.tareOffset = s.load.tareOffset := by
  unfold tickGrips
  split <;> simp [tickTaring_tareOffset]

theorem ticked_tare_open {lines : Lines} {s : State}
    (h : ¬∀ a, (ticked lines s).load.tare = some a → a.loads.length ≠ 15) :
    ∃ a, (ticked lines s).load.tare = some a ∧ a.loads.length = 15 ∧ (ticked lines s).load.tare = s.load.tare
      ∧ s.load.pendingRange.isSome = false := by
  push Not at h
  obtain ⟨a, ha, hl⟩ := h
  obtain ⟨-, -, -, htare⟩ := ticked_fields lines s
  refine ⟨a, ha, hl, ?_⟩
  cases hp : s.load.pendingRange.isSome with
  | false => simp [htare, hp]
  | true =>
    rw [htare, hp, if_pos rfl, Option.map_eq_some_iff] at ha
    obtain ⟨b, -, rfl⟩ := ha
    simp at hl

/-- Settles O18: at a settled tick the sequencer looks at the grips line once, in ARMED and in TARING. -/
theorem tickWatchesGrips : Obligations.TickWatchesGrips := by
  unfold Obligations.TickWatchesGrips
  intro lines s hn hs ha
  refine (next_iff _ _).2 ?_
  obtain ⟨hlines, hseq, hoff, htare⟩ := ticked_fields lines s
  simp only [sampleTick_of_settled hn hs ha, finish_keeps, forceZero_keeps]
  have hlow : s.seq.state = .taring → lines.grips = false →
      (∀ a, (ticked lines s).load.tare = some a → a.loads.length ≠ 15) →
      (tickGrips (ticked lines s)).seq.state = .armed ∧ (tickGrips (ticked lines s)).seq.gripsCount = 0
        ∧ (tickGrips (ticked lines s)).load.tare = none := by
    intro h hg ht
    rw [tickGrips_taring (by rw [hseq, h]), tickTaring_drops (by rw [hlines, hg]) ht]
    exact dropGrips_sets _
  refine ⟨by rw [tickGrips_tareOffset, hoff], fun h => ?_, fun h hg => ?_, fun h hg ht => hlow h hg ?_, fun h hg => ?_⟩
  · rw [tickGrips_armed (by rw [hseq, h])]
    simp [hseq, hlines, h, gripsTicks]
  · rw [tickGrips_taring (by rw [hseq, h]), tickTaring_closed (by rw [hlines, hg])]
    refine ⟨hseq, ?_⟩
    rw [htare]
    split <;> simp
  · by_contra hopen
    obtain ⟨a, ha, hl, hsame, hp⟩ := ticked_tare_open hopen
    rcases ht with ht | ht
    · simp [hp] at ht
    · exact ht a (hsame ▸ ha) hl
  · by_cases hopen : ∀ a, (ticked lines s).load.tare = some a → a.loads.length ≠ 15
    · exact .inl (hlow h hg hopen)
    · obtain ⟨a, ha, hl, hsame, -⟩ := ticked_tare_open hopen
      rw [tickGrips_taring (by rw [hseq, h])]
      rcases tickTaring_open (by rw [hlines, hg]) ha hl with ht | ht <;> rw [ht]
      · exact .inl (dropGrips_sets _)
      · exact .inr ⟨by simp [hseq, h], by simp, by simpa [State.draw] using hsame⟩
end Sys2Proof.Proofs
end

section
namespace Sys2Proof.Proofs
open Sys2Proof.Machine Sys2Proof.Safety Sys2Proof.Laws

/-! ## A frame that brings nothing but its header -/

/-- R135: a header that leaves the unit's in-step state withdraws nothing. -/
theorem heard_of_stays {f : RxFrame} {s : State} (h : staysInStep f s = s.budget.inStep) :
    (heard f s).link.grant = s.link.grant ∧ (heard f s).budget = { s.budget with lastHeard := f.epoch } := by
  have hno : ¬(s.budget.inStep = true ∧ f.inStep = true ∧ f.epoch ≠ s.budget.epoch) := by
    rintro ⟨h1, h2, h3⟩
    simp [staysInStep, h1, h2, h3] at h
  refine ⟨?_, by rw [heard_budget, if_neg hno]⟩
  have hj : (s.budget.inStep && f.inStep && f.epoch != s.budget.epoch) = false := by
    simpa [and_assoc] using hno
  simp [heard, judgeHeader, hj, Link.endReception]

/-- R133: a command builds a STATUS anew only in the slot of a pending one. -/
theorem finish_status (old s : State) :
    (finish old s).link.status
      = if budgetChanged old s then s.link.status.map fun _ => buildStatus s else s.link.status := by
  unfold finish rebuildStatus
  split <;> simp [refreshStatus_link]

theorem forced_heard (f : RxFrame) (s : State) : forced (heard f s) = forced s :=
  forced_congr (by simp) (by simp) (by simp) (by simp) (by simp) (by simp) (by simp) (by simp)

theorem forced_setLines (l : Lines) (s : State) : forced (s.setLines l) = forced s :=
  forced_congr (by simp) (by simp) (by simp) (by simp) (by simp) (by simp) (by simp) (by simp)

/-- R125, R129, R135: a frame whose content no block takes, with the lines that its command reports. -/
theorem headerOnly_heard (f : RxFrame) (lines : Lines) (s : State) :
    HeaderOnly f s (finish s (heard f (s.setLines lines))) := by
  have htravel : (finish s (heard f (s.setLines lines))).travel
      = if forced s then { s.travel with applied := 0 } else s.travel := by
    rw [finish_travel, forced_heard, forced_setLines]
    split <;> simp
  have hstatus := finish_status s (heard f (s.setLines lines))
  refine ⟨by simp, by simp, by simp, by simp, by simp, htravel, by simp, by simp, by simp, by simp, by simp, by simp,
    by simp, by simp [staysInStep], by simp, by simp, by simp, by simp, by simp, by simp, by simp, by simp, by simp,
    by simp, by simp, ?_, ?_⟩
  · rw [hstatus]
    split <;> simp
  · intro h
    obtain ⟨hgrant, hbudget⟩ := heard_of_stays (f := f) (s := s.setLines lines) h
    have hsame : budgetChanged s (heard f (s.setLines lines)) = false := by simp [budgetChanged, hbudget]
    refine ⟨by simp [hstatus, hsame], by simp [hgrant], by simp [hbudget]⟩

/-! ## ABORT -/

theorem switchover_link {c : SwitchCause} (s : State) (h : c.event = none) :
    (switchover c s).link = s.link := by
  rcases hp : s.ext.pair with _ | ⟨e, x⟩ <;> simp [switchover, hp, switchNotice, h]

/-- R106, R108: an open command with a cause that has no notice leaves the link alone. -/
theorem openArm_quiet {c : SwitchCause} (s : State) (h : c.event = none) : (openArm c s).link = s.link := by
  by_cases hm : s.ext.state = .measuring
  · rw [openArm_measuring c hm, switchover_link _ h]
    simp
  · exact (openArm_link c s hm).1

theorem enterEnding_ext (k : TestOutcome) (c : SwitchCause) (s : State) :
    (enterEnding k c s).ext.state = if s.ext.state.closes then .opening else s.ext.state := by
  simp [enterEnding, openArm_state, writeRecord]

theorem enterEnding_notices {c : SwitchCause} (k : TestOutcome) (s : State) (h : c.event = none) :
    (enterEnding k c s).link.notices = s.link.notices := by
  simp [enterEnding, openArm_quiet _ h, writeRecord]

theorem abortable_iff (q : SeqState) : q.abortable = true ↔ 2 ≤ q.code ∧ q.code ≤ 7 := by
  cases q <;> simp [SeqState.abortable, SeqState.code]

theorem abortTest_test {s : State} (hf : s.isFollow = false) (h : s.seq.state.abortable = true) :
    abortTest s = enterEnding .aborted .abort (abandonTare s) := by
  simp [abortTest, hf, h]

theorem abortTest_return {s : State} (hf : s.isFollow = false) (h : s.seq.state = .returning) :
    abortTest s = enterEnding .broken .abort (s.setSeq { s.seq with returnCancelled := true }) := by
  simp [abortTest, hf, h, SeqState.abortable]

theorem abortTest_none {s : State}
    (h : s.isFollow = true ∨ s.seq.state = .ending ∨ s.seq.state.code ≤ 1 ∨ 10 ≤ s.seq.state.code) :
    abortTest s = s := by
  cases hf : s.isFollow with
  | true => simp [abortTest, hf]
  | false =>
    have ha : s.seq.state.abortable = false := Bool.eq_false_iff.2 fun ha => by
      have hc := (abortable_iff _).1 ha
      rcases h with h | h | h | h
      · simp [hf] at h
      · simp [h, SeqState.code] at hc
      all_goals omega
    have hr : s.seq.state ≠ .returning := fun hr => by simp [hf, hr, SeqState.code] at h
    simp [abortTest, hf, ha, hr]

theorem abortTest_notices (s : State) : (abortTest s).link.notices = s.link.notices := by
  have hquiet : SwitchCause.abort.event = none := rfl
  unfold abortTest
  split_ifs <;> simp [enterEnding_notices _ _ hquiet]

theorem isFollow_heard (f : RxFrame) (s : State) : (heard f s).isFollow = s.isFollow := by
  simp [State.isFollow]

theorem execAbort_takes {f : RxFrame} {s : State} (ht : Takes f s) (h0 : f.sender = 0)
    (hd : f.dest.toNat = s.start.number ∨ f.dest = 15) (hp : f.payload = []) :
    exec (.abort f) s = .next (finish s (abortTest (heard f s))) := by
  have hto : toOwnOrAll f (heard f s) = true := by simpa [toOwnOrAll, h0] using hd
  show Host.Outcome.next (finish s (receive f (abortAct f) s)) = _
  rw [receive_takes _ ht, abortAct, hto, hp]
  rfl

/-- Settles O57: an ABORT is taken by the sequencer's state, and ends the test by `enterEnding`. -/
theorem abortEndsTest : Obligations.AbortEndsTest := by
  unfold Obligations.AbortEndsTest
  intro f s ht h0 hd hp
  rw [execAbort_takes ht h0 hd hp]
  refine (next_iff _ _).2 ⟨fun hf h2 h7 => ?_, fun hf hr => ?_, fun hn => ?_, by simp, by simp [abortTest_notices]⟩
  · rw [abortTest_test (by rwa [isFollow_heard]) (by simpa [abortable_iff] using ⟨h2, h7⟩)]
    have hout := enterEnding_outcome .aborted .abort (abandonTare (heard f s))
    refine ⟨by simp, by simp, by simpa [Outcome] using hout, by simp [abandonTare], by simp, ?_, ?_⟩
    · rintro (h | h | h | h) <;> simp [enterEnding_ext, h, ExtState.closes]
    · intro h
      simp [enterEnding_ext, h, ExtState.closes]
  · rw [abortTest_return (by rwa [isFollow_heard]) (by simpa)]
    have hout := enterEnding_outcome .broken .abort
      ((heard f s).setSeq { (heard f s).seq with returnCancelled := true })
    exact ⟨by simp, by simp, by simpa [Outcome] using hout⟩
  · rw [abortTest_none (by simpa [isFollow_heard] using hn)]
    exact ⟨by simpa using headerOnly_heard f s.lines s, by simp⟩

/-! ## ORDER -/

theorem orderRefusal_heard (f : RxFrame) (s : State) : orderRefusal (heard f s) = orderRefusal s := by
  simp [orderRefusal, State.isFollow, StopFault.locked]

theorem orderRefusal_notLead {s : State} (h : s.isFollow = true) : orderRefusal s = some .notLead := by
  simp [orderRefusal, h]

theorem orderRefusal_busy {s : State} (hf : s.isFollow = false)
    (h : (s.seq.state ≠ .idle ∧ s.seq.state ≠ .done) ∨ s.start.intervalEnded = false ∨ s.stop.latch = true
      ∨ s.stop.record.isSome = true) : orderRefusal s = some .busy := by
  by_cases hs : s.seq.state ≠ .idle ∧ s.seq.state ≠ .done
  · simp [orderRefusal, hf, hs]
  · have hb : (!s.start.intervalEnded || s.stop.latch || s.stop.locked) = true := by
      simpa [hs, StopFault.locked, or_assoc] using h
    simp [orderRefusal, hf, hb]

theorem orderRefusal_none {s : State} (hf : s.isFollow = false) (h : s.seq.state = .idle ∨ s.seq.state = .done)
    (hi : s.start.intervalEnded = true) (hl : s.stop.latch = false) (hr : s.stop.record = none) :
    orderRefusal s = none := by
  rcases h with h | h <;> simp [orderRefusal, hf, h, hi, hl, hr, StopFault.locked]

theorem execOrder_takes {f : RxFrame} {s : State} (ht : Takes f s) (h0 : f.sender = 0)
    (hd : f.dest.toNat = s.start.number) :
    exec (.order f) s = .next (finish s (takeOrder f.payload (heard f s))) := by
  have hto : toOwn f (heard f s) = true := by simpa [toOwn, h0] using hd
  show Host.Outcome.next (finish s (receive f (orderAct f) s)) = _
  rw [receive_takes _ ht, orderAct, hto]
  rfl

theorem lastIndex_heard (f : RxFrame) (s : State) : (heard f s).lastIndex = s.lastIndex := by
  simp [State.lastIndex]

theorem lastPosition_heard (f : RxFrame) (s : State) : (heard f s).lastPosition = s.lastPosition := by
  simp [State.lastPosition]

/-- R2, R3: the three ways to refuse an order. -/
theorem takeOrder_refused {f : RxFrame} {s : State} {why : OrderRefusal}
    (h : (s.isFollow = true ∧ why = .notLead)
        ∨ (s.isFollow = false ∧ why = .busy
            ∧ ((s.seq.state ≠ .idle ∧ s.seq.state ≠ .done) ∨ s.start.intervalEnded = false ∨ s.stop.latch = true
                ∨ s.stop.record.isSome = true))
        ∨ (s.isFollow = false ∧ why = .badOrder ∧ (s.seq.state = .idle ∨ s.seq.state = .done)
            ∧ s.start.intervalEnded = true ∧ s.stop.latch = false ∧ s.stop.record = none
            ∧ ∀ k, s.start.config = some k → acceptableOrder k f.payload = none)) :
    takeOrder f.payload (heard f s) = pushNotice (.orderRefused why) (heard f s) := by
  unfold takeOrder
  rw [orderRefusal_heard]
  rcases h with ⟨hf, rfl⟩ | ⟨hf, rfl, hb⟩ | ⟨hf, rfl, hs, hi, hl, hr, hk⟩
  · rw [orderRefusal_notLead hf]
  · rw [orderRefusal_busy hf hb]
  · have hn : (heard f s).orderOf f.payload = none := by
      rw [State.orderOf, (heard_keeps f s).2.2.1]
      cases hc : s.start.config with
      | none => rfl
      | some k => exact hk k hc
    rw [orderRefusal_none hf hs hi hl hr]
    simp only [hn]

theorem takeOrder_accepted {f : RxFrame} {s : State} {k : Settings} {o : Order} (hf : s.isFollow = false)
    (hs : s.seq.state = .idle ∨ s.seq.state = .done) (hi : s.start.intervalEnded = true) (hl : s.stop.latch = false)
    (hr : s.stop.record = none) (hk : s.start.config = some k) (ho : acceptableOrder k f.payload = some o) :
    takeOrder f.payload (heard f s) = acceptOrder o (heard f s) := by
  have ho' : (heard f s).orderOf f.payload = some o := by
    rw [State.orderOf, (heard_keeps f s).2.2.1, hk]
    exact ho
  unfold takeOrder
  rw [orderRefusal_heard, orderRefusal_none hf hs hi hl hr]
  simp only [ho']

theorem takeRangeMode_fields (l : LoadCh) (m : RangeMode) :
    (l.takeRangeMode m).rangeMode = m ∧ (l.takeRangeMode m).tareOffset = l.tareOffset
      ∧ (l.takeRangeMode m).last = l.last := by
  cases m <;> simp [LoadCh.takeRangeMode]

/-- R4, R63, R76, R86, R107, R166, R167: what an acceptance writes. -/
theorem acceptOrder_sets (o : Order) (s : State) :
    (acceptOrder o s).seq = s.seq.acceptOrder o s.lastPosition
      ∧ (acceptOrder o s).testRec = some (TestRecord.fresh o.testId)
      ∧ (acceptOrder o s).recorder = { Recorder.reset with collection := .collecting, waiting := s.recorder.waiting }
      ∧ (acceptOrder o s).link.curve = none ∧ (acceptOrder o s).link.result = s.link.result
      ∧ (acceptOrder o s).load = { (s.load.takeRangeMode o.rangeMode).spanReset with tare := none }
      ∧ (acceptOrder o s).ext = { s.ext with offset := 0 }
      ∧ (acceptOrder o s).pair = { s.pair with joined := false, runCount := 0 } := by
  simp [acceptOrder, Recorder.fresh]

theorem acceptOrder_notices {o : Order} {s : State} (h : s.link.notices.length < 8) :
    (acceptOrder o s).link.notices = s.link.notices ++ [{ kind := .orderAccepted o.testId, index := s.lastIndex }] := by
  unfold acceptOrder
  rw [pushNotice_notices _ (by simpa)]
  simp [State.lastIndex, LoadCh.spanReset, takeRangeMode_fields]

/-- Settles O55, by the cases of the refusal and the state that an accepted ORDER leaves. -/
theorem orderIsAcceptedOrRefused : Obligations.OrderIsAcceptedOrRefused := by
  unfold Obligations.OrderIsAcceptedOrRefused
  refine ⟨fun f s why ht h0 hd hw => ?_, fun f s k o ht h0 hd hf hs hi hl hr hk ho => ?_⟩
  · rw [execOrder_takes ht h0 hd, takeOrder_refused hw]
    refine (next_iff _ _).2 ⟨by simp, by simp, by simp, by simp, by simp, by simp, by simp, by simp, fun hq => ?_⟩
    simp only [finish_link_fields]
    rw [pushNotice_notices _ (by simpa), lastIndex_heard]
    simp
  · rw [execOrder_takes ht h0 hd, takeOrder_accepted hf hs hi hl hr hk ho]
    obtain ⟨hseq, hrec, hrecorder, hcurve, hresult, hload, hext, hpair⟩ := acceptOrder_sets o (heard f s)
    refine (next_iff _ _).2 ⟨by simp [hseq, Seq.acceptOrder, Seq.goto], by simp [hseq, Seq.acceptOrder],
      by simp [hseq, Seq.acceptOrder], by simp [hseq, Seq.acceptOrder], by simp [hseq, Seq.acceptOrder, Seq.goto],
      by simp [hseq, Seq.acceptOrder, lastPosition_heard], ?_, by simp [hrecorder], by simp [hcurve],
      by simp [hresult], by simp [hload, LoadCh.spanReset], by simp [hload, LoadCh.spanReset],
      by simp [hload, LoadCh.spanReset, takeRangeMode_fields], by simp [hload, LoadCh.spanReset, takeRangeMode_fields],
      by simp [hext], by simp [hext], by simp [hpair], by simp, by simp, fun hq => ?_⟩
    · exact ⟨TestRecord.fresh o.testId, by simp [hrec], rfl, rfl, rfl, rfl, rfl, rfl, rfl, rfl⟩
    · simp only [finish_link_fields]
      rw [acceptOrder_notices (by simpa), lastIndex_heard]
      simp
end Sys2Proof.Proofs
end

section
namespace Sys2Proof.Proofs
open Sys2Proof.Machine Sys2Proof.Safety Sys2Proof.Laws

/-! ## RESTART -/

/-- The sequencer of the station's role rests in IDLE. -/
def Rests (s : State) : Prop :=
  (s.isFollow = false → s.seq.state = .idle) ∧ (s.isFollow = true → s.follow.state = .idle)

theorem stopOwn_rests {s : State} (h : Rests s) : stopOwn s = s := by
  cases hf : s.isFollow with
  | false => simp [stopOwn, hf, stopSequencer_stays s (.inr (.inl (h.1 hf)))]
  | true => simp [stopOwn, hf, stopFollow, h.2 hf, SeqState.isFollowActive]

theorem pushNotice_setStop (k : NoticeKind) (x : StopFault) (s : State) :
    pushNotice k (s.setStop x) = (pushNotice k s).setStop x := by
  by_cases hq : s.link.notices.length < noticeCapacity <;> simp only [pushNotice, setStop_fields, hq, if_true, if_false]
    <;> rfl

/-- R149, R153: a cell-stop report at a station at rest with an unlocked record: the record, the notice, the latch, the
line and the STOP frame. -/
theorem report_rests {s : State} {c : FaultCause} (hs : s.start.strapFault = false) (hr : s.stop.record = none)
    (hc : c.isCellStop = true) (h : Rests s) :
    report c s
      = ((pushNotice (.fault c (some (s.lockedPart c))) s).setStop
          { latch := true, driving := true, record := some (s.lockedPart c), further := 0 }).setLink
          { (pushNotice (.fault c (some (s.lockedPart c))) s).link with stop := some c } := by
  have hnotice : faultNotice c s = .fault c (some (s.lockedPart c)) := by simp [faultNotice, StopFault.locked, hr]
  have hrec : recordFault c s = s.setStop { s.stop with record := some (s.lockedPart c), further := 0 } := by
    have hno : (!s.isFollow && s.seq.state.isTest) = false := by
      cases hf : s.isFollow with
      | true => rfl
      | false => simp [h.1 hf, SeqState.isTest]
    simp [recordFault, hr, hno]
  have hlatch : ∀ t, Rests t → t.start.strapFault = false → setLatch t = t.setStop { t.stop with latch := true } := by
    intro t ht hst
    unfold setLatch
    split
    · rename_i hl
      have : t.stop.latch = true := by simpa [hst] using hl
      rw [← this]
      rfl
    · exact stopOwn_rests ht
  unfold report
  simp only [hs, Bool.false_eq_true, if_false, hc, if_true, hnotice, hrec, pushNotice_setStop, stopCell]
  rw [hlatch _ (by simpa [Rests, State.isFollow] using h) (by simpa)]
  rfl

/-- R27, R37, R68, R72, R108, R128, R147, R171: a RESTART before the drive port acts. -/
def restarted (s : State) : State :=
  let s1 := (s.setLink s.link.restart).setStop { s.stop with record := none, further := 0 }
  let s2 := s1.setExt (s1.ext.restart s1.lines.armOpen)
  let s3 := restartMotion (restartSequencer (dropPair s2))
  let s4 := (s3.setRecorder Recorder.reset).setLoad (s3.load.restart (configuredRangeMode s3))
  requestUnits 0 .release (clearLock s4)

theorem restartStation_eq (s : State) : restartStation s = releasePort (restarted s) := rfl

@[simp] theorem linkRestart_fields (l : Link) :
    l.restart.stop = l.stop ∧ l.restart.grant = none ∧ l.restart.level = none ∧ l.restart.status = none
      ∧ l.restart.result = none ∧ l.restart.curve = none ∧ l.restart.notices = [] ∧ l.restart.lost = 0
      ∧ l.restart.errCheck = 0 ∧ l.restart.errLength = 0 ∧ l.restart.errShort = 0
      ∧ l.restart.inFlight.isSome = l.inFlight.isSome := by
  simp [Link.restart, Link.disown]

/-- R128: the frame in flight stays the same frame. -/
theorem grantInFlight_restart (l : Link) : l.restart.grantInFlight = l.grantInFlight := by
  unfold Link.grantInFlight Link.restart Link.disown
  cases h : l.inFlight with
  | none => rfl
  | some i =>
    obtain ⟨frame, epoch, inStep, disowned⟩ := i
    cases frame <;> rfl

@[simp] theorem extRestart_fields (e : Ext) (out : Bool) :
    (e.restart out).idRec = none ∧ (e.restart out).zero = none ∧ (e.restart out).pair = none
      ∧ (e.restart out).offset = 0 := by
  unfold Ext.restart
  split
  case h_5 => split <;> simp
  all_goals simp

theorem extRestart_state (e : Ext) (out : Bool) :
    (e.restart out).state = if e.state.closes then .opening
      else if e.state = .jammed ∧ out = true then .parked else e.state := by
  unfold Ext.restart
  cases e.state <;> cases out <;> simp [ExtState.closes]

theorem extRestart_openTimer {e : Ext} (out : Bool) (h : e.state.closes = true) :
    (e.restart out).openTimer = some 0 := by
  unfold Ext.restart
  cases he : e.state <;> simp_all [ExtState.closes]

theorem closes_extRestart (e : Ext) (out : Bool) : (e.restart out).state.closes = false := by
  rw [extRestart_state]
  cases e.state <;> cases out <;> rfl

theorem openArm_ext_of_open {s : State} (c : SwitchCause) (h : s.ext.state.closes = false) :
    (openArm c s).ext = { s.ext with attachWaits := false } ∧ (openArm c s).link = s.link := by
  unfold openArm
  cases he : s.ext.state <;> simp_all [ExtState.closes]

theorem restartSequencer_test {s : State} (h : s.isFollow = false) :
    (restartSequencer s).seq.state = .idle ∧ (restartSequencer s).seq.order = none
      ∧ (restartSequencer s).seq.phase = 0 ∧ (restartSequencer s).seq.holdCount = 0
      ∧ (restartSequencer s).testRec = none := by
  simp [restartSequencer, h]

theorem restartSequencer_follow {s : State} (h : s.isFollow = true) :
    (restartSequencer s).follow = { state := .idle, share := 0, asked := 0, lossSamples := 0 } := by
  simp [restartSequencer, h]

/-- R27, R108: the sequencer's rest finds an arm that no command has closed. -/
theorem restartSequencer_arm {s : State} (h : s.ext.state.closes = false) :
    (restartSequencer s).ext.state = s.ext.state ∧ (restartSequencer s).ext.openTimer = s.ext.openTimer
      ∧ (s.ext.offset = 0 → (restartSequencer s).ext.offset = 0) ∧ (restartSequencer s).link = s.link := by
  obtain ⟨he, hl⟩ := openArm_ext_of_open .stop h
  cases hf : s.isFollow <;> simp [restartSequencer, hf, enterIdle, he, hl]

@[simp] theorem restartMotion_sets (s : State) :
    (restartMotion s).travel.regValue = 0 ∧ (restartMotion s).travel.regMode = .zero
      ∧ (restartMotion s).travel.window = [] ∧ (restartMotion s).pair.alarmed = false := by
  simp [restartMotion, restRegulator]

@[simp] theorem loadRestart_fields (l : LoadCh) (m : RangeMode) :
    (l.restart m).conv = .idle ∧ (l.restart m).reading = none ∧ (l.restart m).nextIndex = l.nextIndex
      ∧ (l.restart m).tareOffset = l.tareOffset ∧ (l.restart m).range = l.range ∧ (l.restart m).last = l.last
      ∧ (l.restart m).pendingRange = if l.range = .r1 then none else some .r1 := by
  simp [LoadCh.restart, LoadCh.spanReset]

@[simp] theorem restarted_fields (s : State) :
    (restarted s).start = s.start ∧ (restarted s).lines = s.lines
      ∧ (restarted s).stop = { s.stop with record := none, further := 0 }
      ∧ (restarted s).travel.regValue = 0 ∧ (restarted s).travel.regMode = .zero ∧ (restarted s).travel.window = []
      ∧ (restarted s).travel.tripped = s.travel.tripped ∧ (restarted s).travel.counter = s.travel.counter
      ∧ (restarted s).load.conv = .idle ∧ (restarted s).load.reading = none
      ∧ (restarted s).load.nextIndex = s.load.nextIndex ∧ (restarted s).load.tareOffset = s.load.tareOffset
      ∧ (restarted s).load.range = s.load.range ∧ (restarted s).load.last = s.load.last
      ∧ (restarted s).load.pendingRange = (if s.load.range = .r1 then none else some .r1)
      ∧ (restarted s).recorder = Recorder.reset ∧ (restarted s).ext.idRec = none ∧ (restarted s).ext.zero = none
      ∧ (restarted s).ext.pair = none
      ∧ (restarted s).link.stop = s.link.stop ∧ (restarted s).link.level = none
      ∧ (restarted s).link.status = none ∧ (restarted s).link.result = none ∧ (restarted s).link.curve = none
      ∧ (restarted s).link.errCheck = 0 ∧ (restarted s).link.errLength = 0 ∧ (restarted s).link.errShort = 0
      ∧ (restarted s).link.inFlight.isSome = s.link.inFlight.isSome
      ∧ (restarted s).budget.requested = 0 ∧ (restarted s).budget.reason = .release
      ∧ (restarted s).budget.table = s.budget.table ∧ (restarted s).budget.epoch = s.budget.epoch
      ∧ (restarted s).pair.mirror = s.pair.mirror ∧ (restarted s).pair.alarmed = false := by
  simp [restarted]

theorem restarted_arm (s : State) :
    (restarted s).ext.state = (s.ext.restart s.lines.armOpen).state
      ∧ (restarted s).ext.openTimer = (s.ext.restart s.lines.armOpen).openTimer ∧ (restarted s).ext.offset = 0
      ∧ (restarted s).link.notices = [] ∧ (restarted s).link.lost = 0 := by
  obtain ⟨h1, h2, h3, h4⟩ := restartSequencer_arm (s := dropPair (((s.setLink s.link.restart).setStop
    { s.stop with record := none, further := 0 }).setExt (s.ext.restart s.lines.armOpen)))
    (by simpa using closes_extRestart s.ext s.lines.armOpen)
  simp [restarted, h1, h2, h3, h4]

theorem restarted_test {s : State} (h : s.isFollow = false) :
    (restarted s).seq.state = .idle ∧ (restarted s).seq.order = none ∧ (restarted s).seq.phase = 0
      ∧ (restarted s).seq.holdCount = 0 ∧ (restarted s).testRec = none := by
  have hr := restartSequencer_test (s := dropPair (((s.setLink s.link.restart).setStop
    { s.stop with record := none, further := 0 }).setExt (s.ext.restart s.lines.armOpen)))
    (by simpa [State.isFollow] using h)
  simp [restarted, hr]

theorem restarted_follow {s : State} (h : s.isFollow = true) :
    (restarted s).follow = { state := .idle, share := 0, asked := 0, lossSamples := 0 } := by
  have hr := restartSequencer_follow (s := dropPair (((s.setLink s.link.restart).setStop
    { s.stop with record := none, further := 0 }).setExt (s.ext.restart s.lines.armOpen)))
    (by simpa [State.isFollow] using h)
  simp [restarted, hr]

theorem restarted_rests (s : State) : Rests (restarted s) := by
  have hf : (restarted s).isFollow = s.isFollow := by simp [State.isFollow]
  exact ⟨fun h => (restarted_test (hf ▸ h)).1, fun h => by rw [restarted_follow (hf ▸ h)]⟩

/-- R128, R147: the units of the station are given back. -/
theorem restarted_grant {s : State} (hg : s.link.grantInFlight = none) (hc : s.start.config ≠ none)
    (he : s.ownEntry ≠ 0) :
    (restarted s).link.grant = some { units := 0, reason := .release, raise := false } := by
  have hflight : ∀ t : State, t.link.inFlight = s.link.restart.inFlight → t.link.grantInFlight = none := by
    intro t ht
    have he : t.link.grantInFlight = s.link.restart.grantInFlight := by simp only [Link.grantInFlight, ht]
    rw [he, grantInFlight_restart, hg]
  have hconf : ∀ t : State, t.start = s.start → t.configured = true := by
    intro t ht
    simpa [State.configured, ht, Option.isSome_iff_ne_none] using hc
  have hown : ∀ t : State, t.start = s.start → t.budget.table = s.budget.table → t.ownEntry = s.ownEntry := by
    intro t h1 h2
    simp only [State.ownEntry, Budget.entry, h1, h2]
  dsimp only [restarted, requestUnits]
  rw [judgeRequest_grant _ (hflight _ (by simp)), hconf _ (by simp), hown _ (by simp) (by simp)]
  simp [Ne.symm he, Nat.pos_of_ne_zero he]

/-- R51: what the port answers to the release: nothing, ACTIVE again, or the fault anew. -/
theorem releasePort_restarted (s : State) (hs : s.start.strapFault = false) :
    releasePort (restarted s) =
      if s.travel.tripped = true then
        (if s.lines.ampFault = true then
          ((pushNotice (.fault .driveFault (some ((restarted s).lockedPart .driveFault))) (restarted s)).setStop
            { latch := true, driving := true, record := some ((restarted s).lockedPart .driveFault), further := 0 }).setLink
            { (pushNotice (.fault .driveFault (some ((restarted s).lockedPart .driveFault))) (restarted s)).link with
              stop := some .driveFault }
        else (restarted s).setTravel { (restarted s).travel with tripped := false, applied := 0 })
      else restarted s := by
  unfold releasePort
  simp only [restarted_fields]
  rw [report_rests (by simpa) (by simp) rfl (restarted_rests s)]

/-- The blocks that the port's answer leaves alone. -/
theorem releasePort_restarted_keeps {s : State} (hs : s.start.strapFault = false) :
    (releasePort (restarted s)).seq = (restarted s).seq ∧ (releasePort (restarted s)).testRec = (restarted s).testRec
      ∧ (releasePort (restarted s)).follow = (restarted s).follow ∧ (releasePort (restarted s)).load = (restarted s).load
      ∧ (releasePort (restarted s)).ext = (restarted s).ext ∧ (releasePort (restarted s)).budget = (restarted s).budget
      ∧ (releasePort (restarted s)).recorder = (restarted s).recorder
      ∧ (releasePort (restarted s)).pair = (restarted s).pair
      ∧ (releasePort (restarted s)).link.result = (restarted s).link.result
      ∧ (releasePort (restarted s)).link.curve = (restarted s).link.curve
      ∧ (releasePort (restarted s)).link.grant = (restarted s).link.grant
      ∧ (releasePort (restarted s)).link.lost = (restarted s).link.lost := by
  have hq : (restarted s).link.notices.length < noticeCapacity := by simp [restarted_arm, noticeCapacity]
  rw [releasePort_restarted s hs]
  split_ifs <;> simp [pushNotice, hq]

theorem releasePort_active {s : State} (hs : s.start.strapFault = false)
    (h : s.travel.tripped = false ∨ s.lines.ampFault = false) :
    (releasePort (restarted s)).stop = (restarted s).stop ∧ (releasePort (restarted s)).travel.tripped = false
      ∧ (releasePort (restarted s)).link = (restarted s).link
      ∧ (s.travel.tripped = true → (releasePort (restarted s)).travel.applied = 0) := by
  rw [releasePort_restarted s hs]
  by_cases ht : s.travel.tripped = true
  · have ha : s.lines.ampFault = false := by simpa [ht] using h
    simp [ht, ha]
  · simp [ht]

theorem releasePort_tripped {s : State} (hs : s.start.strapFault = false) (ht : s.travel.tripped = true)
    (ha : s.lines.ampFault = true) :
    (releasePort (restarted s)).stop
        = { latch := true, driving := true, record := some ((restarted s).lockedPart .driveFault), further := 0 }
      ∧ (releasePort (restarted s)).travel.tripped = true
      ∧ (releasePort (restarted s)).link.stop = some .driveFault
      ∧ (releasePort (restarted s)).link.notices
          = [{ kind := .fault .driveFault (some ((restarted s).lockedPart .driveFault)), index := s.lastIndex }] := by
  have hn := pushNotice_notices (s := restarted s) (.fault .driveFault (some ((restarted s).lockedPart .driveFault)))
    (by simp [restarted_arm])
  rw [releasePort_restarted s hs]
  simp [ht, ha, hn, restarted_arm, State.lastIndex]

theorem commands_heard (f : RxFrame) (lines : Lines) (s : State) :
    Commands f (heard f (s.setLines lines)) ↔ Commands f s := by
  simp [Commands]

theorem restartAct_commands {f : RxFrame} {s : State} (hc : Commands f s) (hk : s.start.config ≠ none) :
    restartAct f s = restartStation s := by
  obtain ⟨h0, hd, hp⟩ := hc
  simp [restartAct, toOwn, h0, hd, hp, State.configured, Option.isSome_iff_ne_none, hk]

theorem restartAct_ignored {f : RxFrame} {s : State} (h : s.start.config = none ∨ ¬Commands f s) :
    restartAct f s = s := by
  have hn : ¬((toOwn f s && f.payload.isEmpty && s.configured) = true) := by
    simp only [toOwn, Bool.and_eq_true, beq_iff_eq, List.isEmpty_iff, State.configured, Option.isSome_iff_ne_none]
    rintro ⟨⟨⟨h0, hd⟩, hp⟩, hk⟩
    exact h.elim hk fun hc => hc ⟨h0, hd, hp⟩
  simp [restartAct, hn]

/-- The state in which the content of a RESTART or CLEAR frame is acted on, with the lines that it reports. -/
theorem execRestart_takes {f : RxFrame} {lines : Lines} {s : State} (ht : Takes f s) :
    exec (.restart f lines) s = .next (finish s (restartAct f (heard f (s.setLines lines)))) := by
  show Host.Outcome.next (finish s (receive f (restartAct f) (s.setLines lines))) = _
  rw [receive_takes (s := s.setLines lines) _ ht]

theorem applied_finish_of_zero (old : State) {s : State} (h : s.travel.applied = 0) :
    (finish old s).travel.applied = 0 := by
  rw [applied_finish, h]
  simp

/-- Settles O59: the station rests (`restarted`) before the drive port answers, and the answer leaves the rest alone. -/
theorem restartReturnsToIdle : Obligations.RestartReturnsToIdle := by
  unfold Obligations.RestartReturnsToIdle
  refine ⟨fun f lines s ht hc hk => ?_, fun f lines s ht hn => ?_⟩
  · have hs : (heard f (s.setLines lines)).start.strapFault = false := by simpa using ht.1
    obtain ⟨hseq, hrec, hfollow, -, hext, hbudget, hrecorder, -, hresult, hcurve, hgrant, hlost⟩ :=
      releasePort_restarted_keeps hs
    obtain ⟨harm, htimer, hoffset, hnotices, hlost0⟩ := restarted_arm (heard f (s.setLines lines))
    rw [execRestart_takes ht, restartAct_commands ((commands_heard f lines s).2 hc) (by simpa), restartStation_eq]
    refine (next_iff _ _).2 ⟨fun h => ?_, fun h ha => ?_, fun h => ?_, fun hf => ?_, fun hf => ?_, by simp, by simp,
      by simp, by simp, by simp, by simp, by simp, by simp, by simp, by simp [hrecorder], by simp, by simp, by simp,
      by simp [hext, hoffset], fun h => ?_, fun h => ?_, by simp, by simp [finish_status], by simp [hresult],
      by simp [hcurve], by simp [hlost, hlost0], by simp, by simp, by simp, by simp, by simp [hbudget],
      by simp [hbudget], by simp, by simp, fun hg he => ?_, by simp, by simp, by simp, by simp⟩
    · obtain ⟨hstop, htrip, hlink, -⟩ := releasePort_active hs (by simpa using h)
      simp [hstop, htrip, hlink, hnotices]
    · obtain ⟨hstop, htrip, hline, hn⟩ := releasePort_tripped hs (by simpa using h) (by simpa using ha)
      have hforced : forced (releasePort (restarted (heard f (s.setLines lines)))) = true := by simp [forced, htrip]
      refine ⟨⟨by simp [htrip], ?_, by simp [hstop], by simp [hstop], by simp [hstop], by simp [hline],
        (restarted (heard f (s.setLines lines))).lockedPart .driveFault, by simp only [finish_keeps, hstop], rfl⟩,
        (restarted (heard f (s.setLines lines))).lockedPart .driveFault, by simp only [finish_keeps, hstop], ?_⟩
      · rw [applied_finish, if_pos hforced]
      · simp [hn, State.lastIndex]
    · by_cases ha : lines.ampFault = true
      · obtain ⟨-, htrip, -⟩ := releasePort_tripped hs (by simpa using h) (by simpa using ha)
        rw [applied_finish, if_pos (by simp [forced, htrip])]
      · obtain ⟨-, -, -, h0⟩ := releasePort_active hs (.inr (by simpa using ha))
        exact applied_finish_of_zero _ (h0 (by simpa using h))
    · have hr := restarted_test (s := heard f (s.setLines lines)) (by simpa [State.isFollow] using hf)
      simp [hseq, hrec, hr]
    · have hr := restarted_follow (s := heard f (s.setLines lines)) (by simpa [State.isFollow] using hf)
      simp [hfollow, hr]
    · simp [hext, harm, extRestart_state, h, ExtState.closes]
    · have hcl : s.ext.state.closes = true := by rcases h with h | h <;> simp [h, ExtState.closes]
      have htm := extRestart_openTimer lines.armOpen hcl
      simp [hext, harm, htimer, extRestart_state, hcl, htm]
    · have hgr := restarted_grant (s := heard f (s.setLines lines)) (by simpa [Link.grantInFlight] using hg)
        (by simpa) (by simpa [State.ownEntry, Budget.entry] using he)
      simp [hgrant, hgr]
  · rw [execRestart_takes ht, restartAct_ignored (by rw [commands_heard]; simpa using hn)]
    exact (next_iff _ _).2 ⟨by simp, headerOnly_heard f lines s, by simp, by simp⟩
end Sys2Proof.Proofs
end

section
namespace Sys2Proof.Proofs
open Sys2Proof.Machine Sys2Proof.Safety Sys2Proof.Laws

/-! ## The conversion end hands the sample to the sequencer -/

theorem takeGripsUnreported_setFree (n : Nat) (s : State) :
    takeGripsUnreported (s.setFree n) = (takeGripsUnreported s).setFree n := by
  unfold takeGripsUnreported takeGripsLow
  simp only [setFree_fields]
  split_ifs <;> rfl

/-- R101: the delivery is the handling, with the examination on either side of it where the sample has extensometer
strain. -/
theorem handledIn_testSample (checked ended : Bool) (x : ExtView) (r : SampleRec) (n : Nat) (s : State) :
    HandledIn checked ended x r s (testSample checked x r ended (s.setFree n)) := by
  refine ⟨n, (checkFirst checked r (s.setFree n)).free + 1, ?_⟩
  cases he : r.ext with
  | false => exact .inl ⟨rfl, by simp [testSample, deliverSample, he]⟩
  | true =>
    right
    refine ⟨rfl, ?_⟩
    cases hb : (checkFirst checked r (s.setFree n)).draw.1 with
    | true =>
      left
      simp only [testSample, deliverSample, he, if_true, handleBoth, hb]
      rfl
    | false =>
      right
      simp only [testSample, deliverSample, he, if_true, handleBoth, hb, Bool.false_eq_true, if_false]
      rfl

theorem drawCheck_of_unsuspected {s : State} (h : partnerSuspect s = false) : (drawCheck s).1 = false := by
  simp [drawCheck, h]

/-- R5, R74: what a test station does with the sample that it completes. -/
theorem completeSample_handles {s : State} (reading : Int) (strain : Option Int) (hf : s.isFollow = false) :
    let v := loadView reading strain s
    ∃ (checked : Bool) (h : State),
      HandledIn checked (decide (v.yieldStep = .limit)) (viewOf (strain.getD 0) s) v.record
          (takeGripsUnreported (takenSample v s)) h
        ∧ (partnerSuspect (takenSample v s) = false → checked = false)
        ∧ completeSample reading strain s = moveSample checked (overloadFires s v.gross v.reading) v.record h := by
  intro v
  obtain ⟨n, hn⟩ := drawCheck_draws (takenSample v s)
  have hstart : (takenSample v s).start = s.start := by simp [takenSample]
  have hf' : ((takenSample v s).setFree n).isFollow = false := by
    simpa [State.isFollow, hstart] using hf
  refine ⟨(drawCheck (takenSample v s)).1, _, handledIn_testSample _ _ _ _ n _, drawCheck_of_unsuspected, ?_⟩
  rw [← takeGripsUnreported_setFree, ← hn]
  have hhand : ∀ c x r e t, t.isFollow = false → handSample c x r e t = testSample c x r e (takeGripsUnreported t) := by
    intro c x r e t ht
    simp [handSample, ht]
  rw [← hhand _ _ _ _ _ (hn ▸ hf')]
  rfl

theorem loadConversionEnd_completes {s : State} (reading : Int) (h : LoadEnds s) :
    loadConversionEnd reading s = completeSample reading none s := by
  unfold loadConversionEnd
  rw [if_pos h.1, h.2]
  rfl

theorem strainConversionEnd_completes {s : State} {l : Int} (reading : Int) (h : StrainEnds s)
    (hl : s.load.reading = some l) :
    strainConversionEnd reading s
      = completeSample l (some (clampReading reading)) (countSettling (clampReading reading) s) := by
  unfold strainConversionEnd
  rw [if_pos h.1]
  simp only [hl]

/-- R154: on a sample without faults the regulator alone acts. -/
theorem moveSample_of_no_faults {checked : Bool} {r : SampleRec} {s : State}
    (h : sampleFaults checked false s (demandRequest s) r = []) (he : entryFaults s = []) :
    moveSample checked false r s = regulateSample (demandRequest s) r (rememberSkew s) := by
  have hr : sampleReports checked false s (demandRequest s) r = ([], s) := by
    simp [sampleReports, h, he, drawOrder, overloadFault]
  simp [moveSample, hr, he, reportEarly, reportAll]

theorem actsOnSample_of_code {q : SeqState} (h : q.code ≤ 4 ∨ 10 ≤ q.code) : q.actsOnSample = false := by
  cases q <;> simp_all [SeqState.code, SeqState.actsOnSample]

/-! ## CLAIMING and HELD -/

/-- R11: what the begin of a phase leaves of the sequencer. -/
theorem beginPhase_seq (r : SampleRec) (s : State) :
    (beginPhase r s).seq.phase = s.seq.phase ∧ (beginPhase r s).seq.testZero = s.seq.testZero
      ∧ ((beginPhase r s).seq.state = s.seq.state ∨ (beginPhase r s).seq.state = .held) := by
  cases h : s.curPhase with
  | none => simp [beginPhase, h]
  | some p =>
    rw [beginPhase_of_phase r h]
    refine ⟨by simp, by simp, ?_⟩
    cases hc : (holdCauses (phaseStarted r p s)).any with
    | false => simp [holdOrAdvance_advances hc]
    | true => simp [holdOrAdvance_holds hc]

theorem beginPhase_begun {s : State} {p : Phase} (r : SampleRec) (h : s.curPhase = some p) :
    (beginPhase r s).seq.phaseBegun = true := by
  rw [beginPhase_of_phase r h]
  simp

@[simp] theorem enterRunning_sets (s : State) :
    (enterRunning s).seq = { s.seq with state := .running, stateSamples := 0, runSamples := 1, gripsCount := 0,
                                        gripsLowWaits := false, due := none }
      ∧ (enterRunning s).recorder.runBegun = true := by
  simp [enterRunning, gotoState, Seq.goto]

theorem startPhaseOne_sets (r : SampleRec) (s : State) :
    (startPhaseOne r s).seq.phase = 1 ∧ (startPhaseOne r s).seq.testZero = r.position
      ∧ (startPhaseOne r s).load.spanOpen = true ∧ (startPhaseOne r s).recorder.runBegun = true
      ∧ ((startPhaseOne r s).seq.state = .running ∨ (startPhaseOne r s).seq.state = .held) := by
  obtain ⟨hphase, hzero, hstate⟩ := beginPhase_seq r
    (openSpan ((enterRunning s).setSeq { (enterRunning s).seq with phase := 1, testZero := r.position }))
  refine ⟨hphase.trans (by simp), hzero.trans (by simp), by simp [startPhaseOne, openSpan], by simp [startPhaseOne],
    hstate.imp_left (fun h => h.trans (by simp))⟩

theorem heldSample_stays {s : State} {r : SampleRec} (hb : r.brk = false) (hc : (holdCauses s).any = true) :
    heldSample r s = if s.holdTimeout ≤ s.elapsed then s.setSeq { s.seq with due := some .hold } else s := by
  simp [heldSample, hb, hc]

theorem heldSample_resumes {s : State} {r : SampleRec} (hb : r.brk = false) (hc : (holdCauses s).any = false) :
    heldSample r s = if s.seq.phaseBegun then enterRunning (pushNotice .holdEnded s)
      else beginPhase r (enterRunning (pushNotice .holdEnded s)) := by
  simp [heldSample, hb, hc, resume]

theorem heldSample_breaks {s : State} {r : SampleRec} (hb : r.brk = true) (hs : s.travel.standstill = false) :
    heldSample r s = enterEnding .broken .testEnd s := by
  rw [heldSample, if_pos hb, endOnSample_moving _ r hs]

@[simp] theorem enterRunning_link (s : State) : (enterRunning s).link = s.link := by
  simp [enterRunning]

/-! ## RUNNING -/

theorem runningSample_breaks {s : State} {r : SampleRec} (ended : Bool) (hb : r.brk = true)
    (hs : s.travel.standstill = false) : runningSample r ended s = enterEnding .broken .testEnd s := by
  rw [runningSample, if_pos hb, endOnSample_moving _ r hs]

theorem runningSample_ends {s : State} {r : SampleRec} {ended : Bool} (hb : r.brk = false)
    (he : phaseEnds s r ended = true) : runningSample r ended s = endPhase r s := by
  rw [runningSample, if_neg (by simp [hb]), if_pos he]

theorem runningSample_goes_on {s : State} {r : SampleRec} {ended : Bool} (hb : r.brk = false)
    (he : phaseEnds s r ended = false) : runningSample r ended s = holdOrAdvance s := by
  rw [runningSample, if_neg (by simp [hb]), if_neg (by simp [he])]

/-- R14, R136: the state in which the next phase is current and its share requested. -/
def phaseMade (k : Nat) (p : Phase) (s : State) : State := requestUnits p.share .phase (makeCurrent k s)

theorem nextPhase_some {s : State} {o : Order} {p : Phase} (r : SampleRec) (ho : s.seq.order = some o)
    (hp : o.phaseAt (s.seq.phase + 1) = some p) :
    nextPhase r s =
      if s.holdsShare p.share then beginPhase r (enterRunning (phaseMade (s.seq.phase + 1) p s))
      else enterHeld (holdCauses (phaseMade (s.seq.phase + 1) p s)) (phaseMade (s.seq.phase + 1) p s) := by
  simp only [nextPhase, ho, Option.bind_some, hp]
  rfl

@[simp] theorem phaseMade_fields (k : Nat) (p : Phase) (s : State) :
    (phaseMade k p s).seq = { s.seq with phase := k, phaseBegun := false }
      ∧ (phaseMade k p s).budget.requested = p.share ∧ (phaseMade k p s).budget.reason = .phase
      ∧ (phaseMade k p s).ext = s.ext ∧ (phaseMade k p s).testRec = s.testRec := by
  simp [phaseMade, makeCurrent]

/-- R14: the phase that follows is not ENDING, so that the phase end goes no further. -/
theorem endPhase_some {s : State} {o : Order} {p : Phase} (r : SampleRec)
    (ho : s.seq.order = some o) (hp : o.phaseAt (s.seq.phase + 1) = some p) :
    endPhase r s = nextPhase r (removalMade s) := by
  have hne : (nextPhase r (removalMade s)).seq.state ≠ .ending := by
    rw [nextPhase_some r (s := removalMade s) (by simpa) (by simpa)]
    split
    · obtain ⟨-, -, h | h⟩ := beginPhase_seq r (enterRunning (phaseMade ((removalMade s).seq.phase + 1) p (removalMade s)))
        <;> rw [h]
        <;> simp
    · simp
  rw [endPhase_eq, if_neg hne]

/-- R136: a request of the entry held withdraws the pending GRANT while none is in flight. -/
theorem requestUnits_own {s : State} (reason : GrantReason) (h : s.link.grantInFlight = none) :
    (requestUnits s.ownEntry reason s).link.grant = none ∧ (requestUnits s.ownEntry reason s).budget.lock = false := by
  have hown : (s.setBudget { s.budget with requested := s.ownEntry, reason }).ownEntry = s.ownEntry := rfl
  simp [requestUnits, judgeRequest, h, hown, dropGrant]

theorem phaseMade_own {k : Nat} {p : Phase} {s : State} (hp : p.share = s.ownEntry)
    (h : s.link.grantInFlight = none) :
    (phaseMade k p s).link.grant = none ∧ (phaseMade k p s).budget.lock = false := by
  have hown : s.ownEntry = (makeCurrent k s).ownEntry := rfl
  rw [phaseMade, hp, hown]
  exact requestUnits_own .phase h

/-- R11: the begin of a phase requests nothing. -/
theorem beginPhase_grant (r : SampleRec) (s : State) :
    (beginPhase r s).link.grant = s.link.grant ∧ (beginPhase r s).budget = s.budget := by
  cases h : s.curPhase with
  | none => simp [beginPhase, h]
  | some p =>
    have hlink : (phaseStarted r p s).link.grant = s.link.grant := by
      dsimp only [phaseStarted]
      split <;> simp
    rw [beginPhase_of_phase r h]
    cases hc : (holdCauses (phaseStarted r p s)).any with
    | false => simp [holdOrAdvance_advances hc, hlink]
    | true => simp [holdOrAdvance_holds hc, hlink]

theorem grantInFlight_removalMade (s : State) :
    (removalMade s).link.grantInFlight = s.link.grantInFlight := by
  have h : (removalMade s).link.inFlight = s.link.inFlight := by
    unfold removalMade
    split <;> simp
  simp only [Link.grantInFlight, h]

/-! ## The removal at a phase end stands -/

/-- R104, R106: the arm has been removed, with this pair in the test record. -/
def Removed (e x : Int) (t : State) : Prop :=
  t.ext.state = .opening ∧ ∀ w, t.testRec = some w → w.switchPart = some (.removal, e, x)

theorem removed_congr {e x : Int} {s t : State} (hext : t.ext = s.ext) (hrec : t.testRec = s.testRec)
    (h : Removed e x s) : Removed e x t := by
  simpa [Removed, hext, hrec] using h

theorem removed_writeRecord {e x : Int} {s t : State} {g : TestRecord → TestRecord}
    (hg : ∀ w, (g w).switchPart = w.switchPart) (hext : t.ext = s.ext) (hrec : t.testRec = s.testRec.map g)
    (h : Removed e x s) : Removed e x t := by
  refine ⟨by rw [hext, h.1], fun w hw => ?_⟩
  rw [hrec, Option.map_eq_some_iff] at hw
  obtain ⟨w', hw', rfl⟩ := hw
  rw [hg, h.2 w' hw']

theorem removed_openArm {e x : Int} {s : State} (c : SwitchCause) (h : Removed e x s) : Removed e x (openArm c s) := by
  have hm : s.ext.state ≠ .measuring := by simp [h.1]
  refine ⟨by simp [openArm_state, h.1, ExtState.closes], ?_⟩
  rw [(openArm_link c s hm).2.1]
  exact h.2

theorem removed_removeArm {s : State} {e x : Int} (hm : s.ext.state = .measuring) (hp : s.ext.pair = some (e, x)) :
    Removed e x (removeArm s) := by
  refine ⟨by simp [removeArm_state, hm], fun w hw => ?_⟩
  rw [removeArm, if_pos (by simp [hm]), switchover_testRec_of_pair _ hp, Option.map_eq_some_iff] at hw
  obtain ⟨w', -, rfl⟩ := hw
  rfl

theorem removed_endTest {e x : Int} {s : State} (k : TestOutcome) (h : Removed e x s) : Removed e x (endTest k s) := by
  cases hr : s.testRec with
  | none => exact removed_congr (by simp) (by simp [endTest, closeCollection, writeRecord, hr]) h
  | some w =>
    refine ⟨by simp [h.1], fun w' hw' => ?_⟩
    rw [(endTest_writes k hr).1, Option.some_inj] at hw'
    rw [← hw']
    exact h.2 w hr

/-- R19, R21, R22: the arm of a removal stays as it is where a state of the test's end is entered. -/
theorem removed_entered {e x : Int} {s t : State} (q : SeqState) (c : SwitchCause) (h : Removed e x s)
    (hext : t.ext = (openArm c (gotoState q s)).ext) (hrec : t.testRec = (openArm c (gotoState q s)).testRec) :
    Removed e x t :=
  removed_congr hext hrec (removed_openArm c (removed_congr (s := s) (by simp) (by simp) h))

theorem removed_enterDone {e x : Int} {s : State} (h : Removed e x s) : Removed e x (enterDone s) :=
  removed_endTest _ (removed_entered .done .testEnd h (by simp) (by simp))

theorem removed_enterEnding {e x : Int} {s : State} (k : TestOutcome) (c : SwitchCause) (h : Removed e x s) :
    Removed e x (enterEnding k c s) := by
  have hrec : Removed e x (writeRecord (fun t => { t with outcome := some k, endPhase := s.seq.phase }) s) :=
    removed_writeRecord (g := fun t => { t with outcome := some k, endPhase := s.seq.phase }) (fun _ => rfl)
      (by simp) (by simp [writeRecord]) h
  exact removed_entered .ending c hrec (by simp [enterEnding]) (by simp [enterEnding])

theorem removed_returnStep {e x : Int} {s : State} (r : SampleRec) (h : Removed e x s) :
    Removed e x (returnStep r s) := by
  unfold returnStep
  split
  · exact h
  · split_ifs
    · exact removed_enterDone h
    · exact h
    · exact removed_congr (by simp) (by simp) h
    · exact h

theorem removed_endingStep {e x : Int} {s : State} (r : SampleRec) (h : Removed e x s) :
    Removed e x (endingStep r s) := by
  unfold endingStep
  split_ifs
  · exact removed_returnStep r (removed_entered .returning .testEnd h (by simp) (by simp))
  · exact removed_enterDone h
  · exact removed_congr (by simp) (by simp) h
  · exact h

theorem removed_enterHeld {e x : Int} {s : State} (c : HoldCauses) (h : Removed e x s) : Removed e x (enterHeld c s) :=
  removed_writeRecord (g := fun w => { w with holdCount := s.seq.holdCount + 1 }) (fun _ => rfl) (by simp)
    (enterHeld_testRec c s) h

theorem removed_holdOrAdvance {e x : Int} {s : State} (h : Removed e x s) : Removed e x (holdOrAdvance s) := by
  unfold holdOrAdvance
  split
  · exact removed_enterHeld _ h
  · exact removed_congr (by simp) (by simp) h

theorem removed_beginPhase {e x : Int} {s : State} (r : SampleRec) (h : Removed e x s) :
    Removed e x (beginPhase r s) := by
  cases hp : s.curPhase with
  | none => simpa [beginPhase, hp] using h
  | some p =>
    rw [beginPhase_of_phase r hp]
    refine removed_holdOrAdvance ?_
    dsimp only [phaseStarted]
    split
    · rw [removeArm_stays (by simp [h.1])]
      exact removed_congr (by simp) (by simp) h
    · exact removed_congr (by simp) (by simp) h

theorem removed_nextPhase {e x : Int} {s : State} (r : SampleRec) (h : Removed e x s) : Removed e x (nextPhase r s) := by
  unfold nextPhase
  dsimp only
  split
  · exact removed_enterEnding _ _ h
  · split
    · exact removed_beginPhase r (removed_congr (by simp) (by simp) h)
    · exact removed_enterHeld _ (removed_congr (by simp) (by simp) h)

theorem removed_endPhase {s : State} {o : Order} {p : ExtPlan} {e x : Int} (r : SampleRec)
    (ho : s.seq.order = some o) (hp : o.plan = some p) (hr : p.removal = .atPhaseEnd) (hv : p.value = s.seq.phase)
    (hm : s.ext.state = .measuring) (hpair : s.ext.pair = some (e, x)) : Removed e x (endPhase r s) := by
  have hat : removesAtEnd s = true := by simp [removesAtEnd, State.extPlan, ho, hp, hr, hv]
  have hrem : Removed e x (removalMade s) := by
    rw [removalMade, if_pos hat]
    exact removed_removeArm hm hpair
  have hnext := removed_nextPhase r hrem
  rw [endPhase_eq]
  split_ifs
  · exact removed_endingStep r hnext
  · exact hnext
  · exact hnext

/-! ## The obligation -/

theorem conversionEnd_handles :
    (∀ (reading : Int) (s : State), TestStation s → LoadEnds s →
        let v := loadView reading none s
        ∃ (checked : Bool) (h : State),
          HandledIn checked (decide (v.yieldStep = .limit)) (viewOf 0 s) v.record
              (takeGripsUnreported (takenSample v s)) h
            ∧ (partnerSuspect (takenSample v s) = false → checked = false)
            ∧ exec (.loadConversionEnd reading) s
                = .next (finish s (moveSample checked (overloadFires s v.gross v.reading) v.record h)))
      ∧ ∀ (reading l : Int) (s : State), TestStation s → StrainEnds s → s.load.reading = some l →
        let y := max (-1100000) (min 1100000 reading)
        let v := loadView l (some y) (countSettling y s)
        ∃ (checked : Bool) (h : State),
          HandledIn checked (decide (v.yieldStep = .limit)) (viewOf y s) v.record
              (takeGripsUnreported (takenSample v (countSettling y s))) h
            ∧ (partnerSuspect (takenSample v (countSettling y s)) = false → checked = false)
            ∧ exec (.strainConversionEnd reading) s
                = .next (finish s (moveSample checked (overloadFires s v.gross v.reading) v.record h)) := by
  refine ⟨fun reading s hs hl => ?_, fun reading l s hs hl hr => ?_⟩
  · obtain ⟨checked, h, hh, hc, he⟩ := completeSample_handles reading none (isFollow_of_testStation hs)
    refine ⟨checked, h, hh, hc, ?_⟩
    show Host.Outcome.next (finish s (loadConversionEnd reading s)) = _
    rw [loadConversionEnd_completes reading hl, he]
  · intro y v
    have hf : (countSettling y s).isFollow = false := by simpa [State.isFollow] using isFollow_of_testStation hs
    obtain ⟨checked, h, hh, hc, he⟩ := completeSample_handles l (some y) hf
    have hview : viewOf ((some y).getD 0) (countSettling y s) = viewOf y s := by simp [viewOf]
    have hover : overloadFires (countSettling y s) v.gross v.reading = overloadFires s v.gross v.reading := by
      have hload : (countSettling y s).load = s.load := by simp
      have hstart : (countSettling y s).start = s.start := by simp
      unfold overloadFires inOverload State.configured State.loadCapacity
      rw [hload, hstart]
    rw [hview] at hh
    refine ⟨checked, h, hh, hc, ?_⟩
    show Host.Outcome.next (finish s (strainConversionEnd reading s)) = _
    rw [strainConversionEnd_completes reading hl hr, ← hover]
    exact congrArg _ (congrArg _ he)

/-- Settles O29, by the delivery of the completed sample and one lemma for each way a CLAIMING, HELD or RUNNING sample
goes. -/
theorem sequencerHandlesSample : Obligations.SequencerHandlesSample := by
  unfold Obligations.SequencerHandlesSample
  refine ⟨⟨conversionEnd_handles.1, conversionEnd_handles.2, fun checked r s => moveSample_of_no_faults,
    fun r ended s => ⟨handleSample_claiming r ended, handleSample_running r ended, handleSample_held r ended,
      fun h => handleSample_waiting r ended (actsOnSample_of_code h)⟩⟩,
    ⟨fun r s => ⟨fun h => ?_, fun h => ?_⟩, fun r s hs => ⟨fun hb hc => heldSample_stays hb hc, fun hb hc hp => ?_,
      fun hb hc hp => ?_, fun hb hst => ?_⟩⟩,
    fun r ended s o hs ho => ⟨fun hb hst => ?_, fun hb he hn hst => ?_, fun p hb he hp hh => ?_,
      fun p hb he hp hh => ?_, fun p e x hb he hp hrm hv hm hpair => ?_, fun hb he hc => ?_, fun hb he hc => ?_⟩⟩
  · rw [claimingSample, if_pos h]
    exact startPhaseOne_sets r s
  · rw [claimingSample, if_neg (by simp [h])]
    rfl
  · rw [heldSample_resumes hb hc, if_pos hp]
    simp
  · rw [heldSample_resumes hb hc, if_neg (by simp [hp])]
    refine ⟨_, rfl, by simp, by simp, by simp, by simp, by simp, fun hq => ?_⟩
    simp [pushNotice_notices _ hq]
  · rw [heldSample_breaks hb hst]
    exact ⟨by simp, by simp, enterEnding_outcome _ _ _⟩
  · rw [runningSample_breaks ended hb hst]
    exact ⟨by simp, by simp, enterEnding_outcome _ _ _⟩
  · rw [runningSample_ends hb he, endPhase_last r ho hn, endOnSample_moving _ r (by simpa)]
    exact ⟨by simp, by simp, enterEnding_outcome _ _ _⟩
  · have hh' : (removalMade s).holdsShare p.share = true := by
      rwa [holdsShare_congr (s := s) (by simp) (by simp)]
    have hcur : (enterRunning (phaseMade ((removalMade s).seq.phase + 1) p (removalMade s))).curPhase = some p := by
      simp [State.curPhase, ho, hp]
    rw [runningSample_ends hb he, endPhase_some r ho hp, nextPhase_some r (by simpa) (by simpa), if_pos hh']
    obtain ⟨hphase, -, hstate⟩ := beginPhase_seq r
      (enterRunning (phaseMade ((removalMade s).seq.phase + 1) p (removalMade s)))
    refine ⟨hphase.trans (by simp), beginPhase_begun r hcur, by simpa using hstate, by simp, by simp, fun hown hfl => ?_⟩
    obtain ⟨hgrant, hbudget⟩ := beginPhase_grant r
      (enterRunning (phaseMade ((removalMade s).seq.phase + 1) p (removalMade s)))
    rw [hgrant, hbudget, enterRunning_link]
    exact phaseMade_own (by simpa [State.ownEntry] using hown) (by rw [grantInFlight_removalMade, hfl])
  · have hh' : ¬(removalMade s).holdsShare p.share = true := by
      rw [holdsShare_congr (s := s) (by simp) (by simp)]
      simp [hh]
    rw [runningSample_ends hb he, endPhase_some r ho hp, nextPhase_some r (by simpa) (by simpa), if_neg hh']
    simp
  · rw [runningSample_ends hb he]
    exact removed_endPhase r ho hp hrm hv hm hpair
  · rw [runningSample_goes_on hb he, holdOrAdvance_holds hc]
    refine ⟨by simp, by simp, by simp, by simp, by simp, fun w hw => ?_, fun hq => enterHeld_notices hq⟩
    rw [enterHeld_testRec, Option.map_eq_some_iff] at hw
    obtain ⟨w', -, rfl⟩ := hw
    rfl
  · rw [runningSample_goes_on hb he, holdOrAdvance_advances hc]
    rfl
end Sys2Proof.Proofs
end

section
namespace Sys2Proof.Proofs
open Sys2Proof.Machine Sys2Proof.Safety Sys2Proof.Laws

/-! ## The tare -/

theorem tareStable_iff {loads : List Int} (capacity : Nat) (h : loads ≠ []) :
    tareStable capacity loads = true ↔ ∀ x ∈ loads, ∀ y ∈ loads, (x - y) * 1000 ≤ 2 * capacity := by
  obtain ⟨hi, hhi⟩ := Option.isSome_iff_exists.1 (List.isSome_max?_of_ne_nil h)
  obtain ⟨lo, hlo⟩ := Option.isSome_iff_exists.1 (List.isSome_min?_of_ne_nil h)
  obtain ⟨hhi', hmax⟩ := List.max?_eq_some_iff.1 hhi
  obtain ⟨hlo', hmin⟩ := List.min?_eq_some_iff.1 hlo
  simp only [tareStable, hhi, hlo, decide_eq_true_eq]
  refine ⟨fun hd x hx y hy => ?_, fun hd => hd hi hhi' lo hlo'⟩
  have := hmax x hx
  have := hmin y hy
  omega

/-- Table 1-3: no movement is requested in ARMED and TARING. -/
theorem moveShare_of_waiting {s : State} (h : s.isFollow = false) (hk : s.seq.state = .armed ∨ s.seq.state = .taring) :
    s.moveShare = 0 := by
  rcases hk with hk | hk <;> simp [State.moveShare, h, hk]

theorem enterTaring_share {s : State} (h : s.seq.state = .armed) : (enterTaring s).moveShare = s.moveShare := by
  cases hf : s.isFollow with
  | true =>
    have hf' : (enterTaring s).isFollow = true := by simpa [State.isFollow] using hf
    simp [State.moveShare, hf, hf']
  | false =>
    have hf' : (enterTaring s).isFollow = false := by simpa [State.isFollow] using hf
    rw [moveShare_of_waiting hf (.inl h), moveShare_of_waiting hf' (.inr (by simp [enterTaring]))]

theorem exec_gripsQualified {s : State} (hp : PortSafe s) (h : s.seq.state = .armed) (hc : 16 ≤ s.seq.gripsCount) :
    exec .gripsQualified s = .next (enterTaring s) := by
  have hq : gripsQualified s = enterTaring s := by simp [gripsQualified, h, gripsTicks, hc]
  show Host.Outcome.next (finish s (gripsQualified s)) = _
  rw [hq, finish_of_same hp (by simp) (by simp) (forced_of_share (by simp) (by simp) (by simp) (enterTaring_share h)
    (by simp) (by simp) (by simp))]

/-! ## The judgment -/

theorem takeGripsLow_stays {s : State} (h : s.seq.state ≠ .taring ∨ s.seq.gripsLowWaits = false) :
    takeGripsLow s = s := by
  rcases h with h | h <;> simp [takeGripsLow, h]

theorem takeGripsLow_drops {s : State} (h : s.seq.state = .taring) (hw : s.seq.gripsLowWaits = true) :
    takeGripsLow s = dropGrips s := by
  simp [takeGripsLow, h, hw]

theorem tareJudged_due {s : State} {a : Tare} (h : s.seq.state = .taring) (ht : s.load.tare = some a)
    (hl : a.loads.length = 16) : tareJudged s = takeGripsLow (judgeTare a s) := by
  simp [tareJudged, h, ht, hl, tareSamples]

theorem tareJudged_idle {s : State} (h : s.seq.state ≠ .taring) : tareJudged s = s := by
  unfold tareJudged
  split <;> simp [h]

/-- R84: a halt abandons the tare. -/
theorem haltSequencer_tare (q : SeqState) (k : TestOutcome) (s : State) : (haltSequencer q k s).load.tare = none := by
  dsimp only [haltSequencer]
  split <;> simp [abandonTare]

theorem report_tare_none (c : FaultCause) {s : State} (hs : TestStation s) (ht : s.seq.state.isTest = true)
    (hc : c.isCellStop = false) : (report c s).load.tare = none := by
  rw [report_local hs ht hc, haltSequencer_tare]

theorem takeAttach_sets (s : State) :
    (takeAttach s).ext.state = .closing ∧ (takeAttach s).ext.closeTimer = some 0 ∧ (takeAttach s).ext.idRec = none := by
  simp [takeAttach]

/-- R9, R94: the entry to ATTACHING where the arm is jammed faults the test. -/
theorem enterAttaching_jammed {s : State} (h : s.ext.state = .jammed) :
    enterAttaching s = report .extOpenTimeout (gotoState .attaching s) := by
  simp [enterAttaching, h]

theorem enterAttaching_state {s : State} (hs : TestStation s) :
    (enterAttaching s).seq.state = .attaching ∨ (enterAttaching s).seq.state = .faulted := by
  by_cases hj : s.ext.state = .jammed
  · rw [enterAttaching_jammed hj, report_local (s := gotoState .attaching s) hs rfl rfl]
    simp
  · left
    unfold enterAttaching
    split
    · simp
    · simp
    · exact absurd ‹_› hj
    · simp

theorem enterAttaching_tare {s : State} (hs : TestStation s) (h : s.load.tare = none) :
    (enterAttaching s).load.tare = none := by
  by_cases hj : s.ext.state = .jammed
  · rw [enterAttaching_jammed hj]
    exact report_tare_none (s := gotoState .attaching s) _ hs rfl rfl
  · unfold enterAttaching
    split
    · simpa
    · simpa
    · exact absurd ‹_› hj
    · simpa

/-- R83: the load channel after a stable attempt. -/
def tareTaken (offset : Int) (s : State) : State := s.setLoad { s.load with tareOffset := offset, tare := none }

@[simp] theorem tareTaken_fields (offset : Int) (s : State) :
    (tareTaken offset s).start = s.start ∧ (tareTaken offset s).seq = s.seq ∧ (tareTaken offset s).ext = s.ext
      ∧ (tareTaken offset s).extPlan = s.extPlan ∧ (tareTaken offset s).stop = s.stop
      ∧ (tareTaken offset s).load.tareOffset = offset ∧ (tareTaken offset s).load.tare = none
      ∧ (tareTaken offset s).load.last = s.load.last ∧ (tareTaken offset s).shareOf 1 = s.shareOf 1 :=
  ⟨rfl, rfl, rfl, rfl, rfl, rfl, rfl, rfl, rfl⟩

theorem tareSucceeded_claims (offset : Int) {s : State} (h : s.extPlan = none) :
    tareSucceeded offset s = enterClaiming (tareTaken offset s) :=
  if_neg (c := s.extPlan.isSome = true) (by simp [h])

theorem tareSucceeded_attaches (offset : Int) {s : State} (h : s.extPlan ≠ none) :
    tareSucceeded offset s = enterAttaching (tareTaken offset s) :=
  if_pos (c := s.extPlan.isSome = true) (Option.isSome_iff_ne_none.2 h)

theorem tareSucceeded_state (offset : Int) {s : State} (hs : TestStation s) :
    (tareSucceeded offset s).seq.state ≠ .taring := by
  by_cases hp : s.extPlan = none
  · simp [tareSucceeded_claims offset hp, enterClaiming]
  · rw [tareSucceeded_attaches offset hp]
    rcases enterAttaching_state (s := tareTaken offset s) hs with h | h <;> simp [h]

/-- R8, R9, R10: what a successful attempt brings about. -/
def TareHolds (offset : Int) (s t : State) : Prop :=
  t.load.tareOffset = offset ∧ t.load.tare = none ∧ t.load.last = s.load.last
    ∧ (s.extPlan = none → t.seq.state = .claiming ∧ t.budget.requested = s.shareOf 1
        ∧ t.budget.reason = .phase ∧ t.ext = s.ext)
    ∧ (s.extPlan ≠ none → s.ext.state = .parked → t.seq.state = .attaching ∧ t.ext.state = .closing
        ∧ t.ext.closeTimer = some 0 ∧ t.ext.idRec = none)
    ∧ (s.extPlan ≠ none → s.ext.state = .opening → t.seq.state = .attaching ∧ t.ext.state = .opening
        ∧ t.ext.attachWaits = true)
    ∧ (s.extPlan ≠ none → s.ext.state = .jammed → t.seq.state = .faulted ∧ t.stop.record.isSome = true)

theorem tareSucceeded_holds (offset : Int) {s : State} (hs : TestStation s) :
    TareHolds offset s (tareSucceeded offset s) := by
  by_cases hp : s.extPlan = none
  · rw [tareSucceeded_claims offset hp]
    refine ⟨by simp [enterClaiming], by simp [enterClaiming], by simp [enterClaiming],
      fun _ => ⟨by simp [enterClaiming], by simp [enterClaiming], by simp [enterClaiming], by simp [enterClaiming]⟩,
      fun h => absurd hp h, fun h => absurd hp h, fun h => absurd hp h⟩
  · rw [tareSucceeded_attaches offset hp]
    refine ⟨by simp, enterAttaching_tare (s := tareTaken offset s) hs rfl, by simp, fun h => absurd h hp,
      fun _ he => ?_, fun _ he => ?_, fun _ he => ?_⟩
    · simp [enterAttaching, he, takeAttach_sets]
    · simp [enterAttaching, he]
    · have hj : (tareTaken offset s).ext.state = .jammed := he
      rw [enterAttaching_jammed hj]
      refine ⟨?_, ?_⟩
      · rw [report_local (s := gotoState .attaching (tareTaken offset s)) hs rfl rfl]
        simp
      · rw [(report_record .extOpenTimeout (gotoState .attaching (tareTaken offset s)) hs.1).1]
        rfl

/-- R83: the next attempt begins. -/
def nextAttempt (a : Tare) (s : State) : State :=
  s.setLoad { s.load with tare := some { attempt := a.attempt + 1, loads := [] } }

theorem judgeTare_retries {s : State} {a : Tare} (h : tareStable s.loadCapacity a.loads = false) (ha : a.attempt < 4) :
    judgeTare a s = nextAttempt a s := by
  rw [judgeTare, if_neg (by simp [h]), if_pos (c := a.attempt < tareAttempts) ha]
  rfl

theorem judgeTare_fails {s : State} {a : Tare} (h : tareStable s.loadCapacity a.loads = false) (ha : 4 ≤ a.attempt) :
    judgeTare a s = report .tareUnstable s := by
  rw [judgeTare, if_neg (by simp [h]), if_neg (c := a.attempt < tareAttempts) (Nat.not_lt.2 ha)]

theorem judgeTare_succeeds {s : State} {a : Tare} (h : tareStable s.loadCapacity a.loads = true) :
    judgeTare a s = tareSucceeded (a.loads.sum.tdiv 16) s := by
  rw [judgeTare, if_pos h]
  rfl

theorem exec_tareAttemptJudged {s : State} {a : Tare} (h : s.seq.state = .taring) (ht : s.load.tare = some a)
    (hl : a.loads.length = 16) :
    exec .tareAttemptJudged s = .next (finish s (takeGripsLow (judgeTare a s))) := by
  show Host.Outcome.next (finish s (tareJudged s)) = _
  rw [tareJudged_due h ht hl]

theorem judged_stable {s : State} {a : Tare} (hs : TestStation s) (h : s.seq.state = .taring)
    (ht : s.load.tare = some a) (hl : a.loads.length = 16)
    (hst : ∀ x ∈ a.loads, ∀ y ∈ a.loads, (x - y) * 1000 ≤ 2 * s.loadCapacity) :
    Next (exec .tareAttemptJudged s) (TareHolds (a.loads.sum.tdiv 16) s) := by
  have hne : a.loads ≠ [] := fun h0 => by simp [h0] at hl
  rw [exec_tareAttemptJudged h ht hl, judgeTare_succeeds ((tareStable_iff _ hne).2 hst),
    takeGripsLow_stays (.inl (tareSucceeded_state _ hs)), next_iff]
  simpa [TareHolds] using tareSucceeded_holds (a.loads.sum.tdiv 16) hs

/-- R8, R83: what an unstable attempt brings about. -/
def TareFails (a : Tare) (s t : State) : Prop :=
  t.load.tareOffset = s.load.tareOffset
    ∧ (a.attempt < 4 → s.seq.gripsLowWaits = false →
        t.load.tare = some { attempt := a.attempt + 1, loads := [] } ∧ t.seq = s.seq ∧ t.stop = s.stop
          ∧ t.link = s.link)
    ∧ (a.attempt < 4 → s.seq.gripsLowWaits = true → t.seq.state = .armed ∧ t.load.tare = none)
    ∧ (4 ≤ a.attempt → EndsFaulted .tareUnstable s t ∧ t.load.tare = none)

theorem judged_unstable {s : State} {a : Tare} {x y : Int} (hs : TestStation s) (h : s.seq.state = .taring)
    (ht : s.load.tare = some a) (hl : a.loads.length = 16) (hx : x ∈ a.loads) (hy : y ∈ a.loads)
    (hxy : 2 * s.loadCapacity < (x - y) * 1000) :
    Next (exec .tareAttemptJudged s) (TareFails a s) := by
  have hun : tareStable s.loadCapacity a.loads = false := by
    refine Bool.eq_false_iff.2 fun hst => ?_
    have := (tareStable_iff _ (List.ne_nil_of_mem hx)).1 hst x hx y hy
    omega
  rw [exec_tareAttemptJudged h ht hl, next_iff]
  by_cases ha : a.attempt < 4
  · rw [judgeTare_retries hun ha]
    cases hw : s.seq.gripsLowWaits with
    | false =>
      rw [takeGripsLow_stays (s := nextAttempt a s) (.inr hw)]
      refine ⟨by simp [nextAttempt], fun _ _ => ⟨by simp [nextAttempt], by simp [nextAttempt], by simp [nextAttempt], ?_⟩, fun _ h0 => absurd h0 (by simp [hw]),
        fun h0 => absurd ha (Nat.not_lt.2 h0)⟩
      simp [finish, rebuildStatus, budgetChanged, nextAttempt]
    | true =>
      rw [takeGripsLow_drops (s := nextAttempt a s) h hw]
      refine ⟨by simp [nextAttempt], fun _ h0 => absurd h0 (by simp [hw]), fun _ _ => ?_, fun h0 => absurd ha (Nat.not_lt.2 h0)⟩
      simp [dropGrips_sets]
  · have ht' : s.seq.state.isTest = true := by rw [h]; rfl
    rw [judgeTare_fails hun (Nat.not_lt.1 ha)]
    have hend := endsFaulted_report s hs ht' (c := .tareUnstable) rfl
    rw [takeGripsLow_stays (.inl (by rw [report_local hs ht' rfl]; simp))]
    exact ⟨by simp, fun h0 => absurd h0 ha, fun h0 => absurd h0 ha,
      fun _ => ⟨hend, by simpa using report_tare_none _ hs ht' rfl⟩⟩

/-! ## A low line that waits for the report of the same tick -/

/-- R23, R24, R84: the test sequencer is halted, and its tare abandoned. -/
def TareHalted (t : State) : Prop :=
  (t.seq.state = .stopped ∨ t.seq.state = .faulted) ∧ t.load.tare = none

theorem stopSequencer_halted (s : State) :
    (stopSequencer s = s ∧ s.seq.state ≠ .taring) ∨ TareHalted (stopSequencer s) := by
  by_cases h : s.seq.state = .unconfigured ∨ s.seq.state = .idle ∨ s.seq.state = .stopped
  · exact .inl ⟨stopSequencer_stays s h, fun ht => by simp [ht] at h⟩
  · rw [stopSequencer_halts s (by simpa using h)]
    exact .inr ⟨.inl (by simp), haltSequencer_tare _ _ _⟩

theorem faultSequencer_halted (s : State) :
    (faultSequencer s = s ∧ s.seq.state ≠ .taring) ∨ TareHalted (faultSequencer s) := by
  by_cases h : s.seq.state = .unconfigured ∨ s.seq.state = .idle ∨ s.seq.state = .stopped ∨ s.seq.state = .faulted
  · exact .inl ⟨faultSequencer_stays s h, fun ht => by simp [ht] at h⟩
  · rw [faultSequencer_halts s (by simpa using h)]
    exact .inr ⟨.inr (by simp), haltSequencer_tare _ _ _⟩

/-- R150, R153: what a report, or the latch, does to the test sequencer and its tare: nothing, or a halt. A sequencer
that tares is halted where the latch is not yet set. -/
def HaltsOrStays (s t : State) : Prop :=
  (t.seq = s.seq ∧ t.load = s.load ∧ (s.seq.state = .taring → s.stop.latch = true)) ∨ TareHalted t

theorem setLatch_haltsOrStays {s : State} (hs : TestStation s) : HaltsOrStays s (setLatch s) := by
  unfold setLatch
  split
  · rename_i h
    exact .inl ⟨rfl, rfl, fun _ => by simpa [hs.1] using h⟩
  · have hf : (s.setStop { s.stop with latch := true }).isFollow = false := isFollow_of_testStation hs
    rw [stopOwn, if_neg (by simp [hf])]
    rcases stopSequencer_halted (s.setStop { s.stop with latch := true }) with ⟨he, hn⟩ | h
    · rw [he]
      exact .inl ⟨rfl, rfl, fun ht => absurd ht hn⟩
    · exact .inr h

theorem report_haltsOrStays {s : State} (c : FaultCause) (hs : TestStation s) : HaltsOrStays s (report c s) := by
  have hs' : TestStation (pushNotice (faultNotice c s) (recordFault c s)) := by simpa [TestStation] using hs
  unfold report
  rw [if_neg (by simp [hs.1])]
  dsimp only
  split
  · simpa [HaltsOrStays, stopCell] using setLatch_haltsOrStays (s := (((pushNotice (faultNotice c s)
      (recordFault c s)).setStop { (pushNotice (faultNotice c s) (recordFault c s)).stop with driving := true }).setLink
        { (pushNotice (faultNotice c s) (recordFault c s)).link with stop := some c })) hs'
  · rw [faultOwn, if_neg (by simp [isFollow_of_testStation hs'])]
    rcases faultSequencer_halted (pushNotice (faultNotice c s) (recordFault c s)) with ⟨he, hn⟩ | h
    · rw [he]
      exact .inl ⟨by simp, by simp, fun ht => absurd (by simpa using ht) hn⟩
    · exact .inr h

/-! ### What the checks and reports of one sample keep -/

/-- A property of the test sequencer and the load channel that a report keeps. -/
structure KeptByReports (P : State → Prop) : Prop where
  reads : ∀ {s t : State}, t.start = s.start → t.seq = s.seq → t.load = s.load → t.stop.latch = s.stop.latch → P s → P t
  report : ∀ {s : State} (c : FaultCause), P s → P (report c s)

namespace KeptByReports

variable {P : State → Prop}

theorem setFree (hP : KeptByReports P) {s : State} (n : Nat) (h : P s) : P (s.setFree n) :=
  hP.reads (s := s) rfl rfl rfl rfl h

theorem foldReport (hP : KeptByReports P) (cs : List FaultCause) {s : State} (h : P s) :
    P (cs.foldl (fun t c => Machine.report c t) s) := by
  induction cs generalizing s with
  | nil => exact h
  | cons c cs ih => exact ih (hP.report c h)

theorem reportFound (hP : KeptByReports P) (cs : List FaultCause) {s : State} (h : P s) : P (reportFound cs s) := by
  obtain ⟨n, hn⟩ := drawOrder_draws cs s
  unfold Machine.reportFound
  rw [hn]
  exact hP.foldReport _ (hP.setFree n h)

theorem rememberSkew (hP : KeptByReports P) {s : State} (h : P s) : P (rememberSkew s) :=
  hP.reads (by simp) (by simp) (by simp) (by simp) h

theorem checkFirst (hP : KeptByReports P) (checked : Bool) (r : SampleRec) {s : State} (h : P s) :
    P (checkFirst checked r s) := by
  unfold Machine.checkFirst
  split
  · exact h
  · exact hP.reportFound _ (hP.rememberSkew h)

theorem examineSample (hP : KeptByReports P) (x : ExtView) (r : SampleRec) {s : State} (h : P s) :
    P (examineSample x r s) :=
  hP.reads (by simp) (by simp) (by simp) (by simp) h

theorem claimChecked (hP : KeptByReports P) {act : State → State} {s : State} (h : P (act s)) :
    P (claimChecked act s) := by
  unfold Machine.claimChecked
  dsimp only
  split
  · exact hP.reportFound _ (hP.rememberSkew h)
  · exact h

theorem takeReport (hP : KeptByReports P) (hj : ∀ {s}, P s → P (tareJudged s)) (failed : Bool) (c : FaultCause)
    {s : State} (h : P s) : P (takeReport failed s c) := by
  unfold Machine.takeReport
  split_ifs
  · exact hP.claimChecked (hj h)
  · exact hP.report _ h
  · exact h
  · exact hP.report _ h

theorem reportAll (hP : KeptByReports P) (hj : ∀ {s}, P s → P (tareJudged s)) (failed : Bool) (cs : List FaultCause)
    {s : State} (h : P s) : P (reportAll failed cs s) := by
  unfold Machine.reportAll
  induction cs generalizing s with
  | nil => exact h
  | cons c cs ih => exact ih (hP.takeReport hj failed c h)

theorem reportEarly (hP : KeptByReports P) (hj : ∀ {s}, P s → P (tareJudged s))
    (hm : ∀ {s}, P s → P (reportMeasuring s)) (failed faulty : Bool) (cs : List FaultCause) {s : State} (h : P s) :
    P (reportEarly failed faulty cs s) := by
  unfold Machine.reportEarly
  split
  · have hme : P (enterMeasuring s) := hP.reads (by simp) (by simp) (by simp) (by simp) h
    have hdraw : P (enterMeasuring s).draw.2 := hP.setFree _ hme
    unfold reportSettled
    split_ifs
    · exact hP.claimChecked (hm hme)
    · exact hP.reportAll hj failed cs (hP.claimChecked (hm hdraw))
    · exact hP.claimChecked (hm (hP.reportAll hj failed cs hdraw))
  · exact hP.reportAll hj failed cs h

theorem regulateSample (hP : KeptByReports P) (q : Request) (r : SampleRec) {s : State} (h : P s) :
    P (regulateSample q r s) :=
  hP.reads (by simp) (by simp) (by simp) (by simp) h

theorem moveSample (hP : KeptByReports P) (hj : ∀ {s}, P s → P (tareJudged s))
    (hm : ∀ {s}, P s → P (reportMeasuring s)) (checked overload : Bool) (r : SampleRec) {s : State} (h : P s) :
    P (moveSample checked overload r s) := by
  obtain ⟨n, hn⟩ := sampleReports_draws checked overload s (demandRequest s) r
  have hfree := hP.rememberSkew (hP.setFree n h)
  unfold Machine.moveSample
  dsimp only
  rw [hn]
  exact hP.reportAll hj _ _ (hP.regulateSample _ r (hP.reportEarly hj hm _ _ _ hfree))

/-- R5: where the sequencer only counts the sample, the delivery keeps what the count keeps. -/
theorem handledIn (hP : KeptByReports P) (hc : ∀ {s}, P s → s.seq.state.actsOnSample = false ∧ P (countSample s))
    {checked ended : Bool} {x : ExtView} {r : SampleRec} {s h : State} (hs : P s)
    (hh : HandledIn checked ended x r s h) : P h := by
  have hhandle : ∀ {t}, P t → P (handleSample r ended t) := fun {t} ht => by
    rw [handleSample_waiting r ended (hc ht).1]
    exact (hc ht).2
  obtain ⟨n, m, hh⟩ := hh
  have hfirst := hP.checkFirst checked r (hP.setFree n hs)
  rcases hh with ⟨-, rfl⟩ | ⟨-, rfl | rfl⟩
  · exact hhandle hfirst
  · exact hhandle (hP.examineSample x r (hP.setFree m hfirst))
  · exact hP.examineSample x r (hhandle (hP.setFree m hfirst))

end KeptByReports

/-! ### The tare on the sample of the tick -/

/-- R8, R82: the attempt has been abandoned on this sample, the offset kept. -/
def TareRejected (offset : Int) (last : Option SampleRec) (s : State) : Prop :=
  TestStation s ∧ s.load.tareOffset = offset ∧ s.load.last = last ∧ s.load.tare = none
    ∧ (s.seq.state = .armed ∨ s.seq.state = .stopped ∨ s.seq.state = .faulted)

/-- R83: the attempt stands as the sample left it, and the low line waits for its report, or a fault has halted the
sequencer. -/
def TareStands (a : Tare) (offset : Int) (last : Option SampleRec) (s : State) : Prop :=
  TestStation s ∧ s.load.last = last
    ∧ ((s.seq.state = .taring ∧ s.stop.latch = false ∧ s.load.tareOffset = offset ∧ s.load.tare = some a
          ∧ s.seq.gripsLowWaits = true)
        ∨ s.seq.state = .stopped ∨ s.seq.state = .faulted)

/-- R83: a sequencer that still tares has the attempt as the sample left it. -/
def TareAwaits (a : Tare) (offset : Int) (last : Option SampleRec) (s : State) : Prop :=
  TestStation s ∧ s.load.last = last
    ∧ (s.seq.state = .taring → s.stop.latch = false ∧ s.load.tareOffset = offset ∧ s.load.tare = some a
        ∧ s.seq.gripsLowWaits = true)

theorem TareStands.awaits {a : Tare} {k : Int} {l : Option SampleRec} {s : State} (h : TareStands a k l s) :
    TareAwaits a k l s := by
  obtain ⟨hs, hl, ⟨-, ht⟩ | hq⟩ := h
  · exact ⟨hs, hl, fun _ => ht⟩
  · exact ⟨hs, hl, fun ht => by simp [ht] at hq⟩

theorem tareRejected_kept (k : Int) (l : Option SampleRec) : KeptByReports (TareRejected k l) where
  reads := by
    intro s t hstart hseq hload _ h
    simpa only [TareRejected, TestStation, hstart, hseq, hload] using h
  report := by
    rintro s c ⟨hs, hk, hl, ht, hq⟩
    have hs' : TestStation (report c s) := by simpa [TestStation] using hs
    rcases report_haltsOrStays c hs with ⟨hseq, hload, -⟩ | ⟨hst, htare⟩
    · exact ⟨hs', by simpa, by simpa, by rw [hload, ht], by rw [hseq]; exact hq⟩
    · exact ⟨hs', by simpa, by simpa, htare, .inr hst⟩

theorem tareStands_kept (a : Tare) (k : Int) (l : Option SampleRec) : KeptByReports (TareStands a k l) where
  reads := by
    intro s t hstart hseq hload hlatch h
    simpa only [TareStands, TestStation, hstart, hseq, hload, hlatch] using h
  report := by
    rintro s c ⟨hs, hl, hq⟩
    refine ⟨by simpa [TestStation] using hs, by simpa, .inr ?_⟩
    rcases report_haltsOrStays c hs with ⟨hseq, -, hlatch⟩ | ⟨hst, -⟩
    · rcases hq with ⟨ht, hno, -⟩ | hq
      · simp [hlatch ht] at hno
      · rw [hseq]; exact hq
    · exact hst

theorem tareAwaits_kept (a : Tare) (k : Int) (l : Option SampleRec) : KeptByReports (TareAwaits a k l) where
  reads := by
    intro s t hstart hseq hload hlatch h
    simpa only [TareAwaits, TestStation, hstart, hseq, hload, hlatch] using h
  report := by
    rintro s c ⟨hs, hl, hq⟩
    refine ⟨by simpa [TestStation] using hs, by simpa, fun ht => ?_⟩
    rcases report_haltsOrStays c hs with ⟨hseq, -, hlatch⟩ | ⟨hst, -⟩
    · rw [hseq] at ht
      simp [hlatch ht] at hq
      exact absurd ht hq
    · simp [ht] at hst

theorem reportMeasuring_state (s : State) : (reportMeasuring s).seq.state = .taring ↔ s.seq.state = .taring := by
  unfold reportMeasuring
  split
  · simp_all [enterClaiming]
  · rfl

theorem reportMeasuring_idle {s : State} (h : s.seq.state ≠ .attaching) : reportMeasuring s = s := by
  simp [reportMeasuring, h]

/-- R8: after the judgment a low line that waited is taken. -/
theorem tareJudged_leaves {s : State} {a : Tare} (hs : TestStation s) (h : s.seq.state = .taring)
    (ht : s.load.tare = some a) (hl : a.loads.length = 16) (hw : s.seq.gripsLowWaits = true) :
    (tareJudged s).seq.state ≠ .taring := by
  rw [tareJudged_due h ht hl]
  unfold takeGripsLow
  split
  · simp [dropGrips_sets]
  · rename_i hno
    intro hst
    have hw' : (judgeTare a s).seq.gripsLowWaits = false := by simpa [hst] using hno
    unfold judgeTare at hst hw'
    split_ifs at hst hw'
    · exact tareSucceeded_state _ hs hst
    · simp [hw] at hw'
    · rw [report_local hs (by rw [h]; rfl) rfl] at hst
      simp at hst

theorem judgeTare_last (a : Tare) (s : State) : (judgeTare a s).load.last = s.load.last := by
  unfold judgeTare tareSucceeded
  split_ifs <;> simp [enterClaiming]

theorem tareJudged_last (s : State) : (tareJudged s).load.last = s.load.last := by
  unfold tareJudged
  split
  · rfl
  · split
    · unfold takeGripsLow
      split <;> simp [judgeTare_last]
    · rfl

theorem TareAwaits.judged {a : Tare} {k : Int} {l : Option SampleRec} {s : State} (h : TareAwaits a k l s) :
    TareAwaits a k l (tareJudged s) := by
  by_cases ht : s.seq.state = .taring
  · obtain ⟨hs, hl, hq⟩ := h
    obtain ⟨hlatch, hk, ha, hw⟩ := hq ht
    by_cases hlen : a.loads.length = 16
    · exact ⟨by simpa [TestStation] using hs, by rw [tareJudged_last, hl],
        fun h0 => absurd h0 (tareJudged_leaves hs ht ha hlen hw)⟩
    · rw [show tareJudged s = s by simp [tareJudged, ha, tareSamples, hlen]]
      exact ⟨hs, hl, hq⟩
  · rwa [tareJudged_idle ht]

theorem TareAwaits.measured {a : Tare} {k : Int} {l : Option SampleRec} {s : State} (h : TareAwaits a k l s) :
    TareAwaits a k l (reportMeasuring s) := by
  by_cases ht : s.seq.state = .taring
  · rwa [reportMeasuring_idle (by simp [ht])]
  · obtain ⟨hs, hl, -⟩ := h
    exact ⟨by simpa [TestStation] using hs, by simpa, fun h0 => absurd ((reportMeasuring_state s).1 h0) ht⟩

theorem TareRejected.counted {k : Int} {l : Option SampleRec} {s : State} (h : TareRejected k l s) :
    s.seq.state.actsOnSample = false ∧ TareRejected k l (countSample s) := by
  refine ⟨?_, by simpa [TareRejected, TestStation] using h⟩
  obtain ⟨-, -, -, -, hq | hq | hq⟩ := h <;> rw [hq] <;> rfl

theorem TareStands.counted {a : Tare} {k : Int} {l : Option SampleRec} {s : State} (h : TareStands a k l s) :
    s.seq.state.actsOnSample = false ∧ TareStands a k l (countSample s) := by
  refine ⟨?_, by simpa [TareStands, TestStation, countSample] using h⟩
  obtain ⟨-, -, ⟨hq, -⟩ | hq | hq⟩ := h <;> rw [hq] <;> rfl

theorem TareRejected.moved {k : Int} {l : Option SampleRec} {s : State} (checked overload : Bool) (r : SampleRec)
    (h : TareRejected k l s) : TareRejected k l (moveSample checked overload r s) := by
  refine (tareRejected_kept k l).moveSample (fun {t} ht => ?_) (fun {t} ht => ?_) checked overload r h
  · have hn : t.seq.state ≠ .taring := by obtain ⟨-, -, -, -, hq | hq | hq⟩ := ht <;> simp [hq]
    rwa [tareJudged_idle hn]
  · have hn : t.seq.state ≠ .attaching := by obtain ⟨-, -, -, -, hq | hq | hq⟩ := ht <;> simp [hq]
    rwa [reportMeasuring_idle hn]

theorem TareAwaits.moved {a : Tare} {k : Int} {l : Option SampleRec} {s : State} (checked overload : Bool)
    (r : SampleRec) (h : TareAwaits a k l s) : TareAwaits a k l (moveSample checked overload r s) :=
  (tareAwaits_kept a k l).moveSample TareAwaits.judged TareAwaits.measured checked overload r h

/-! ### The sample completed in TARING -/

/-- R74, R82: the load channel has taken the sample of this record, with this gross load. -/
def SampleTaken (r : SampleRec) (gross : Int) (s t : State) : Prop :=
  t.start = s.start ∧ t.seq = s.seq ∧ t.stop = s.stop ∧ t.load.tareOffset = s.load.tareOffset
    ∧ t.load.last = some r ∧ t.load.tare = tareAfter s.load r.held gross

theorem decideRange_tare (l : LoadCh) (capacity : Nat) (configured : Bool) (gross reading : Int) :
    (l.decideRange capacity configured gross reading).tare = l.tare
      ∧ (l.decideRange capacity configured gross reading).tareOffset = l.tareOffset := by
  unfold LoadCh.decideRange
  split_ifs
  · exact ⟨rfl, rfl⟩
  · exact ⟨rfl, rfl⟩
  · exact ⟨rfl, rfl⟩
  · split <;> exact ⟨rfl, rfl⟩

theorem takenSample_taken {s : State} (reading : Int) (strain : Option Int) (hf : s.isFollow = false) :
    SampleTaken (loadView reading strain s).record (loadView reading strain s).gross s
      (takenSample (loadView reading strain s) s) := by
  obtain ⟨htare, hoff⟩ := decideRange_tare s.load s.loadCapacity s.configured (loadView reading strain s).gross
    (loadView reading strain s).reading
  have hheld : (loadView reading strain s).record.held = (loadView reading strain s).held := by
    simp [loadView, sampleRecord, hf]
  have hload : (takenSample (loadView reading strain s) s).load = LoadCh.completed s (loadView reading strain s) := by
    simp [takenSample, completeLoad, hf]
  refine ⟨by simp [takenSample], by simp [takenSample], by simp [takenSample], ?_, ?_, ?_⟩
  · simp [hload, LoadCh.completed, hf, LoadCh.detected, hoff]
  · simp [hload, LoadCh.completed, hf, LoadCh.detected]
  · simp [hload, LoadCh.completed, hf, LoadCh.detected, tareAfter, htare, hheld]

/-- R74: a command that completes a sample hands what the load channel has taken to the sequencer. -/
theorem completesSample_handles {c : Instr} {s : State} (hc : CompletesSample c s) (hs : TestStation s) :
    ∃ (r : SampleRec) (gross : Int) (checked ended overload : Bool) (x : ExtView) (u h : State),
      SampleTaken r gross s u ∧ HandledIn checked ended x r (takeGripsUnreported u) h
        ∧ exec c s = .next (finish s (moveSample checked overload r h)) := by
  rcases hc with ⟨hl, reading, rfl⟩ | ⟨hl, reading, rfl⟩
  · obtain ⟨checked, h, hh, -, he⟩ := conversionEnd_handles.1 reading s hs hl
    exact ⟨_, _, _, _, _, _, _, _, takenSample_taken reading none (isFollow_of_testStation hs), hh, he⟩
  · obtain ⟨l, hr⟩ := Option.isSome_iff_exists.1 hl.2
    obtain ⟨checked, h, hh, -, he⟩ := conversionEnd_handles.2 reading l s hs hl hr
    have htaken := takenSample_taken (s := countSettling (max (-1100000) (min 1100000 reading)) s) l
      (some (max (-1100000) (min 1100000 reading))) (by simpa [State.isFollow] using isFollow_of_testStation hs)
    exact ⟨_, _, _, _, _, _, _, _, by simpa [SampleTaken] using htaken, hh, he⟩

theorem taringSample_completes {c : Instr} {s : State} {a : Tare} (hc : CompletesSample c s) (hs : TestStation s)
    (hq : s.seq.state = .taring) (hlatch : s.stop.latch = false) (hw : s.seq.gripsLowWaits = true)
    (ht : s.load.tare = some a) (hl : a.loads.length = 15) :
    Next (exec c s) fun t =>
      ∃ r, t.load.last = some r
        ∧ (r.held = true → t.load.tare = none ∧ t.seq.state ≠ .taring ∧ t.load.tareOffset = s.load.tareOffset)
        ∧ (r.held = false → t.seq.state = .taring → t.load.tareOffset = s.load.tareOffset
            ∧ ∃ x, t.load.tare = some { a with loads := a.loads ++ [x] }) := by
  obtain ⟨r, gross, checked, ended, overload, x, u, h, ⟨hstart, hseq, hstop, hoff, hlast, htare⟩, hh, he⟩ :=
    completesSample_handles hc hs
  rw [he, next_iff]
  have hu : TestStation u := by simpa [TestStation, hstart] using hs
  cases hheld : r.held with
  | true =>
    have hsame : u.load.tare = some a := by rw [htare, tareAfter, if_pos hheld, ht]
    have hrej : TareRejected s.load.tareOffset (some r) (takeGripsUnreported u) := by
      have hnf : u.load.attemptFull = false := by simp [LoadCh.attemptFull, hsame, hl, tareSamples]
      rw [takeGripsUnreported, if_neg (by simp [hnf]), takeGripsLow_drops (by rw [hseq, hq]) (by rw [hseq, hw])]
      obtain ⟨harmed, -, hnone⟩ := dropGrips_sets u
      exact ⟨by simpa [TestStation] using hu, by simpa, by simpa, hnone, .inl harmed⟩
    obtain ⟨-, hk, hlast', hnone, hst⟩ :=
      ((tareRejected_kept _ _).handledIn TareRejected.counted hrej hh).moved checked overload r
    refine ⟨r, by simpa, fun _ => ⟨by simpa, ?_, by simpa⟩, fun h0 => absurd h0 (by simp [hheld])⟩
    have hseq : (finish s (moveSample checked overload r h)).seq = (moveSample checked overload r h).seq := by simp
    intro h0
    rw [hseq] at h0
    simp [h0] at hst
  | false =>
    have hjoin : u.load.tare = some { a with loads := a.loads ++ [gross] } := by
      simp [htare, tareAfter, hheld, ht, Tare.join, hl, tareSamples]
    have hstands : TareStands { a with loads := a.loads ++ [gross] } s.load.tareOffset (some r)
        (takeGripsUnreported u) := by
      have hfull : u.load.attemptFull = true := by simp [LoadCh.attemptFull, hjoin, hl, tareSamples]
      rw [takeGripsUnreported, if_pos hfull]
      exact ⟨hu, hlast, .inl ⟨by rw [hseq, hq], by rw [hstop, hlatch], hoff, hjoin, by rw [hseq, hw]⟩⟩
    obtain ⟨-, hlast', hst⟩ :=
      ((tareStands_kept _ _ _).handledIn TareStands.counted hstands hh).awaits.moved checked overload r
    refine ⟨r, by simpa, fun h0 => absurd h0 (by simp [hheld]), fun _ h0 => ?_⟩
    obtain ⟨-, hk, ha, -⟩ := hst (by simpa using h0)
    exact ⟨by simpa, gross, by simpa⟩

/-- Settles O27: the judgment branch by branch, and for the waiting low line a property that every report of the sample
keeps (`KeptByReports`). -/
theorem tareBeginsAndIsJudged : Obligations.TareBeginsAndIsJudged := by
  unfold Obligations.TareBeginsAndIsJudged
  refine ⟨fun s hp h hc => ?_, ⟨fun s a hs h ht hl hst => ?_, fun s a x y hs h ht hl hx hy hxy => ?_⟩,
    fun c s a hc hs hq hlatch hw ht hl => ?_⟩
  · exact exec_gripsQualified hp h hc
  · exact judged_stable hs h ht hl hst
  · exact judged_unstable hs h ht hl hx hy hxy
  · exact taringSample_completes hc hs hq hlatch hw ht hl

end Sys2Proof.Proofs
end

section
namespace Sys2Proof.Proofs
open Sys2Proof.Machine Sys2Proof.Safety Sys2Proof.Laws

/-! ## Numbers and their bytes -/

theorem beNat_append_singleton (bs : List Byte) (b : Byte) : beNat (bs ++ [b]) = beNat bs * 256 + b.toNat := by
  simp [beNat]

theorem beNat_lt (bs : List Byte) : beNat bs < 256 ^ bs.length := by
  induction bs using List.reverseRecOn with
  | nil => simp [beNat]
  | append_singleton bs b ih =>
    have hb := b.isLt
    rw [beNat_append_singleton, List.length_append, List.length_singleton, pow_succ]
    omega

theorem natBytes_length (n v : Nat) : (natBytes n v).length = n := by
  induction n generalizing v with
  | zero => rfl
  | succ n ih => simp [natBytes, ih]

theorem beNat_natBytes (n : Nat) {v : Nat} (h : v < 256 ^ n) : beNat (natBytes n v) = v := by
  induction n generalizing v with
  | zero => simp_all [natBytes, beNat]
  | succ n ih =>
    have hdiv : v / 256 < 256 ^ n := Nat.div_lt_of_lt_mul (by rwa [pow_succ'] at h)
    rw [natBytes, beNat_append_singleton, ih hdiv, BitVec.toNat_ofNat]
    omega

theorem natBytes_beNat (bs : List Byte) : natBytes bs.length (beNat bs) = bs := by
  induction bs using List.reverseRecOn with
  | nil => rfl
  | append_singleton bs b ih =>
    have hb := b.isLt
    have hdiv : beNat (bs ++ [b]) / 256 = beNat bs := by rw [beNat_append_singleton]; omega
    have hlast : BitVec.ofNat 8 (beNat (bs ++ [b])) = b := by
      apply BitVec.eq_of_toNat_eq
      rw [beNat_append_singleton, BitVec.toNat_ofNat]
      omega
    rw [List.length_append, List.length_singleton, natBytes, hdiv, hlast, ih]

theorem wordBytes_beNat {bs : List Byte} (h : bs.length = 4) : wordBytes (BitVec.ofNat 32 (beNat bs)) = bs := by
  have hlt : beNat bs < 2 ^ 32 := by simpa [h] using beNat_lt bs
  rw [wordBytes, BitVec.toNat_ofNat, Nat.mod_eq_of_lt hlt, ← h, natBytes_beNat]

theorem beNat_wordBytes (w : Word32) : BitVec.ofNat 32 (beNat (wordBytes w)) = w := by
  rw [wordBytes, beNat_natBytes 4 w.isLt, BitVec.ofNat_toNat, BitVec.setWidth_eq]

theorem intBytes_beInt {bs : List Byte} (h : bs.length = 4) : intBytes (beInt bs) = bs := by
  rw [intBytes, beInt, BitVec.ofInt_toInt]
  exact wordBytes_beNat h

theorem beInt_intBytes {v : Int} (h : Signed32 v) : beInt (intBytes v) = v := by
  obtain ⟨hlo, hhi⟩ := h
  rw [beInt, intBytes, beNat_natBytes 4 (BitVec.isLt _), BitVec.ofNat_toNat, BitVec.setWidth_eq, BitVec.toInt_ofInt]
  exact Int.bmod_eq_of_le (by omega) (by omega)

theorem signed32_beInt (bs : List Byte) : Signed32 (beInt bs) := by
  have hlo := BitVec.le_toInt (BitVec.ofNat 32 (beNat bs))
  have hhi := BitVec.toInt_lt (x := BitVec.ofNat 32 (beNat bs))
  exact ⟨by simpa [beInt] using hlo, by simpa [beInt] using Int.le_sub_one_of_lt hhi⟩

theorem slice_length {bs : List Byte} {i n : Nat} (h : i + n ≤ bs.length) : (slice bs i n).length = n := by
  simp [slice]
  omega

theorem natBytes_slice {bs : List Byte} {i n : Nat} (h : i + n ≤ bs.length) :
    natBytes n (beNat (slice bs i n)) = slice bs i n := by
  have := natBytes_beNat (slice bs i n)
  rwa [slice_length h] at this

theorem intBytes_slice {bs : List Byte} {i : Nat} (h : i + 4 ≤ bs.length) :
    intBytes (beInt (slice bs i 4)) = slice bs i 4 := intBytes_beInt (slice_length h)

theorem beNat_slice_lt (bs : List Byte) (i n : Nat) : beNat (slice bs i n) < 256 ^ n :=
  (beNat_lt _).trans_le (Nat.pow_le_pow_right (by decide) (by simp [slice]))

theorem slice_append_drop {bs : List Byte} {i n j : Nat} (h : i + n = j) : slice bs i n ++ bs.drop j = bs.drop i := by
  rw [slice, ← h, ← List.drop_drop, List.take_append_drop]

/-! ## Codes and their bytes -/

theorem rangeMode_ofCode_iff (n : Nat) (m : RangeMode) : RangeMode.ofCode n = some m ↔ n = rangeModeByte m := by
  refine ⟨fun h => ?_, ?_⟩
  · unfold RangeMode.ofCode at h
    split at h <;> simp at h <;> subst h <;> rfl
  · rintro rfl
    rcases m with _ | r
    · rfl
    · cases r <;> rfl

theorem phaseMode_ofCode_iff (n : Nat) (m : PhaseMode) : PhaseMode.ofCode n = some m ↔ n = modeNibble m := by
  refine ⟨fun h => ?_, ?_⟩
  · unfold PhaseMode.ofCode at h
    split at h <;> simp at h <;> subst h <;> rfl
  · rintro rfl
    cases m <;> rfl

theorem sourceDemand_ofCode_iff (n : Nat) (d : SourceDemand) : SourceDemand.ofCode n = some d ↔ n = sourceNibble d := by
  refine ⟨fun h => ?_, ?_⟩
  · unfold SourceDemand.ofCode at h
    split at h <;> simp at h <;> subst h <;> rfl
  · rintro rfl
    cases d <;> rfl

theorem endKind_ofCode_iff (n : Nat) (k : EndKind) : EndKind.ofCode n = some k ↔ n = endKindByte k := by
  refine ⟨fun h => ?_, ?_⟩
  · unfold EndKind.ofCode at h
    split at h <;> simp at h <;> subst h <;> rfl
  · rintro rfl
    cases k <;> rfl

theorem removalKind_ofCode_iff (n : Nat) (k : RemovalKind) : RemovalKind.ofCode n = some k ↔ n = removalByte k := by
  refine ⟨fun h => ?_, ?_⟩
  · unfold RemovalKind.ofCode at h
    split at h <;> simp at h <;> subst h <;> rfl
  · rintro rfl
    cases k <;> rfl

theorem flagOfCode_iff (n : Nat) (b : Bool) : flagOfCode n = some b ↔ n = flagBit b 0 := by
  refine ⟨fun h => ?_, ?_⟩
  · unfold flagOfCode at h
    split at h <;> simp at h <;> subst h <;> rfl
  · rintro rfl
    cases b <;> rfl

theorem modeNibble_lt (m : PhaseMode) : modeNibble m < 16 := by cases m <;> decide

theorem sourceNibble_lt (d : SourceDemand) : sourceNibble d < 16 := by cases d <;> decide

/-! ## One phase entry -/

/-- Every field of the phase fits the bytes that the layout gives it. -/
def PhaseFits (p : Phase) : Prop :=
  Signed32 p.target ∧ Signed32 p.endValue ∧ p.step < 256 ∧ p.rateLimit < 65536 ∧ p.share < 256

theorem phaseLayout_length (p : Phase) : (phaseLayout p).length = 14 := by
  simp [phaseLayout, intBytes, natBytes_length]

theorem parsePhase_eq_some (e : List Byte) (p : Phase) : parsePhase e = some p ↔
    PhaseMode.ofCode (beNat (slice e 0 1) / 16) = some p.mode
      ∧ SourceDemand.ofCode (beNat (slice e 0 1) % 16) = some p.source
      ∧ EndKind.ofCode (beNat (slice e 8 1)) = some p.endKind
      ∧ p.target = beInt (slice e 1 4) ∧ p.step = beNat (slice e 5 1) ∧ p.rateLimit = beNat (slice e 6 2)
      ∧ p.endValue = beInt (slice e 9 4) ∧ p.share = beNat (slice e 13 1) := by
  obtain ⟨mode, target, step, rateLimit, source, endKind, endValue, share⟩ := p
  simp only [parsePhase, Option.bind_eq_bind, Option.bind_eq_some_iff, Option.pure_def, Option.some_inj,
    Phase.mk.injEq]
  grind

theorem parsePhase_phaseLayout {p : Phase} (h : PhaseFits p) : parsePhase (phaseLayout p) = some p := by
  obtain ⟨htarget, hend, hstep, hrate, hshare⟩ := h
  have hm := modeNibble_lt p.mode
  have hd := sourceNibble_lt p.source
  have hfirst : beNat (slice (phaseLayout p) 0 1) = modeNibble p.mode * 16 + sourceNibble p.source :=
    beNat_natBytes 1 (by omega)
  have hkind : beNat (slice (phaseLayout p) 8 1) = endKindByte p.endKind :=
    beNat_natBytes 1 (by cases p.endKind <;> decide)
  rw [parsePhase_eq_some, phaseMode_ofCode_iff, sourceDemand_ofCode_iff, endKind_ofCode_iff, hfirst, hkind]
  exact ⟨by omega, by omega, rfl, (beInt_intBytes htarget).symm, (beNat_natBytes 1 hstep).symm,
    (beNat_natBytes 2 hrate).symm, (beInt_intBytes hend).symm, (beNat_natBytes 1 hshare).symm⟩

theorem phaseLayout_of_parsePhase {e : List Byte} {p : Phase} (hl : e.length = 14) (h : parsePhase e = some p) :
    e = phaseLayout p ∧ PhaseFits p := by
  rw [parsePhase_eq_some, phaseMode_ofCode_iff, sourceDemand_ofCode_iff, endKind_ofCode_iff] at h
  obtain ⟨hm, hd, hk, htarget, hstep, hrate, hend, hshare⟩ := h
  have hfirst : modeNibble p.mode * 16 + sourceNibble p.source = beNat (slice e 0 1) := by omega
  constructor
  · rw [phaseLayout, hfirst, ← hk, htarget, hstep, hrate, hend, hshare]
    rw [natBytes_slice (by omega), intBytes_slice (by omega), natBytes_slice (by omega), natBytes_slice (by omega),
      natBytes_slice (by omega), intBytes_slice (by omega), natBytes_slice (by omega)]
    simp only [List.append_assoc]
    have hlast : slice e 13 1 = e.drop 13 := List.take_of_length_le (by simp [hl])
    simp only [hlast, slice_append_drop, List.drop_zero]
  · exact ⟨htarget ▸ signed32_beInt _, hend ▸ signed32_beInt _, hstep ▸ beNat_slice_lt e 5 1,
      hrate ▸ beNat_slice_lt e 6 2, hshare ▸ beNat_slice_lt e 13 1⟩

theorem parsePhases_iff (n : Nat) (bs : List Byte) (ps : List Phase) : parsePhases n bs = some ps ↔
    bs = ps.flatMap phaseLayout ∧ ps.length = n ∧ ∀ p ∈ ps, PhaseFits p := by
  induction n generalizing bs ps with
  | zero =>
    cases bs with
    | nil => cases ps <;> simp [parsePhases]
    | cons b bs => cases ps <;> simp [parsePhases]
  | succ n ih =>
    constructor
    · intro h
      rw [parsePhases] at h
      split_ifs at h with hshort
      split at h <;> simp at h
      next p ps' hp hps =>
        obtain ⟨hbytes, hcount, hfits⟩ := (ih _ _).1 hps
        obtain ⟨hfirst, hfit⟩ := phaseLayout_of_parsePhase (by simp; omega) hp
        subst h
        refine ⟨?_, by simp [hcount], by simpa using ⟨hfit, hfits⟩⟩
        rw [List.flatMap_cons, ← hfirst, ← hbytes, List.take_append_drop]
    · rintro ⟨rfl, hcount, hfits⟩
      cases ps with
      | nil => simp at hcount
      | cons p ps =>
        have hl := phaseLayout_length p
        have hrest := (ih (ps.flatMap phaseLayout) ps).2 ⟨rfl, by simpa using hcount, by simp_all⟩
        have htake : ((p :: ps).flatMap phaseLayout).take 14 = phaseLayout p := by
          rw [List.flatMap_cons, ← hl, List.take_left]
        have hdrop : ((p :: ps).flatMap phaseLayout).drop 14 = ps.flatMap phaseLayout := by
          rw [List.flatMap_cons, ← hl, List.drop_left]
        have hlong : ¬((p :: ps).flatMap phaseLayout).length < 14 := by
          rw [List.flatMap_cons, List.length_append, hl]
          omega
        rw [parsePhases, if_neg hlong, htake, hdrop, parsePhase_phaseLayout (hfits p (by simp)), hrest]

/-! ## The extensometer plan -/

/-- Every field of the plan fits the bytes that the layout gives it. -/
def PlanFits (p : ExtPlan) : Prop := p.value < 2 ^ 32 ∧ p.slipTolerance < 65536 ∧ p.gauge < 256

theorem planLayout_length (p : ExtPlan) : (planLayout p).length = 9 := by
  simp [planLayout, natBytes_length]

theorem parsePlan_eq_some (e : List Byte) (p : ExtPlan) : parsePlan e = some p ↔
    RemovalKind.ofCode (beNat (slice e 0 1)) = some p.removal ∧ flagOfCode (beNat (slice e 5 1)) = some p.fallback
      ∧ p.value = beNat (slice e 1 4) ∧ p.slipTolerance = beNat (slice e 6 2) ∧ p.gauge = beNat (slice e 8 1) := by
  obtain ⟨removal, value, fallback, slipTolerance, gauge⟩ := p
  simp only [parsePlan, Option.bind_eq_bind, Option.bind_eq_some_iff, Option.pure_def, Option.some_inj,
    ExtPlan.mk.injEq]
  grind

theorem parsePlan_planLayout {p : ExtPlan} (h : PlanFits p) : parsePlan (planLayout p) = some p := by
  obtain ⟨hvalue, hslip, hgauge⟩ := h
  rw [parsePlan_eq_some, removalKind_ofCode_iff, flagOfCode_iff]
  exact ⟨beNat_natBytes 1 (by cases p.removal <;> decide), beNat_natBytes 1 (by cases p.fallback <;> decide),
    (beNat_natBytes 4 hvalue).symm, (beNat_natBytes 2 hslip).symm, (beNat_natBytes 1 hgauge).symm⟩

theorem planLayout_of_parsePlan {e : List Byte} {p : ExtPlan} (hl : e.length = 9) (h : parsePlan e = some p) :
    e = planLayout p ∧ PlanFits p := by
  rw [parsePlan_eq_some, removalKind_ofCode_iff, flagOfCode_iff] at h
  obtain ⟨hremoval, hfallback, hvalue, hslip, hgauge⟩ := h
  constructor
  · rw [planLayout, ← hremoval, ← hfallback, hvalue, hslip, hgauge]
    rw [natBytes_slice (by omega), natBytes_slice (by omega), natBytes_slice (by omega), natBytes_slice (by omega),
      natBytes_slice (by omega)]
    simp only [List.append_assoc]
    have hlast : slice e 8 1 = e.drop 8 := List.take_of_length_le (by simp [hl])
    simp only [hlast, slice_append_drop, List.drop_zero]
  · exact ⟨hvalue ▸ beNat_slice_lt e 1 4, hslip ▸ beNat_slice_lt e 6 2, hgauge ▸ beNat_slice_lt e 8 1⟩

end Sys2Proof.Proofs
end

section
namespace Sys2Proof.Proofs
open Sys2Proof.Machine Sys2Proof.Safety Sys2Proof.Laws

/-! ## The optional parts of an ORDER -/

/-- The bytes open with a tag behind this one. -/
def StartsAfter (tag : Byte) (bs : List Byte) : Prop := ∃ t rest, bs = t :: rest ∧ tag.toNat < t.toNat

theorem startsAfter_tagged {tag next : Byte} (part : Option (List Byte)) {rest : List Byte}
    (h : tag.toNat < next.toNat) (hr : StartsAfter next rest) : StartsAfter tag (tagged next part ++ rest) := by
  cases part with
  | none =>
    obtain ⟨t, more, rfl, ht⟩ := hr
    exact ⟨t, more, rfl, h.trans ht⟩
  | some bytes => exact ⟨next, bytes ++ rest, rfl, h⟩

/-- R183: what stands behind a part that has been looked for, and the part. -/
theorem optionalPart_cuts {tag : Byte} {n : Nat} {bs rest : List Byte} {part : Option (List Byte)}
    (h : optionalPart tag.toNat n bs = some (part, rest)) :
    bs = tagged tag part ++ rest ∧ ∀ x, part = some x → x.length = n := by
  unfold optionalPart at h
  split at h
  · simp at h
    obtain ⟨rfl, rfl⟩ := h
    simp [tagged]
  · next t more =>
    split_ifs at h with htag hshort
    · simp at h
      obtain ⟨rfl, rfl⟩ := h
      obtain rfl : t = tag := BitVec.eq_of_toNat_eq htag
      refine ⟨by simp [tagged], fun x hx => ?_⟩
      obtain rfl := Option.some_inj.1 hx
      simpa using hshort
    · simp at h
      obtain ⟨rfl, rfl⟩ := h
      simp [tagged]

theorem optionalPart_tagged {tag : Byte} {n : Nat} {rest : List Byte} {part : Option (List Byte)}
    (hr : StartsAfter tag rest) (hn : ∀ x, part = some x → x.length = n) :
    optionalPart tag.toNat n (tagged tag part ++ rest) = some (part, rest) := by
  cases part with
  | none =>
    obtain ⟨t, more, rfl, ht⟩ := hr
    simp [tagged, optionalPart, Nat.ne_of_gt ht]
  | some bytes =>
    obtain rfl := hn bytes rfl
    simp [tagged, optionalPart]

/-- The bytes of an ORDER behind its header and break part: yield, plan and return part, the phase count and the phase
entries. -/
structure OrderParts where
  yieldBytes : Option (List Byte)
  planBytes : Option (List Byte)
  returnBytes : Option (List Byte)
  count : Byte
  entries : List Byte

def OrderParts.fromReturn (p : OrderParts) : List Byte := tagged 5 p.returnBytes ++ 6 :: p.count :: p.entries

def OrderParts.fromPlan (p : OrderParts) : List Byte := tagged 4 p.planBytes ++ p.fromReturn

def OrderParts.layout (p : OrderParts) : List Byte := tagged 3 p.yieldBytes ++ p.fromPlan

def OrderParts.Sized (p : OrderParts) : Prop :=
  (∀ y, p.yieldBytes = some y → y.length = 6) ∧ (∀ x, p.planBytes = some x → x.length = 9)
    ∧ ∀ r, p.returnBytes = some r → r.length = 7

theorem OrderParts.after_return (p : OrderParts) : StartsAfter 5 (6 :: p.count :: p.entries) :=
  ⟨6, _, rfl, by decide⟩

theorem OrderParts.after_plan (p : OrderParts) : StartsAfter 4 p.fromReturn :=
  startsAfter_tagged _ (by decide) p.after_return

theorem OrderParts.after_yield (p : OrderParts) : StartsAfter 3 p.fromPlan :=
  startsAfter_tagged _ (by decide) p.after_plan

/-- The parts that the three searches of `parseOrder` find. -/
def OrderParts.FoundIn (p : OrderParts) (bs : List Byte) : Prop :=
  ∃ bs3 bs4, optionalPart 3 6 bs = some (p.yieldBytes, bs3) ∧ optionalPart 4 9 bs3 = some (p.planBytes, bs4)
    ∧ optionalPart 5 7 bs4 = some (p.returnBytes, 6 :: p.count :: p.entries)

theorem OrderParts.foundIn_iff (p : OrderParts) (bs : List Byte) : p.FoundIn bs ↔ bs = p.layout ∧ p.Sized := by
  constructor
  · rintro ⟨bs3, bs4, h3, h4, h5⟩
    obtain ⟨rfl, hy⟩ := optionalPart_cuts (tag := 3) h3
    obtain ⟨rfl, hp⟩ := optionalPart_cuts (tag := 4) h4
    obtain ⟨rfl, hr⟩ := optionalPart_cuts (tag := 5) h5
    exact ⟨rfl, hy, hp, hr⟩
  · rintro ⟨rfl, hy, hp, hr⟩
    exact ⟨p.fromPlan, p.fromReturn, optionalPart_tagged p.after_yield hy, optionalPart_tagged p.after_plan hp,
      optionalPart_tagged p.after_return hr⟩

theorem OrderParts.foundIn_unique {p q : OrderParts} {bs : List Byte} (hp : p.FoundIn bs) (hq : q.FoundIn bs) :
    p = q := by
  obtain ⟨bs3, bs4, h3, h4, h5⟩ := hp
  obtain ⟨bs3', bs4', h3', h4', h5'⟩ := hq
  obtain ⟨hy, rfl⟩ : p.yieldBytes = q.yieldBytes ∧ bs3 = bs3' := by simpa [h3] using h3'
  obtain ⟨hx, rfl⟩ : p.planBytes = q.planBytes ∧ bs4 = bs4' := by simpa [h4] using h4'
  obtain ⟨hr, hc, he⟩ : p.returnBytes = q.returnBytes ∧ p.count = q.count ∧ p.entries = q.entries := by
    simpa [h5] using h5'
  obtain ⟨⟩ := p
  obtain ⟨⟩ := q
  simp_all

/-- R183: a tag that comes a second time is not behind its part. -/
theorem tagged_ne_twice {tag : Byte} {part : Option (List Byte)} {rest bytes : List Byte} (more : List Byte)
    (hr : StartsAfter tag rest) (hn : ∀ x, part = some x → x.length = bytes.length) :
    tagged tag part ++ rest ≠ tag :: (bytes ++ tag :: more) := by
  obtain ⟨t, rest, rfl, ht⟩ := hr
  cases part with
  | none =>
    intro h
    simp [tagged] at h
    exact absurd (h.1 ▸ ht) (lt_irrefl _)
  | some x =>
    intro h
    obtain ⟨-, h⟩ := List.append_inj (List.cons.inj h).2 (hn x rfl)
    exact absurd ((List.cons.inj h).1 ▸ ht) (lt_irrefl _)

/-! ## The header -/

/-- Every field of the header and the break part fits the bytes that the layout gives it. -/
def HeadFits (o : Order) : Prop :=
  o.parallelLength < 2 ^ 32 ∧ (∀ t, o.holdTimeout = some t → 1 ≤ t ∧ t ≤ 255) ∧ o.decimation < 256
    ∧ o.armFraction < 65536 ∧ o.dropFraction < 65536

/-- The fields that `parseOrder` reads from the header and the break part. -/
def HeadRead (bs : List Byte) (o : Order) : Prop :=
  RangeMode.ofCode (beNat (slice bs 9 1)) = some o.rangeMode
    ∧ o.testId = BitVec.ofNat 32 (beNat (slice bs 0 4)) ∧ o.parallelLength = beNat (slice bs 4 4)
    ∧ o.holdTimeout = (if beNat (slice bs 8 1) = 0 then none else some (beNat (slice bs 8 1)))
    ∧ o.decimation = beNat (slice bs 10 1) ∧ o.armFraction = beNat (slice bs 11 2)
    ∧ o.dropFraction = beNat (slice bs 13 2)

theorem headLayout_length (o : Order) : (headLayout o).length = 15 := by
  simp [headLayout, wordBytes, natBytes_length]

theorem headRead_headLayout {o : Order} (rest : List Byte) (h : HeadFits o) : HeadRead (headLayout o ++ rest) o := by
  obtain ⟨hlength, hhold, hdec, harm, hdrop⟩ := h
  have htime : o.holdTimeout.getD 0 < 256 := by
    cases ho : o.holdTimeout with
    | none => simp
    | some t => have := (hhold t ho).2; simp; omega
  have hbyte : beNat (slice (headLayout o ++ rest) 8 1) = o.holdTimeout.getD 0 := beNat_natBytes 1 htime
  refine ⟨(rangeMode_ofCode_iff _ _).2 (beNat_natBytes 1 ?_), (beNat_wordBytes o.testId).symm,
    (beNat_natBytes 4 hlength).symm, ?_, (beNat_natBytes 1 hdec).symm, (beNat_natBytes 2 harm).symm,
    (beNat_natBytes 2 hdrop).symm⟩
  · rcases o.rangeMode with _ | r
    · decide
    · cases r <;> decide
  · rw [hbyte]
    cases ho : o.holdTimeout with
    | none => simp
    | some t => have := (hhold t ho).1; simp; omega

theorem headLayout_of_headRead {bs : List Byte} {o : Order} (hl : 15 ≤ bs.length) (h : HeadRead bs o) :
    bs = headLayout o ++ bs.drop 15 ∧ HeadFits o := by
  obtain ⟨hrange, hid, hlength, hhold, hdec, harm, hdrop⟩ := h
  have htime : o.holdTimeout.getD 0 = beNat (slice bs 8 1) := by
    rw [hhold]
    split <;> simp_all
  have hword : wordBytes o.testId = slice bs 0 4 := by
    rw [hid, wordBytes_beNat (slice_length (by omega))]
  constructor
  · rw [headLayout, htime, ← (rangeMode_ofCode_iff _ _).1 hrange, hword, hlength, hdec, harm, hdrop]
    rw [natBytes_slice (by omega), natBytes_slice (by omega), natBytes_slice (by omega), natBytes_slice (by omega),
      natBytes_slice (by omega), natBytes_slice (by omega)]
    simp only [List.append_assoc, slice_append_drop, List.drop_zero]
  · refine ⟨hlength ▸ beNat_slice_lt bs 4 4, fun t ht => ?_, hdec ▸ beNat_slice_lt bs 10 1,
      harm ▸ beNat_slice_lt bs 11 2, hdrop ▸ beNat_slice_lt bs 13 2⟩
    have hlt := beNat_slice_lt bs 8 1
    rw [hhold] at ht
    split at ht <;> simp at ht
    omega

/-! ## The whole payload -/

def readYield (y : List Byte) : YieldPlan := { drop := beNat (slice y 0 2), strainLimit := beNat (slice y 2 4) }

def readReturn (r : List Byte) : ReturnPlan :=
  { rate := beNat (slice r 0 2), position := beNat (slice r 2 4), share := beNat (slice r 6 1) }

def readPlan : Option (List Byte) → Option (Option ExtPlan)
  | none => some none
  | some bytes => (parsePlan bytes).map some

/-- R183: the phase count behind its tag, and the phase entries. -/
def readPhases : List Byte → Option (List Phase)
  | tag :: count :: entries => if tag.toNat = 6 then parsePhases count.toNat entries else none
  | _ => none

/-- The order of a payload with these parts. -/
def orderRead (bs : List Byte) (rangeMode : RangeMode) (yieldBytes returnBytes : Option (List Byte))
    (plan : Option ExtPlan) (phases : List Phase) : Order :=
  { testId := BitVec.ofNat 32 (beNat (slice bs 0 4)), parallelLength := beNat (slice bs 4 4)
    holdTimeout := if beNat (slice bs 8 1) = 0 then none else some (beNat (slice bs 8 1))
    rangeMode, decimation := beNat (slice bs 10 1), armFraction := beNat (slice bs 11 2)
    dropFraction := beNat (slice bs 13 2), yieldPlan := yieldBytes.map readYield, plan
    returnPlan := returnBytes.map readReturn, phases }

theorem parseOrder_eq {bs : List Byte} (h : 15 ≤ bs.length) :
    parseOrder bs = (RangeMode.ofCode (beNat (slice bs 9 1))).bind fun rangeMode =>
      (optionalPart 3 6 (bs.drop 15)).bind fun y => (optionalPart 4 9 y.2).bind fun p =>
        (optionalPart 5 7 p.2).bind fun r => (readPlan p.1).bind fun plan =>
          (readPhases r.2).bind fun phases => some (orderRead bs rangeMode y.1 r.1 plan phases) := by
  unfold parseOrder
  rw [if_neg (Nat.not_lt.2 h)]
  refine bind_congr fun rangeMode => bind_congr fun y => bind_congr fun p => bind_congr fun r => ?_
  obtain ⟨planBytes, bs4⟩ := p
  obtain ⟨returnBytes, bs5⟩ := r
  rcases bs5 with _ | ⟨tag, _ | ⟨count, entries⟩⟩
  · cases planBytes <;> rfl
  · cases planBytes <;> rfl
  · by_cases htag : tag.toNat = 6
    · simp only [readPhases, htag, if_true]
      cases planBytes <;> rfl
    · simp only [readPhases, htag, if_false]
      cases planBytes <;> rfl

/-- The fields that `parseOrder` reads from these parts. -/
def PartsRead (p : OrderParts) (o : Order) : Prop :=
  o.yieldPlan = p.yieldBytes.map readYield ∧ readPlan p.planBytes = some o.plan
    ∧ o.returnPlan = p.returnBytes.map readReturn ∧ parsePhases p.count.toNat p.entries = some o.phases

theorem readPhases_eq_some (bs : List Byte) (ps : List Phase) : readPhases bs = some ps ↔
    ∃ count entries, bs = 6 :: count :: entries ∧ parsePhases count.toNat entries = some ps := by
  rcases bs with _ | ⟨tag, _ | ⟨count, entries⟩⟩
  · simp [readPhases]
  · simp [readPhases]
  · have htag : tag.toNat = 6 ↔ tag = 6 := by bv_omega
    simp only [readPhases, htag]
    split <;> simp_all

theorem parseOrder_iff (bs : List Byte) (o : Order) : parseOrder bs = some o ↔
    15 ≤ bs.length ∧ HeadRead bs o ∧ ∃ p : OrderParts, p.FoundIn (bs.drop 15) ∧ PartsRead p o := by
  by_cases hl : 15 ≤ bs.length
  · rw [parseOrder_eq hl]
    simp only [Option.bind_eq_some_iff, Option.some_inj, readPhases_eq_some, hl, true_and]
    constructor
    · rintro ⟨rm, hrm, ⟨y, bs3⟩, h3, ⟨p, bs4⟩, h4, ⟨r, bs5⟩, h5, plan, hplan, phases, ⟨count, entries, rfl, hps⟩, rfl⟩
      exact ⟨⟨hrm, rfl, rfl, rfl, rfl, rfl, rfl⟩, ⟨y, p, r, count, entries⟩, ⟨bs3, bs4, h3, h4, h5⟩, rfl, hplan, rfl, hps⟩
    · rintro ⟨⟨hrm, hid, hlength, hhold, hdec, harm, hdrop⟩, ⟨y, p, r, count, entries⟩, ⟨bs3, bs4, h3, h4, h5⟩, hy, hplan,
        hr, hps⟩
      refine ⟨_, hrm, _, h3, _, h4, _, h5, _, hplan, _, ⟨_, _, rfl, hps⟩, ?_⟩
      obtain ⟨⟩ := o
      simp_all [orderRead]
  · simp [hl, parseOrder, Nat.not_le.1 hl]

end Sys2Proof.Proofs
end

section
namespace Sys2Proof.Proofs
open Sys2Proof.Machine Sys2Proof.Safety Sys2Proof.Laws

/-! ## The layout of an ORDER and what is read from it -/

/-- Every field of the yield part fits the bytes that the layout gives it. -/
def YieldFits (y : YieldPlan) : Prop := y.drop < 65536 ∧ y.strainLimit < 2 ^ 32

/-- Every field of the return part fits the bytes that the layout gives it. -/
def ReturnFits (r : ReturnPlan) : Prop := r.rate < 65536 ∧ r.position < 2 ^ 32 ∧ r.share < 256

theorem yieldLayout_length (y : YieldPlan) : (yieldLayout y).length = 6 := by
  simp [yieldLayout, natBytes_length]

theorem returnLayout_length (r : ReturnPlan) : (returnLayout r).length = 7 := by
  simp [returnLayout, natBytes_length]

theorem readYield_yieldLayout {y : YieldPlan} (h : YieldFits y) : readYield (yieldLayout y) = y := by
  obtain ⟨hdrop, hlimit⟩ := h
  have h1 : beNat (slice (yieldLayout y) 0 2) = y.drop := beNat_natBytes 2 hdrop
  have h2 : beNat (slice (yieldLayout y) 2 4) = y.strainLimit := beNat_natBytes 4 hlimit
  rw [readYield, h1, h2]

theorem yieldLayout_readYield {bs : List Byte} (hl : bs.length = 6) :
    yieldLayout (readYield bs) = bs ∧ YieldFits (readYield bs) := by
  refine ⟨?_, beNat_slice_lt bs 0 2, beNat_slice_lt bs 2 4⟩
  have hlast : slice bs 2 4 = bs.drop 2 := List.take_of_length_le (by simp [hl])
  rw [yieldLayout, readYield, natBytes_slice (by omega), natBytes_slice (by omega)]
  simp only [hlast, slice_append_drop, List.drop_zero]

theorem readReturn_returnLayout {r : ReturnPlan} (h : ReturnFits r) : readReturn (returnLayout r) = r := by
  obtain ⟨hrate, hpos, hshare⟩ := h
  have h1 : beNat (slice (returnLayout r) 0 2) = r.rate := beNat_natBytes 2 hrate
  have h2 : beNat (slice (returnLayout r) 2 4) = r.position := beNat_natBytes 4 hpos
  have h3 : beNat (slice (returnLayout r) 6 1) = r.share := beNat_natBytes 1 hshare
  rw [readReturn, h1, h2, h3]

theorem returnLayout_readReturn {bs : List Byte} (hl : bs.length = 7) :
    returnLayout (readReturn bs) = bs ∧ ReturnFits (readReturn bs) := by
  refine ⟨?_, beNat_slice_lt bs 0 2, beNat_slice_lt bs 2 4, beNat_slice_lt bs 6 1⟩
  have hlast : slice bs 6 1 = bs.drop 6 := List.take_of_length_le (by simp [hl])
  rw [returnLayout, readReturn, natBytes_slice (by omega), natBytes_slice (by omega), natBytes_slice (by omega)]
  simp only [List.append_assoc, hlast, slice_append_drop, List.drop_zero]

/-- The bytes that the layout gives the parts behind the header. -/
def partsOf (o : Order) : OrderParts where
  yieldBytes := o.yieldPlan.map yieldLayout
  planBytes := o.plan.map planLayout
  returnBytes := o.returnPlan.map returnLayout
  count := BitVec.ofNat 8 o.phases.length
  entries := o.phases.flatMap phaseLayout

/-- Every field behind the header fits the bytes that the layout gives it. -/
def PartsFit (o : Order) : Prop :=
  o.phases.length < 256 ∧ (∀ y, o.yieldPlan = some y → YieldFits y) ∧ (∀ p, o.plan = some p → PlanFits p)
    ∧ (∀ r, o.returnPlan = some r → ReturnFits r) ∧ ∀ p ∈ o.phases, PhaseFits p

theorem orderFits_iff (o : Order) : OrderFits o ↔ HeadFits o ∧ PartsFit o := by
  simp only [OrderFits, HeadFits, PartsFit, YieldFits, PlanFits, ReturnFits, PhaseFits, and_assoc]

theorem orderLayout_eq (o : Order) : orderLayout o = headLayout o ++ (partsOf o).layout := by
  simp [orderLayout, OrderParts.layout, OrderParts.fromPlan, OrderParts.fromReturn, partsOf, natBytes]

theorem partsOf_sized (o : Order) : (partsOf o).Sized := by
  refine ⟨fun y hy => ?_, fun p hp => ?_, fun r hr => ?_⟩
  · obtain ⟨y, -, rfl⟩ := Option.map_eq_some_iff.1 hy
    exact yieldLayout_length y
  · obtain ⟨p, -, rfl⟩ := Option.map_eq_some_iff.1 hp
    exact planLayout_length p
  · obtain ⟨r, -, rfl⟩ := Option.map_eq_some_iff.1 hr
    exact returnLayout_length r

theorem partsRead_partsOf {o : Order} (h : PartsFit o) : PartsRead (partsOf o) o := by
  obtain ⟨hcount, hyield, hplan, hreturn, hphases⟩ := h
  refine ⟨?_, ?_, ?_, ?_⟩
  · cases hy : o.yieldPlan with
    | none => simp [partsOf, hy]
    | some y => simp [partsOf, hy, readYield_yieldLayout (hyield y hy)]
  · cases hp : o.plan with
    | none => simp [partsOf, hp, readPlan]
    | some p => simp [partsOf, hp, readPlan, parsePlan_planLayout (hplan p hp)]
  · cases hr : o.returnPlan with
    | none => simp [partsOf, hr]
    | some r => simp [partsOf, hr, readReturn_returnLayout (hreturn r hr)]
  · exact (parsePhases_iff _ _ _).2 ⟨rfl, (Nat.mod_eq_of_lt hcount).symm, hphases⟩

theorem partsOf_of_partsRead {p : OrderParts} {o : Order} (hs : p.Sized) (h : PartsRead p o) :
    p = partsOf o ∧ PartsFit o := by
  obtain ⟨hsy, hsp, hsr⟩ := hs
  obtain ⟨hyield, hplan, hreturn, hphases⟩ := h
  obtain ⟨hentries, hcount, hfits⟩ := (parsePhases_iff _ _ _).1 hphases
  obtain ⟨y, x, r, count, entries⟩ := p
  have hy : y = o.yieldPlan.map yieldLayout ∧ ∀ z, o.yieldPlan = some z → YieldFits z := by
    cases y with
    | none =>
      have ho : o.yieldPlan = none := hyield
      exact ⟨by rw [ho]; rfl, by simp [ho]⟩
    | some y =>
      obtain ⟨hbytes, hfit⟩ := yieldLayout_readYield (hsy y rfl)
      have ho : o.yieldPlan = some (readYield y) := hyield
      exact ⟨by rw [ho, Option.map_some, hbytes], fun z hz => Option.some.inj (ho.symm.trans hz) ▸ hfit⟩
  have hx : x = o.plan.map planLayout ∧ ∀ z, o.plan = some z → PlanFits z := by
    cases x with
    | none =>
      have ho : o.plan = none := (Option.some.inj hplan).symm
      exact ⟨by rw [ho]; rfl, by simp [ho]⟩
    | some x =>
      obtain ⟨z, hz, ho⟩ := Option.map_eq_some_iff.1 hplan
      obtain ⟨hbytes, hfit⟩ := planLayout_of_parsePlan (hsp x rfl) hz
      exact ⟨by rw [← ho, Option.map_some, ← hbytes], fun z' hz' => Option.some.inj (ho.trans hz') ▸ hfit⟩
  have hr : r = o.returnPlan.map returnLayout ∧ ∀ z, o.returnPlan = some z → ReturnFits z := by
    cases r with
    | none =>
      have ho : o.returnPlan = none := hreturn
      exact ⟨by rw [ho]; rfl, by simp [ho]⟩
    | some r =>
      obtain ⟨hbytes, hfit⟩ := returnLayout_readReturn (hsr r rfl)
      have ho : o.returnPlan = some (readReturn r) := hreturn
      exact ⟨by rw [ho, Option.map_some, hbytes], fun z hz => Option.some.inj (ho.symm.trans hz) ▸ hfit⟩
  have hc : BitVec.ofNat 8 o.phases.length = count := by
    rw [hcount]
    exact BitVec.eq_of_toNat_eq (Nat.mod_eq_of_lt count.isLt)
  refine ⟨?_, by rw [hcount]; exact count.isLt, hy.2, hx.2, hr.2, hfits⟩
  rw [partsOf, ← hy.1, ← hx.1, ← hr.1, hc, ← hentries]

/-- R183: a payload carries an order exactly when it is the layout of that order. -/
theorem parseOrder_eq_some (bs : List Byte) (o : Order) :
    parseOrder bs = some o ↔ bs = orderLayout o ∧ OrderFits o := by
  rw [parseOrder_iff, orderFits_iff]
  constructor
  · rintro ⟨hl, hhead, p, hfound, hparts⟩
    obtain ⟨hdrop, hsized⟩ := (p.foundIn_iff _).1 hfound
    obtain ⟨rfl, hpfits⟩ := partsOf_of_partsRead hsized hparts
    obtain ⟨hbytes, hhfits⟩ := headLayout_of_headRead hl hhead
    exact ⟨by rw [orderLayout_eq, ← hdrop, ← hbytes], hhfits, hpfits⟩
  · rintro ⟨rfl, hhead, hparts⟩
    have hdrop : (orderLayout o).drop 15 = (partsOf o).layout := by
      rw [orderLayout_eq, ← headLayout_length o, List.drop_left]
    refine ⟨by simp [orderLayout_eq, headLayout_length], ?_, partsOf o, ?_, partsRead_partsOf hparts⟩
    · rw [orderLayout_eq]
      exact headRead_headLayout _ hhead
    · rw [hdrop]
      exact ((partsOf o).foundIn_iff _).2 ⟨rfl, partsOf_sized o⟩

theorem flatMap_phaseLayout_length (ps : List Phase) : (ps.flatMap phaseLayout).length = 14 * ps.length := by
  induction ps with
  | nil => rfl
  | cons p ps ih => simp [ih, phaseLayout_length]; omega

/-- R3, R183: what stands behind an order's layout is not there by its length. -/
theorem parseOrder_runs_on {o : Order} {more : List Byte} (h : PartsFit o) (hm : more ≠ []) :
    parseOrder (orderLayout o ++ more) = none := by
  refine Option.eq_none_iff_forall_ne_some.2 fun o' ho' => hm ?_
  obtain ⟨-, -, p, hfound, -, -, -, hphases⟩ := (parseOrder_iff _ _).1 ho'
  have hdrop : (orderLayout o ++ more).drop 15
      = { partsOf o with entries := (partsOf o).entries ++ more : OrderParts }.layout := by
    rw [orderLayout_eq, List.append_assoc, ← headLayout_length o, List.drop_left]
    simp [OrderParts.layout, OrderParts.fromPlan, OrderParts.fromReturn]
  have hlong : OrderParts.FoundIn { partsOf o with entries := (partsOf o).entries ++ more } _ :=
    (OrderParts.foundIn_iff _ _).2 ⟨hdrop, partsOf_sized o⟩
  obtain rfl := OrderParts.foundIn_unique hfound hlong
  obtain ⟨hbytes, hcount, -⟩ := (parsePhases_iff _ _ _).1 hphases
  have hsame : o'.phases.length = o.phases.length := hcount.trans (Nat.mod_eq_of_lt h.1)
  have hlength := congrArg List.length hbytes
  simp only [partsOf, List.length_append, flatMap_phaseLayout_length, hsame] at hlength
  exact List.length_eq_zero_iff.1 (by omega)

theorem parseOrder_cut_short {o : Order} {n : Nat} (h : OrderFits o) (hn : n < (orderLayout o).length) :
    parseOrder ((orderLayout o).take n) = none := by
  refine Option.eq_none_iff_forall_ne_some.2 fun o' ho' => ?_
  obtain ⟨htake, hfits⟩ := (parseOrder_eq_some _ _).1 ho'
  have hmore : (orderLayout o).drop n ≠ [] := by simpa using hn
  have hwhole : orderLayout o' ++ (orderLayout o).drop n = orderLayout o := by rw [← htake, List.take_append_drop]
  have hno := parseOrder_runs_on ((orderFits_iff _).1 hfits).2 hmore
  rw [hwhole, (parseOrder_eq_some _ _).2 ⟨rfl, h⟩] at hno
  simp at hno

/-- R183: a part that comes twice is no order. -/
theorem parseOrder_twice {o : Order} {bs : List Byte} (h : ∀ p : OrderParts, p.Sized → p.layout ≠ bs) :
    parseOrder (headLayout o ++ bs) = none := by
  refine Option.eq_none_iff_forall_ne_some.2 fun o' ho' => ?_
  obtain ⟨-, -, p, hfound, -⟩ := (parseOrder_iff _ _).1 ho'
  obtain ⟨hlayout, hsized⟩ := (p.foundIn_iff _).1 hfound
  rw [← headLayout_length o, List.drop_left] at hlayout
  exact h p hsized hlayout.symm

/-- A part whose tag is not the first byte is not there. -/
theorem tagged_none {tag t : Byte} {part : Option (List Byte)} {rest bs : List Byte} (ht : tag ≠ t)
    (h : tagged tag part ++ rest = t :: bs) : tagged tag part ++ rest = rest := by
  cases part with
  | none => rfl
  | some x => exact absurd (List.cons.inj h).1 ht

theorem yield_ne_twice {p : OrderParts} (hp : p.Sized) (y : YieldPlan) (rest : List Byte) :
    p.layout ≠ 3 :: (yieldLayout y ++ 3 :: rest) :=
  tagged_ne_twice rest p.after_yield fun x hx => by rw [hp.1 x hx, yieldLayout_length]

theorem plan_ne_twice {p : OrderParts} (hp : p.Sized) (x : ExtPlan) (rest : List Byte) :
    p.layout ≠ 4 :: (planLayout x ++ 4 :: rest) := by
  intro h
  have hyield : p.layout = p.fromPlan := tagged_none (by decide) h
  rw [hyield] at h
  exact tagged_ne_twice rest p.after_plan (fun z hz => by rw [hp.2.1 z hz, planLayout_length]) h

theorem return_ne_twice {p : OrderParts} (hp : p.Sized) (r : ReturnPlan) (rest : List Byte) :
    p.layout ≠ 5 :: (returnLayout r ++ 5 :: rest) := by
  intro h
  have hyield : p.layout = p.fromPlan := tagged_none (by decide) h
  rw [hyield] at h
  have hplan : p.fromPlan = p.fromReturn := tagged_none (by decide) h
  rw [hplan] at h
  exact tagged_ne_twice rest p.after_return (fun z hz => by rw [hp.2.2 z hz, returnLayout_length]) h

/-! ## The content checks -/

theorem within_iff (lo hi n : Nat) : within lo hi n = true ↔ lo ≤ n ∧ n ≤ hi := by
  simp [within]

theorem phaseInRange_iff (p : Phase) : p.inRange = true ↔
    (1 ≤ p.rateLimit ∧ p.rateLimit ≤ 20000) ∧ p.share ≤ 255
      ∧ (p.mode = .loadRate ∨ p.mode = .strainRate → 1 ≤ p.step ∧ p.step ≤ 255) := by
  cases hm : p.mode <;> simp [Phase.inRange, within_iff, hm, and_assoc]

theorem planInRange_iff (p : ExtPlan) (n : Nat) : p.inRange n = true ↔
    (10 ≤ p.slipTolerance ∧ p.slipTolerance ≤ 1000) ∧ (1 ≤ p.gauge ∧ p.gauge ≤ 5)
      ∧ (p.removal = .atStrain → 1 ≤ p.value ∧ p.value ≤ 1000000)
      ∧ (p.removal = .atPeakDrop → 5 ≤ p.value ∧ p.value ≤ 900)
      ∧ (p.removal = .atPhaseEnd → 1 ≤ p.value ∧ p.value ≤ n) := by
  cases hm : p.removal <;> simp [ExtPlan.inRange, within_iff, hm, and_assoc] <;> tauto

/-- R3: the range check of an order, an optional part checked where it is there. -/
theorem orderInRange_eq (o : Order) : o.inRange =
    (within 1 8 o.phases.length && within 1000 1000000 o.parallelLength && o.holdTimeout.all (within 1 60)
      && [1, 2, 4, 8].contains o.decimation && within 5 200 o.armFraction && within 200 900 o.dropFraction
      && o.yieldPlan.all (fun y => within 5 50 y.drop && within 1 1000000 y.strainLimit)
      && o.plan.all (fun p => p.inRange o.phases.length)
      && o.returnPlan.all (fun r => within 1 20000 r.rate && within 0 travelEnd r.position && within 0 255 r.share)
      && o.phases.all Phase.inRange) := by
  obtain ⟨_, _, hold, _, _, _, _, yieldPlan, plan, returnPlan, _⟩ := o
  cases hold <;> cases yieldPlan <;> cases plan <;> cases returnPlan <;> rfl

theorem sharesFit_eq (o : Order) (capacity : Nat) : o.sharesFit capacity =
    (o.phases.all (fun p => p.share ≤ capacity) && o.returnPlan.all (fun r => r.share ≤ capacity)) := by
  unfold Order.sharesFit
  cases o.returnPlan <;> rfl

theorem partsPresent_iff (o : Order) : o.partsPresent = true ↔
    ∀ p ∈ o.phases, (p.source = .extRequired → o.plan ≠ none) ∧ (p.endKind = .yieldFound → o.yieldPlan ≠ none) := by
  simp [Order.partsPresent, Option.isSome_iff_ne_none, imp_iff_not_or]

/-- R3 whole, as `acceptableOrder` checks it. -/
def contentPasses (c : Settings) (o : Order) : Bool :=
  o.inRange && o.partsPresent && (o.plan.isNone || c.extFitted) && o.sharesFit c.capacity

theorem contentPasses_iff (c : Settings) (o : Order) :
    contentPasses c o = true ↔ OrderGood c.capacity c.extFitted o := by
  simp only [contentPasses, orderInRange_eq, sharesFit_eq, Bool.and_eq_true, Option.all_eq_true, List.all_eq_true,
    within_iff, partsPresent_iff, phaseInRange_iff, planInRange_iff, decide_eq_true_eq, Bool.or_eq_true,
    Option.isNone_iff_eq_none, List.contains_iff_mem, and_assoc]
  unfold OrderGood
  constructor
  · rintro ⟨hn, hn', hl, hl', hhold, hdec, ha, ha', hd, hd', hyield, hplan, hreturn, hphases, hparts, hfit, hshares,
      hshare⟩
    refine ⟨⟨hn, hn'⟩, ⟨hl, hl'⟩, hhold, by simpa using hdec, ⟨ha, ha'⟩, ⟨hd, hd'⟩, fun y hy => ?_, fun p hp => ?_,
      fun r hr => ?_, fun p hp => ?_⟩
    · obtain ⟨hlo, hhi, hs, hs'⟩ := hyield y hy
      exact ⟨⟨hlo, hhi⟩, hs, hs'⟩
    · obtain ⟨hs, hs', hg, hg', hkind⟩ := hplan p hp
      exact ⟨hfit.resolve_left (by simp [hp]), ⟨hs, hs'⟩, ⟨hg, hg'⟩, hkind⟩
    · obtain ⟨hrate, hrate', -, hpos, -, hs⟩ := hreturn r hr
      exact ⟨⟨hrate, hrate'⟩, hpos, hs, hshare r hr⟩
    · obtain ⟨hrate, hrate', hs, hstep⟩ := hphases p hp
      exact ⟨⟨hrate, hrate'⟩, hs, hshares p hp, hstep, hparts p hp⟩
  · rintro ⟨⟨hn, hn'⟩, ⟨hl, hl'⟩, hhold, hdec, ⟨ha, ha'⟩, ⟨hd, hd'⟩, hyield, hplan, hreturn, hphases⟩
    refine ⟨hn, hn', hl, hl', hhold, by simpa using hdec, ha, ha', hd, hd', fun y hy => ?_, fun p hp => ?_,
      fun r hr => ?_, fun p hp => ?_, fun p hp => ?_, ?_, fun p hp => ?_, fun r hr => ?_⟩
    · obtain ⟨⟨hlo, hhi⟩, hs, hs'⟩ := hyield y hy
      exact ⟨hlo, hhi, hs, hs'⟩
    · obtain ⟨-, ⟨hs, hs'⟩, ⟨hg, hg'⟩, hkind⟩ := hplan p hp
      exact ⟨hs, hs', hg, hg', hkind⟩
    · obtain ⟨⟨hrate, hrate'⟩, hpos, hs, -⟩ := hreturn r hr
      exact ⟨hrate, hrate', Nat.zero_le _, hpos, Nat.zero_le _, hs⟩
    · obtain ⟨⟨hrate, hrate'⟩, hs, -, hstep, -⟩ := hphases p hp
      exact ⟨hrate, hrate', hs, hstep⟩
    · obtain ⟨-, -, -, -, hsource⟩ := hphases p hp
      exact hsource
    · cases hp : o.plan with
      | none => exact .inl rfl
      | some p => exact .inr (hplan p hp).1
    · obtain ⟨-, -, hs, -⟩ := hphases p hp
      exact hs
    · obtain ⟨-, -, -, hs⟩ := hreturn r hr
      exact hs

theorem acceptableOrder_eq_some (c : Settings) (bs : List Byte) (o : Order) :
    acceptableOrder c bs = some o ↔ bs = orderLayout o ∧ OrderFits o ∧ OrderGood c.capacity c.extFitted o := by
  rw [← and_assoc, ← parseOrder_eq_some, ← contentPasses_iff]
  exact Option.filter_eq_some_iff

theorem acceptableOrder_of_unread (c : Settings) {bs : List Byte} (h : parseOrder bs = none) :
    acceptableOrder c bs = none := by
  rw [acceptableOrder, h, Option.filter_none]

/-- Settles O56: a payload is read as an order exactly when it is the layout of that order (`parseOrder_eq_some`), and the
content checks say what `OrderGood` says. -/
theorem orderContentIsChecked : Obligations.OrderContentIsChecked := by
  unfold Obligations.OrderContentIsChecked
  refine ⟨fun c o hfits => ⟨fun hgood => ?_, fun hbad => ?_, fun more hm => ?_, fun n hn => ?_⟩,
    fun c o y p r rest => ⟨?_, ?_, ?_⟩, fun c bytes o => (acceptableOrder_eq_some c bytes o).1⟩
  · exact (acceptableOrder_eq_some c _ o).2 ⟨rfl, hfits, hgood⟩
  · rw [acceptableOrder, (parseOrder_eq_some _ _).2 ⟨rfl, hfits⟩]
    exact Option.filter_some_neg (Bool.eq_false_iff.2 (mt (contentPasses_iff c o).1 hbad))
  · exact acceptableOrder_of_unread c (parseOrder_runs_on ((orderFits_iff _).1 hfits).2 hm)
  · exact acceptableOrder_of_unread c (parseOrder_cut_short hfits hn)
  · rw [List.append_assoc]
    exact acceptableOrder_of_unread c (parseOrder_twice fun p hp => yield_ne_twice hp y rest)
  · rw [List.append_assoc]
    exact acceptableOrder_of_unread c (parseOrder_twice fun q hq => plan_ne_twice hq p rest)
  · rw [List.append_assoc]
    exact acceptableOrder_of_unread c (parseOrder_twice fun p hp => return_ne_twice hp r rest)

end Sys2Proof.Proofs
end

section
namespace Sys2Proof.Proofs
open Sys2Proof.Machine Sys2Proof.Safety Sys2Proof.Laws

/-! ## The drive port and the forcing conditions -/

/-- Every command answers with the end of a command: its own effect, and then `finish`. -/
theorem exec_finishes (c : Instr) (s : State) : ∃ t, exec c s = .next (finish s t) := by
  cases c <;> exact ⟨_, rfl⟩

theorem portSafe_passBitTime {s : State} (h : PortSafe s) : PortSafe (passBitTime s) := by
  intro hf
  rw [forced_passBitTime] at hf
  rw [(passBitTime_travel s).1, h hf]

/-- A step is a command on the rest of the queue, or, with no command waiting, the passing of a bit time. -/
theorem step_cases {s t : State} (h : step s = .next t) :
    (s.pending = [] ∧ t = passBitTime s)
      ∨ ∃ c rest, s.pending = c :: rest ∧ exec c (s.setPending rest) = .next t := by
  unfold step at h
  cases hp : s.pending with
  | nil =>
    simp only [hp, Host.Outcome.next.injEq] at h
    exact .inl ⟨rfl, h.symm⟩
  | cons c rest =>
    simp only [hp] at h
    exact .inr ⟨c, rest, rfl, h⟩

/-- Settles O3: every command ends with `finish`, and a bit time touches nothing that a forcing condition reads. -/
theorem portObeysForcing : Obligations.PortObeysForcing := by
  unfold Obligations.PortObeysForcing
  have hexec : ∀ (c : Instr) (s : State), Next (exec c s) PortSafe := by
    intro c s
    obtain ⟨t, ht⟩ := exec_finishes c s
    exact ⟨_, ht, portSafe_finish s t⟩
  refine ⟨hexec, fun s t hs h => ?_⟩
  rcases step_cases h with ⟨-, rfl⟩ | ⟨c, rest, -, hc⟩
  · exact portSafe_passBitTime hs
  · obtain ⟨u, hu, hsafe⟩ := hexec c (s.setPending rest)
    rw [hc, Host.Outcome.next.injEq] at hu
    rwa [hu]

/-! ## The invariants right after reset -/

/-- Settles O7: at reset the port is at zero, and the queue, the store, the table and every count are empty. -/
theorem resetMeetsInvariants : Obligations.ResetMeetsInvariants := by
  unfold Obligations.ResetMeetsInvariants
  have hframes : FrameInHand State.reset :=
    ⟨fun _ hc => (nomatch hc), fun _ _ hi => (nomatch hi)⟩
  have hbounds : Bounded State.reset := by
    refine ⟨by decide, by decide, ⟨by decide, .nil⟩, by decide, by decide, by decide, by decide, by decide, by decide,
      by decide, by decide, by decide⟩
  exact ⟨fun _ => rfl, hbounds, ⟨rfl, hframes⟩, fun h => (nomatch h), by decide, fun _ => ⟨rfl, rfl⟩⟩

/-! ## The limit stage -/

theorem natAbs_clampMag (m : Nat) (v : Int) : (clampMag m v).natAbs = min m v.natAbs := by
  unfold clampMag
  omega

theorem clampMag_nonneg (m : Int) {v : Int} (h : 0 ≤ v) : 0 ≤ clampMag m v := by
  unfold clampMag
  omega

theorem clampMag_nonpos {m v : Int} (hm : 0 ≤ m) (h : v ≤ 0) : clampMag m v ≤ 0 := by
  unfold clampMag
  omega

/-- R44: a clamp that is made only where its limit is given. -/
def clampTo (m : Option Nat) (v : Int) : Int :=
  match m with
  | none => v
  | some l => clampMag l v

/-- The limit stage is one clamp after the other. -/
theorem limitStage_eq (q : Request) (zone : Option Zone) (v : Int) :
    limitStage q zone v = clampTo (some 20000) (clampTo (zone.map (·.speedCap)) (clampTo q.limit v)) := by
  unfold limitStage
  cases zone <;> rfl

theorem clampTo_nonneg (m : Option Nat) {v : Int} (h : 0 ≤ v) : 0 ≤ clampTo m v := by
  cases m with
  | none => exact h
  | some l => exact clampMag_nonneg l h

theorem clampTo_nonpos (m : Option Nat) {v : Int} (h : v ≤ 0) : clampTo m v ≤ 0 := by
  cases m with
  | none => exact h
  | some l => exact clampMag_nonpos (Int.natCast_nonneg l) h

theorem natAbs_clampTo (m : Option Nat) {v : Int} {n : Nat} (h : v.natAbs ≤ n) :
    (clampTo m v).natAbs = min (m.getD n) v.natAbs := by
  cases m with
  | none => simpa [clampTo] using h
  | some l => exact natAbs_clampMag l v

theorem natAbs_limitStage (q : Request) (zone : Option Zone) (v : Int) :
    (limitStage q zone v).natAbs
      = min 20000 (min ((zone.map (·.speedCap)).getD v.natAbs) (min (q.limit.getD v.natAbs) v.natAbs)) := by
  have hmode := natAbs_clampTo q.limit (le_refl v.natAbs)
  have hle : (clampTo q.limit v).natAbs ≤ v.natAbs := hmode ▸ Nat.min_le_right _ _
  rw [limitStage_eq, natAbs_clampTo (some 20000) (le_refl _), natAbs_clampTo _ hle, hmode, Option.getD_some]

theorem limitStage_nonneg (q : Request) (zone : Option Zone) {v : Int} (h : 0 ≤ v) : 0 ≤ limitStage q zone v := by
  rw [limitStage_eq]
  exact clampTo_nonneg _ (clampTo_nonneg _ (clampTo_nonneg _ h))

theorem limitStage_nonpos (q : Request) (zone : Option Zone) {v : Int} (h : v ≤ 0) : limitStage q zone v ≤ 0 := by
  rw [limitStage_eq]
  exact clampTo_nonpos _ (clampTo_nonpos _ (clampTo_nonpos _ h))

theorem phaseRequest_limit (p : Phase) : p.request.limit = some p.rateLimit := by
  unfold Phase.request
  cases p.mode <;> rfl

/-- Settles O20: the limit stage is three optional clamps (`limitStage_eq`), and the regulator writes its result
back. -/
theorem limitStageClamps : Obligations.LimitStageClamps := by
  unfold Obligations.LimitStageClamps
  refine ⟨fun target step l => ⟨rfl, rfl, rfl, rfl, rfl, rfl⟩, phaseRequest_limit, fun s o p hf hr ho hp => ?_,
    fun q zone v => ⟨limitStage_nonneg q zone, limitStage_nonpos q zone, natAbs_limitStage q zone v⟩,
    fun q r s hf hq => ⟨regulateSample_applied r hf hq, fun _ => (regulateSample_moves r hf hq).2.1⟩⟩
  rw [demandRequest_returning hf hr ho hp]
  split
  · exact .inr rfl
  · exact .inl rfl

end Sys2Proof.Proofs
end

section
namespace Sys2Proof.Proofs
open Sys2Proof.Machine Sys2Proof.Safety Sys2Proof.Laws

/-! ## The measure unit -/

/-- R45: what the travel unit holds beside the demand applied and the trip forces nothing. -/
theorem finish_setTravel {s : State} {x : Travel} (hp : PortSafe s) (ha : x.applied = s.travel.applied)
    (ht : x.tripped = s.travel.tripped) : finish s (s.setTravel x) = s.setTravel x := by
  have hforced : forced (s.setTravel x) = forced s := forced_congr rfl rfl rfl rfl rfl rfl rfl ht
  refine finish_eq s _ rfl fun hf => ?_
  rw [hforced] at hf
  exact ha.trans (hp hf)

theorem closeGate_fast {sum : Int} (t : Travel) (us : Nat) (h : 16 ≤ sum.natAbs) :
    t.closeGate sum us
      = { t with gateDue := none, velocity := (sum * 1000000).tdiv us, standstill := false } :=
  if_pos h

/-- R30, R32: a slow gate takes the measure unit to PERIOD, at standstill where the period timer has stopped. -/
theorem closeGate_slow {sum : Int} (t : Travel) (us : Nat) (h : ¬16 ≤ sum.natAbs) :
    t.closeGate sum us
      = { t with gateDue := none, measure := .period, gateOpen := false, gateTicks := 0, gateSum := 0
                 standstill := decide (t.periodTimer = 65535)
                 velocity := if t.periodTimer = 65535 then 0 else (sum * 1000000).tdiv us } := by
  unfold Travel.closeGate
  rw [if_neg h]
  by_cases hp : t.periodTimer = 65535
  · rw [if_pos (c := t.periodTimer = periodStop) hp]
    simp [hp]
  · rw [if_neg (c := t.periodTimer = periodStop) hp]
    simp [hp, gateVelocity]

theorem closeGate_port (t : Travel) (sum : Int) (us : Nat) :
    (t.closeGate sum us).applied = t.applied ∧ (t.closeGate sum us).tripped = t.tripped := by
  by_cases h : 16 ≤ sum.natAbs
  · rw [closeGate_fast t us h]
    exact ⟨rfl, rfl⟩
  · rw [closeGate_slow t us h]
    exact ⟨rfl, rfl⟩

theorem advance_gate {t : Travel} (us : Nat) (h : t.measure = .gate) :
    t.advance us = { t with periodTimer := min 65535 (t.periodTimer + us) } := by
  simp [Travel.advance, h, periodStop]

theorem advance_stops {t : Travel} {us : Nat} (h : t.measure = .period) (hn : 65535 ≤ t.periodTimer + us) :
    t.advance us = { t with periodTimer := 65535, standstill := true, velocity := 0 } := by
  simp [Travel.advance, h, periodStop, hn]

theorem advance_runs {t : Travel} {us : Nat} (hn : t.periodTimer + us < 65535) :
    t.advance us = { t with periodTimer := t.periodTimer + us } := by
  have hmin : min 65535 (t.periodTimer + us) = t.periodTimer + us := by omega
  have hne : t.periodTimer + us ≠ 65535 := by omega
  simp [Travel.advance, periodStop, hmin, hne]

theorem count_gate {t : Travel} (up : Bool) (us : Nat) (h : t.measure = .gate) :
    t.count up us
      = { t with counter := countMoves t.counter up, periodTimer := 0
                 gateSum := t.gateSum + (if t.gateOpen then countSign up else 0) } := by
  cases hg : t.gateOpen <;> simp [Travel.count, h, hg]

theorem count_stopped {t : Travel} (up : Bool) (us : Nat) (h : t.measure = .period) (hp : t.periodTimer = 65535) :
    t.count up us = { t with counter := countMoves t.counter up, periodTimer := 0 } := by
  simp [Travel.count, h, Travel.periodCount, hp, periodStop]

/-- R31: a count ends a period; a short one takes the measure unit back to GATE with no gate open. -/
theorem count_period {t : Travel} (up : Bool) (us : Nat) (h : t.measure = .period) (hp : t.periodTimer ≠ 65535) :
    t.count up us
      = { t with
            counter := countMoves t.counter up, periodTimer := 0, standstill := false
            velocity := periodVelocity t.periodTimer up
            measure := if 16 * t.periodTimer ≤ us then .gate else .period
            gateOpen := !decide (16 * t.periodTimer ≤ us) && t.gateOpen
            gateTicks := if 16 * t.periodTimer ≤ us then 0 else t.gateTicks
            gateSum := if 16 * t.periodTimer ≤ us then 0 else t.gateSum } := by
  by_cases hs : 16 * t.periodTimer ≤ us <;> simp [Travel.count, h, Travel.periodCount, hp, periodStop, hs]

/-- A count leaves what the measure unit does not work with. -/
theorem count_frame (t : Travel) (up : Bool) (us : Nat) :
    t.count up us = { t with
      counter := countMoves t.counter up, periodTimer := 0, measure := (t.count up us).measure
      velocity := (t.count up us).velocity, standstill := (t.count up us).standstill
      gateOpen := (t.count up us).gateOpen, gateTicks := (t.count up us).gateTicks
      gateSum := (t.count up us).gateSum } := by
  cases h : t.measure with
  | gate => rw [count_gate up us h, h]
  | period =>
    by_cases hp : t.periodTimer = 65535
    · rw [count_stopped up us h hp, h]
    · rw [count_period up us h hp]

theorem exec_gateClose {s : State} {sum : Int} (hp : PortSafe s) (h : s.travel.gateDue = some sum) :
    exec .gateClose s = .next (s.setTravel (s.travel.closeGate sum (s.gateLength * s.period * 100))) := by
  have hclose : gateClose s = s.setTravel (s.travel.closeGate sum (s.gateLength * s.period * 100)) := by
    unfold gateClose
    rw [h]
    rfl
  show Host.Outcome.next (finish s (gateClose s)) = _
  obtain ⟨happlied, htripped⟩ := closeGate_port s.travel sum (s.gateLength * s.period * 100)
  rw [hclose, finish_setTravel hp happlied htripped]

theorem exec_periodTimerStop {s : State} (hp : PortSafe s) :
    exec .periodTimerStop s = .next (s.setTravel (s.travel.advance 65535)) :=
  congrArg Host.Outcome.next (finish_setTravel hp (by simp) (by simp))

/-- What the obligation says of the travel unit after a count. -/
def Counted (up : Bool) (us duration : Nat) (t v : Travel) : Prop :=
  v = { t with
          counter := v.counter, periodTimer := 0, measure := v.measure, velocity := v.velocity
          standstill := v.standstill, gateOpen := v.gateOpen, gateTicks := v.gateTicks, gateSum := v.gateSum }
    ∧ v.counter = (if up then t.counter + 1 else t.counter - 1)
    ∧ (t.measure = .gate →
        v.measure = .gate ∧ v.velocity = t.velocity ∧ v.standstill = t.standstill
          ∧ v.gateOpen = t.gateOpen ∧ v.gateTicks = t.gateTicks
          ∧ v.gateSum = t.gateSum + (if t.gateOpen then (if up then 1 else -1) else 0))
    ∧ (t.measure = .period → 65535 ≤ t.periodTimer + us → v.measure = .period ∧ v.velocity = 0 ∧ v.standstill = true)
    ∧ (t.measure = .period → t.periodTimer + us < 65535 →
        v.standstill = false
          ∧ v.velocity = (1000000 / max 1 (t.periodTimer + us) : Nat) * (if up then 1 else -1)
          ∧ v.measure = (if 16 * (t.periodTimer + us) ≤ duration then .gate else .period))

theorem counted_gate {t : Travel} (up : Bool) (us duration : Nat) (h : t.measure = .gate) :
    Counted up us duration t ((t.advance us).count up duration) := by
  have hv : (t.advance us).count up duration = { t with
      counter := countMoves t.counter up, periodTimer := 0
      gateSum := t.gateSum + (if t.gateOpen then countSign up else 0) } := by
    rw [count_gate up duration (by simpa using h), advance_gate us h]
  rw [hv]
  exact ⟨rfl, rfl, fun _ => ⟨h, rfl, rfl, rfl, rfl, rfl⟩, fun h0 => by simp [h] at h0, fun h0 => by simp [h] at h0⟩

theorem counted_stopped {t : Travel} {us : Nat} (up : Bool) (duration : Nat) (h : t.measure = .period)
    (hn : 65535 ≤ t.periodTimer + us) : Counted up us duration t ((t.advance us).count up duration) := by
  have hv := count_stopped (t := { t with periodTimer := 65535, standstill := true, velocity := 0 }) up duration h rfl
  rw [advance_stops h hn, hv]
  exact ⟨rfl, rfl, fun h0 => by simp [h] at h0, fun _ _ => ⟨h, rfl, rfl⟩, fun _ h0 => by omega⟩

theorem counted_period {t : Travel} {us : Nat} (up : Bool) (duration : Nat) (h : t.measure = .period)
    (hn : t.periodTimer + us < 65535) : Counted up us duration t ((t.advance us).count up duration) := by
  have hv := count_period (t := { t with periodTimer := t.periodTimer + us }) up duration h (by simp; omega)
  rw [advance_runs hn, hv]
  exact ⟨rfl, rfl, fun h0 => by simp [h] at h0, fun _ h0 => by omega, fun _ _ => ⟨rfl, rfl, rfl⟩⟩

theorem exec_encoderCount {s : State} (up : Bool) (us : Nat) (hp : PortSafe s) :
    exec (.encoderCount up us) s
      = .next (s.setTravel ((s.travel.advance us).count up (s.gateLength * s.period * 100))) := by
  refine congrArg Host.Outcome.next (finish_setTravel hp ?_ ?_)
  · rw [count_frame]
    simp
  · rw [count_frame]
    simp

/-- Settles O19: each event is an update of the travel unit that no forcing condition reads, written out by mode and by
what the period timer shows. -/
theorem measureUnitTakesGatesAndCounts : Obligations.MeasureUnitTakesGatesAndCounts := by
  unfold Obligations.MeasureUnitTakesGatesAndCounts
  refine ⟨⟨fun s sum hp h => ?_, fun s hp h => ?_, fun s hp h => ?_, fun s hp h => ?_⟩, fun up us s hp => ?_⟩
  · rw [exec_gateClose hp h]
    split
    · rename_i hs
      rw [closeGate_fast _ _ hs]
    · rename_i hs
      rw [closeGate_slow _ _ hs]
  · have hstays : gateClose s = s := by
      unfold gateClose
      rw [h]
    show Host.Outcome.next (finish s (gateClose s)) = _
    rw [hstays, finish_eq s s rfl hp]
  · rw [exec_periodTimerStop hp, advance_stops h (by omega)]
  · have hmin : min 65535 (s.travel.periodTimer + 65535) = 65535 := by omega
    rw [exec_periodTimerStop hp, advance_gate _ h, hmin]
  · refine ⟨_, exec_encoderCount up us hp, ?_⟩
    cases h : s.travel.measure with
    | gate => simpa [Counted, h] using counted_gate up us (s.gateLength * s.period * 100) h
    | period =>
      by_cases hn : 65535 ≤ s.travel.periodTimer + us
      · simpa [Counted, h] using counted_stopped up (s.gateLength * s.period * 100) h hn
      · simpa [Counted, h] using counted_period up (s.gateLength * s.period * 100) h (Nat.lt_of_not_le hn)

end Sys2Proof.Proofs
end

section
namespace Sys2Proof.Proofs
open Sys2Proof.Machine Sys2Proof.Safety Sys2Proof.Laws

/-! ## What a report and the grips line leave of the load channel -/

/-- R84: a tare in progress is abandoned or goes on as it was. -/
def TareEndsOrStays (s t : State) : Prop := t.load.tare = none ∨ t.load.tare = s.load.tare

theorem TareEndsOrStays.trans {s t u : State} (h1 : TareEndsOrStays s t) (h2 : TareEndsOrStays t u) :
    TareEndsOrStays s u := by
  rcases h2 with h2 | h2
  · exact .inl h2
  · exact h1.imp (h2.trans ·) (h2.trans ·)

theorem stopOwn_tare (s : State) : TareEndsOrStays s (stopOwn s) := by
  unfold stopOwn
  split
  · exact .inr (by simp)
  · rcases stopSequencer_halted s with ⟨he, -⟩ | ⟨-, hn⟩
    · exact .inr (by rw [he])
    · exact .inl hn

theorem faultOwn_tare (s : State) : TareEndsOrStays s (faultOwn s) := by
  unfold faultOwn
  split
  · exact .inr (by simp)
  · rcases faultSequencer_halted s with ⟨he, -⟩ | ⟨-, hn⟩
    · exact .inr (by rw [he])
    · exact .inl hn

theorem setLatch_tare (s : State) : TareEndsOrStays s (setLatch s) := by
  unfold setLatch
  split
  · exact .inr rfl
  · exact stopOwn_tare (s.setStop { s.stop with latch := true })

/-- R153: a report takes the fault into the record and the notice queue, and then stops the cell or faults the
sequencer. -/
theorem report_eq (c : FaultCause) {s : State} (h : s.start.strapFault = false) :
    report c s = if c.isCellStop then stopCell c (pushNotice (faultNotice c s) (recordFault c s))
      else faultOwn (pushNotice (faultNotice c s) (recordFault c s)) := by
  simp [report, h]

theorem report_strapFault (c : FaultCause) {s : State} (h : s.start.strapFault = true) : report c s = s := by
  simp [report, h]

theorem report_tare (c : FaultCause) (s : State) : TareEndsOrStays s (report c s) := by
  cases h : s.start.strapFault with
  | true => rw [report_strapFault c h]; exact .inr rfl
  | false =>
    have hsame : TareEndsOrStays s (pushNotice (faultNotice c s) (recordFault c s)) := .inr (by simp)
    rw [report_eq c h]
    split
    · exact hsame.trans (.trans (.inr (by simp)) (setLatch_tare _))
    · exact hsame.trans (faultOwn_tare _)

theorem tickTaring_tare (s : State) : TareEndsOrStays s (tickTaring s) := by
  cases hg : s.lines.grips with
  | true => rw [tickTaring_closed hg]; exact .inr rfl
  | false =>
    by_cases hopen : ∀ a, s.load.tare = some a → a.loads.length ≠ 15
    · rw [tickTaring_drops hg hopen]
      exact .inl (dropGrips_sets s).2.2
    · push Not at hopen
      obtain ⟨a, ha, hl⟩ := hopen
      rcases tickTaring_open hg ha hl with ht | ht <;> rw [ht]
      · exact .inl (dropGrips_sets _).2.2
      · exact .inr rfl

theorem tickGrips_tare (s : State) : TareEndsOrStays s (tickGrips s) := by
  unfold tickGrips
  split
  · exact .inr (by simp)
  · exact tickTaring_tare s
  · exact .inr rfl

/-- R8: grips that stay closed leave the load channel as it is. -/
theorem tickGrips_closed {s : State} (h : s.lines.grips = true) : (tickGrips s).load = s.load := by
  unfold tickGrips
  split
  · simp
  · rw [tickTaring_closed h]
  · rfl

/-- The load channel but for what the end of a test and of a tare write. -/
def withoutTare (l : LoadCh) : LoadCh := { l with tare := none, spanOpen := false, yieldSearch := .inactive }

/-- The travel unit but for the drive port. -/
def withoutPort (t : Travel) : Travel := { t with applied := 0, tripped := false }

theorem fields_of_withoutTare {l m : LoadCh} (h : withoutTare l = withoutTare m) :
    l.conv = m.conv ∧ l.convTimer = m.convTimer ∧ l.reading = m.reading ∧ l.nextIndex = m.nextIndex ∧ l.last = m.last
      ∧ l.overCheck = m.overCheck ∧ l.range = m.range ∧ l.settleCount = m.settleCount ∧ l.settling = m.settling
      ∧ l.pendingRange = m.pendingRange ∧ l.downCount = m.downCount := by
  simp_all [withoutTare]

theorem fields_of_withoutPort {t u : Travel} (h : withoutPort t = withoutPort u) :
    t.latched = u.latched ∧ t.counter = u.counter ∧ t.measure = u.measure ∧ t.velocity = u.velocity
      ∧ t.gateOpen = u.gateOpen ∧ t.gateTicks = u.gateTicks ∧ t.gateSum = u.gateSum ∧ t.gateDue = u.gateDue := by
  simp_all [withoutPort]

theorem report_withoutTare (c : FaultCause) (s : State) : withoutTare (report c s).load = withoutTare s.load := by
  simp [withoutTare]

theorem dropGrips_withoutTare (s : State) : withoutTare (dropGrips s).load = withoutTare s.load := by
  simp [withoutTare]

theorem tickTaring_withoutTare (s : State) : withoutTare (tickTaring s).load = withoutTare s.load := by
  dsimp only [tickTaring, State.draw]
  (repeat' split) <;> simp [dropGrips_withoutTare]

theorem tickGrips_withoutTare (s : State) : withoutTare (tickGrips s).load = withoutTare s.load := by
  unfold tickGrips
  split
  · simp
  · exact tickTaring_withoutTare s
  · rfl

/-! ## What a tick leaves of its first part -/

/-- R50: the amplifier is examined by a report on a tripped port, or not at all. -/
theorem examineAmplifier_proj {α : Type} (p : State → α) (hr : ∀ c t, p (report c t) = p t)
    (ht : ∀ t, p (t.setTravel { t.travel with tripped := true, applied := 0 }) = p t) (s : State) :
    p (examineAmplifier s) = p s := by
  unfold examineAmplifier
  split
  · rw [hr, ht]
  · rfl

/-- What the ages, the grips line, the forcing conditions and a report leave alone, the tick leaves as its first part
has set it. -/
theorem sampleTick_proj {α : Type} (p : State → α) (ha : ∀ t, p (tickAges t) = p t)
    (hg : ∀ t, p (tickGrips t) = p t) (hz : ∀ t, p (forceZero t) = p t) (hr : ∀ c t, p (report c t) = p t)
    (ht : ∀ t, p (t.setTravel { t.travel with tripped := true, applied := 0 }) = p t) (lines : Lines) (s : State) :
    p (sampleTick lines s) = p (tickCore ((settleAll s).setLines lines)) := by
  dsimp only [sampleTick]
  split
  · rfl
  · rw [examineAmplifier_proj p hr ht, hz, hg, ha]

theorem forceZero_withoutPort (s : State) : withoutPort (forceZero s).travel = withoutPort s.travel := by
  unfold forceZero
  split <;> rfl

theorem sampleTick_withoutPort (lines : Lines) (s : State) :
    withoutPort (sampleTick lines s).travel = withoutPort (tickCore ((settleAll s).setLines lines)).travel :=
  sampleTick_proj (fun t => withoutPort t.travel) (by simp) (by simp) forceZero_withoutPort (by simp)
    (fun _ => rfl) lines s

theorem sampleTick_withoutTare (lines : Lines) (s : State) :
    withoutTare (sampleTick lines s).load = withoutTare (tickCore ((settleAll s).setLines lines)).load :=
  sampleTick_proj (fun t => withoutTare t.load) (by simp) tickGrips_withoutTare (by simp) report_withoutTare (by simp)
    lines s

/-- R28, R70: the first part of a tick in the travel unit and the load channel. -/
theorem tickCore_travel (s : State) :
    (tickCore s).travel = { s.travel.tickGate s.gateLength with
      latched := s.travel.counter.toInt, appliedAtTick := s.travel.applied } := by
  simp [tickCore, tickTravel, State.gateLength]

theorem tickCore_load (s : State) :
    (tickCore s).load = { s.load.takeRange with
      conv := .acquiringLoad, convTimer := 0, reading := none
      overCheck := s.start.intervalEnded && !s.start.strapFault } := by
  simp [tickCore, tickLoad]

theorem tickGate_counter (t : Travel) (n : Nat) : (t.tickGate n).counter = t.counter := by
  unfold Travel.tickGate
  (repeat' split) <;> rfl

theorem takeRange_record (l : LoadCh) : l.takeRange.nextIndex = l.nextIndex ∧ l.takeRange.last = l.last := by
  unfold LoadCh.takeRange
  split <;> simp

theorem gateClose_counter (s : State) : (gateClose s).travel.counter = s.travel.counter := by
  unfold gateClose Travel.closeGate
  (repeat' split) <;> simp

theorem forceZero_counter (s : State) : (forceZero s).travel.counter = s.travel.counter :=
  congrArg (·.counter) (forceZero_withoutPort s)

theorem followLossExpired_counter (s : State) : (followLossExpired s).travel.counter = s.travel.counter := by
  unfold followLossExpired idleFollow restFollow
  split <;> simp

theorem settleAll_counter (s : State) : (settleAll s).travel.counter = s.travel.counter := by
  refine settleAll_proj (fun t => t.travel.counter) forceZero_counter ?_ ?_ ?_ ?_ gateClose_counter ?_ ?_ ?_ ?_ ?_ ?_ ?_
    ?_ ?_ ?_ ?_ ?_ followLossExpired_counter ?_ ?_ ?_ ?_ ?_ s <;> intro t <;> simp

theorem judgeTare_record (a : Tare) (s : State) :
    (judgeTare a s).load.nextIndex = s.load.nextIndex ∧ (judgeTare a s).load.last = s.load.last := by
  unfold judgeTare tareSucceeded
  split_ifs <;> simp [enterClaiming]

theorem tareJudged_record (s : State) :
    (tareJudged s).load.nextIndex = s.load.nextIndex ∧ (tareJudged s).load.last = s.load.last := by
  unfold tareJudged takeGripsLow
  (repeat' split) <;> simp [judgeTare_record]

/-- R75: the count of samples and the latest record. -/
def sampleCount (s : State) : Word32 × Option SampleRec := (s.load.nextIndex, s.load.last)

theorem startIntervalEnd_count (lines : Lines) (s : State) :
    sampleCount (startIntervalEnd lines s) = sampleCount s := by
  dsimp only [startIntervalEnd]
  split
  · simp [sampleCount]
  · unfold latchIfLow
    split <;> simp [sampleCount]

theorem armSteps_count (s : State) :
    sampleCount (closeExpired s) = sampleCount s ∧ sampleCount (identExpired s) = sampleCount s
      ∧ sampleCount (openExpired s) = sampleCount s ∧ sampleCount (seatLost s) = sampleCount s := by
  unfold closeExpired identExpired openExpired seatLost
  refine ⟨?_, ?_, ?_, ?_⟩ <;> (repeat' split) <;> simp [sampleCount]

theorem timeoutSteps_count (s : State) :
    sampleCount (holdExpired s) = sampleCount s ∧ sampleCount (budgetExpired s) = sampleCount s
      ∧ sampleCount (endingExpired s) = sampleCount s := by
  unfold holdExpired budgetExpired endingExpired
  refine ⟨?_, ?_, ?_⟩ <;> split <;> simp [sampleCount]

theorem loadSteps_count (s : State) :
    sampleCount (gripsQualified s) = sampleCount s ∧ sampleCount (rangeSettled s) = sampleCount s
      ∧ sampleCount (rangeDown s) = sampleCount s ∧ sampleCount (takeGripsLow s) = sampleCount s
      ∧ sampleCount (tareJudged s) = sampleCount s := by
  unfold gripsQualified rangeSettled rangeDown takeGripsLow
  refine ⟨?_, ?_, ?_, ?_, Prod.ext (tareJudged_record s).1 (tareJudged_record s).2⟩ <;> (repeat' split)
    <;> simp [sampleCount]

theorem settleAll_count (s : State) : sampleCount (settleAll s) = sampleCount s := by
  refine settleAll_proj sampleCount ?_ (fun t => startIntervalEnd_count t.lines t) (fun t => (armSteps_count t).1)
    (fun t => (armSteps_count t).2.1) (fun t => (armSteps_count t).2.2.1) ?_ ?_ ?_ ?_ (fun t => (loadSteps_count t).1)
    (fun t => (loadSteps_count t).2.1) (fun t => (loadSteps_count t).2.2.1) (fun t => (loadSteps_count t).2.2.2.2)
    (fun t => (loadSteps_count t).2.2.2.1) ?_ (fun t => (timeoutSteps_count t).1) (fun t => (timeoutSteps_count t).2.1)
    (fun t => (timeoutSteps_count t).2.2) ?_ ?_ (fun t => (armSteps_count t).2.2.2) ?_ ?_ ?_ s
    <;> intro t <;> simp [sampleCount]

/-! ## The tick -/

/-- R28, R70: what every tick sets, in every station state. -/
theorem sampleTick_latches (lines : Lines) (s : State) :
    (sampleTick lines s).lines = lines ∧ (sampleTick lines s).clock.sampleTimer = 0
      ∧ (sampleTick lines s).travel.latched = s.travel.counter.toInt
      ∧ (sampleTick lines s).travel.counter = s.travel.counter
      ∧ (sampleTick lines s).load.conv = .acquiringLoad ∧ (sampleTick lines s).load.convTimer = 0
      ∧ (sampleTick lines s).load.reading = none ∧ (sampleTick lines s).load.nextIndex = s.load.nextIndex
      ∧ (sampleTick lines s).load.last = s.load.last
      ∧ (sampleTick lines s).load.overCheck
          = ((sampleTick lines s).start.intervalEnded && !(sampleTick lines s).start.strapFault) := by
  have hlines : (sampleTick lines s).lines = lines := by
    rw [sampleTick_proj (·.lines) (by simp) (by simp) (by simp) (by simp) (by simp)]
    simp
  have hclock : (sampleTick lines s).clock.sampleTimer = 0 := by
    rw [sampleTick_proj (·.clock.sampleTimer) (by simp) (by simp) (by simp) (by simp) (by simp)]
    simp [tickCore]
  have hstart : (sampleTick lines s).start = (settleAll s).start := by
    rw [sampleTick_proj (·.start) (by simp) (by simp) (by simp) (by simp) (by simp)]
    simp
  obtain ⟨hlatched, hcounter, -⟩ := fields_of_withoutPort (sampleTick_withoutPort lines s)
  obtain ⟨hconv, htimer, hreading, hindex, hlast, hover, -⟩ := fields_of_withoutTare (sampleTick_withoutTare lines s)
  obtain ⟨hindex', hlast'⟩ := takeRange_record (settleAll s).load
  have hcount := settleAll_count s
  simp only [sampleCount, Prod.mk.injEq] at hcount
  obtain ⟨hindex'', hlast''⟩ := hcount
  refine ⟨hlines, hclock, hlatched.trans ?_, hcounter.trans ?_, hconv.trans ?_, htimer.trans ?_, hreading.trans ?_,
    hindex.trans ?_, hlast.trans ?_, hover.trans ?_⟩
  · simp [tickCore_travel, settleAll_counter]
  · simp [tickCore_travel, settleAll_counter, tickGate_counter]
  · simp [tickCore_load]
  · simp [tickCore_load]
  · simp [tickCore_load]
  · simp [tickCore_load, hindex', hindex'']
  · simp [tickCore_load, hlast', hlast'']
  · simp [tickCore_load, hstart]

/-- R70: a tick on which nothing is overdue, on a station with a good strap word. -/
theorem sampleTick_of_nothingOverdue {s : State} (lines : Lines) (hn : NothingOverdue s)
    (hs : s.start.strapFault = false) :
    sampleTick lines s = examineAmplifier (forceZero (tickGrips (ticked lines s))) := by
  simp only [sampleTick, hn, tickCore_keeps, setLines_fields, hs, Bool.false_eq_true, if_false]
  rfl

theorem examineAmplifier_tare (s : State) : TareEndsOrStays s (examineAmplifier s) := by
  unfold examineAmplifier
  split
  · exact report_tare _ _
  · exact .inr rfl

/-- R8, R82, R84: the tare after a tick is the one that the range decision left, or it is abandoned. -/
theorem sampleTick_tare {s : State} (lines : Lines) (hn : NothingOverdue s) (hs : s.start.strapFault = false) :
    TareEndsOrStays (ticked lines s) (sampleTick lines s) := by
  rw [sampleTick_of_nothingOverdue lines hn hs]
  have hzero : TareEndsOrStays (tickGrips (ticked lines s)) (forceZero (tickGrips (ticked lines s))) :=
    .inr (by simp)
  exact ((tickGrips_tare _).trans hzero).trans (examineAmplifier_tare _)

theorem sampleTick_tare_closed {s : State} {lines : Lines} (hn : NothingOverdue s) (hs : s.start.strapFault = false)
    (hg : lines.grips = true) (ha : lines.ampFault = false) :
    (sampleTick lines s).load.tare = (ticked lines s).load.tare := by
  rw [sampleTick_of_settled hn hs ha]
  simp [tickGrips_closed, (ticked_fields lines s).1, hg]

/-- R70, R80, R82: the range at a tick on which nothing is overdue. -/
theorem sampleTick_range {s : State} (lines : Lines) (hn : NothingOverdue s) (hs : s.start.strapFault = false) :
    (∀ r, s.load.pendingRange = some r →
        (sampleTick lines s).load.range = r ∧ (sampleTick lines s).load.settleCount = 2
          ∧ (sampleTick lines s).load.settling = true ∧ (sampleTick lines s).load.pendingRange = none
          ∧ (sampleTick lines s).load.downCount = 0
          ∧ ((sampleTick lines s).load.tare = none
              ∨ ∃ a, s.load.tare = some a ∧ (sampleTick lines s).load.tare = some { a with loads := [] })
          ∧ (lines.grips = true → lines.ampFault = false →
              (sampleTick lines s).load.tare = s.load.tare.map fun a => { a with loads := [] }))
      ∧ (s.load.pendingRange = none →
        (sampleTick lines s).load.range = s.load.range
          ∧ (sampleTick lines s).load.settleCount = s.load.settleCount
          ∧ (sampleTick lines s).load.settling = s.load.settling
          ∧ (sampleTick lines s).load.downCount = s.load.downCount
          ∧ (lines.grips = true → lines.ampFault = false → (sampleTick lines s).load.tare = s.load.tare)) := by
  have hload : withoutTare (sampleTick lines s).load = withoutTare { s.load.takeRange with
      conv := .acquiringLoad, convTimer := 0, reading := none
      overCheck := s.start.intervalEnded && !s.start.strapFault } := by
    rw [sampleTick_withoutTare, hn, tickCore_load]
    rfl
  obtain ⟨-, -, -, -, -, -, hrange, hcount, hsettling, hpending, hdown⟩ := fields_of_withoutTare hload
  obtain ⟨-, -, -, htare⟩ := ticked_fields lines s
  refine ⟨fun r hr => ?_, fun hr => ?_⟩
  · have htake : s.load.takeRange = { s.load with
        range := r, pendingRange := none, settleCount := 2, settling := true, downCount := 0
        tare := s.load.tare.map fun a => { a with loads := [] } } := by
      simp [LoadCh.takeRange, hr, rangeSettleSamples]
    have htare' : (ticked lines s).load.tare = s.load.tare.map fun a => { a with loads := [] } := by simp [htare, hr]
    rw [htake] at hrange hcount hsettling hpending hdown
    refine ⟨hrange, hcount, hsettling, hpending, hdown, ?_, fun hg ha => ?_⟩
    · rcases sampleTick_tare lines hn hs with h | h
      · exact .inl h
      · rw [h, htare']
        cases s.load.tare with
        | none => exact .inl rfl
        | some a => exact .inr ⟨a, rfl, rfl⟩
    · rw [sampleTick_tare_closed hn hs hg ha, htare']
  · have htake : s.load.takeRange = s.load := by simp [LoadCh.takeRange, hr]
    rw [htake] at hrange hcount hsettling hdown
    refine ⟨hrange, hcount, hsettling, hdown, fun hg ha => ?_⟩
    rw [sampleTick_tare_closed hn hs hg ha, htare]
    simp [hr]

/-- R53, R56, R129, R130, R145: the ages and timers of a tick. -/
theorem tickAges_sets (s : State) :
    (tickAges s).link.presence = s.link.presence.map (fun a => a.map (· + 1))
      ∧ (tickAges s).link.statusTimer = s.link.statusTimer.map (· + 1)
      ∧ (tickAges s).budget.coldTimer = s.budget.coldTimer.map (· + 1)
      ∧ (tickAges s).pair = if s.paired then s.pair.tick else s.pair := by
  dsimp only [tickAges]
  split <;> simp [Link.agePresence]

theorem sampleTick_ages {s : State} (lines : Lines) (hn : NothingOverdue s) (hs : s.start.strapFault = false) :
    (sampleTick lines s).link.presence = s.link.presence.map (fun a => a.map (· + 1))
      ∧ (sampleTick lines s).link.statusTimer = s.link.statusTimer.map (· + 1)
      ∧ (sampleTick lines s).budget.coldTimer = s.budget.coldTimer.map (· + 1)
      ∧ (sampleTick lines s).pair = if s.paired then s.pair.tick else s.pair := by
  have hkeeps : ∀ u, (examineAmplifier u).link.presence = u.link.presence
      ∧ (examineAmplifier u).link.statusTimer = u.link.statusTimer
      ∧ (examineAmplifier u).budget.coldTimer = u.budget.coldTimer := fun u =>
    ⟨examineAmplifier_proj (·.link.presence) (by simp) (by simp) u,
      examineAmplifier_proj (·.link.statusTimer) (by simp) (by simp) u,
      examineAmplifier_proj (·.budget.coldTimer) (by simp) (by simp) u⟩
  obtain ⟨hpresence, hstatus, hcold, hpair⟩ := tickAges_sets (tickCore (s.setLines lines))
  rw [sampleTick_of_nothingOverdue lines hn hs]
  simp [hkeeps, ticked, hpresence, hstatus, hcold, hpair, State.paired]

/-- R30: the gate at a tick on which nothing is overdue. -/
theorem sampleTick_gate {s : State} (lines : Lines) (hn : NothingOverdue s) :
    withoutPort (sampleTick lines s).travel = withoutPort { s.travel.tickGate s.gateLength with
      latched := s.travel.counter.toInt, appliedAtTick := s.travel.applied } := by
  rw [sampleTick_withoutPort, hn, tickCore_travel]
  rfl

theorem tickGate_period {t : Travel} (n : Nat) (h : t.measure = .period) : t.tickGate n = t := by
  unfold Travel.tickGate
  rw [h]

theorem tickGate_opens {t : Travel} (n : Nat) (h : t.measure = .gate) (ho : t.gateOpen = false) :
    t.tickGate n = { t with gateOpen := true, gateTicks := 0, gateSum := 0 } := by
  simp [Travel.tickGate, h, ho]

theorem tickGate_counts {t : Travel} {n : Nat} (h : t.measure = .gate) (ho : t.gateOpen = true)
    (hl : t.gateTicks + 1 < n) : t.tickGate n = { t with gateTicks := t.gateTicks + 1 } := by
  simp [Travel.tickGate, h, ho, Nat.not_le.2 hl]

theorem tickGate_closes {t : Travel} {n : Nat} (h : t.measure = .gate) (ho : t.gateOpen = true)
    (hl : n ≤ t.gateTicks + 1) :
    t.tickGate n = { t with gateTicks := 0, gateSum := 0, gateDue := some t.gateSum } := by
  simp [Travel.tickGate, h, ho, hl]

theorem tickGate_frame (t : Travel) (n : Nat) :
    (t.tickGate n).measure = t.measure ∧ (t.tickGate n).velocity = t.velocity
      ∧ (t.measure = .gate → (t.tickGate n).gateOpen = true) := by
  unfold Travel.tickGate
  (repeat' split) <;> simp_all

/-- Settles O17: the first part of a tick sets what the tick sets (`sampleTick_proj`), and what is overdue changes
neither the counter nor the latest sample. -/
theorem tickLatchesAgesAndGates : Obligations.TickLatchesAgesAndGates := by
  unfold Obligations.TickLatchesAgesAndGates
  have hexec : ∀ lines s, exec (.sampleTick lines) s = .next (finish s (sampleTick lines s)) := fun _ _ => rfl
  refine ⟨fun lines s => ?_, fun lines s hn hs => ?_, fun lines s hn => ?_⟩
  · rw [hexec, next_iff]
    simpa using sampleTick_latches lines s
  · obtain ⟨hdecided, hkept⟩ := sampleTick_range lines hn hs
    obtain ⟨hpresence, hstatus, hcold, hpair⟩ := sampleTick_ages lines hn hs
    rw [hexec, next_iff]
    simp only [finish_keeps, finish_link_fields]
    refine ⟨hdecided, hkept, hpresence, hstatus, hcold, fun hr => ?_, fun hr => ?_⟩
    · rw [hpair, if_pos (by simp [State.paired, hs, hr])]
      rfl
    · rw [hpair, if_neg (by simp [State.paired, hr])]
  · obtain ⟨-, -, hmeasure, hvelocity, hopen, hticks, hsum, hdue⟩ := fields_of_withoutPort (sampleTick_gate lines hn)
    obtain ⟨hmeasure', hvelocity', hopen'⟩ := tickGate_frame s.travel s.gateLength
    rw [hexec, next_iff]
    simp only [finish_travel_fields, hmeasure, hvelocity, hopen, hticks, hsum, hdue]
    refine ⟨hmeasure', hvelocity', fun h => ?_, hopen', fun h ho => ?_, fun h ho hl => ?_, fun h ho hl => ?_⟩
    · rw [tickGate_period _ h]
      exact ⟨rfl, rfl, rfl, rfl⟩
    · rw [tickGate_opens _ h ho]
      exact ⟨rfl, rfl, rfl⟩
    · rw [tickGate_counts h ho hl]
      exact ⟨rfl, rfl, rfl⟩
    · rw [tickGate_closes h ho hl]
      exact ⟨rfl, rfl, rfl⟩

end Sys2Proof.Proofs
end

section
namespace Sys2Proof.Proofs
open Sys2Proof.Machine Sys2Proof.Safety Sys2Proof.Laws

/-! ## The bounds, block by block -/

/-- R39, R49. -/
def TravelBounded (t : Travel) : Prop := (-20000 ≤ t.applied ∧ t.applied ≤ 20000) ∧ t.window.length ≤ 8

/-- R116, R123. -/
def LinkBounded (l : Link) : Prop :=
  l.notices.length ≤ 8 ∧ l.errCheck ≤ 255 ∧ l.errLength ≤ 255 ∧ l.errShort ≤ 255 ∧ l.lost ≤ 255

/-- R162. -/
def StoreBounded (u : Recorder) : Prop := u.store.length ≤ 2048 ∧ IndicesRise u.store

/-- R56, R63. -/
def PairBounded (p : Pair) : Prop := p.age ≤ 255 ∧ p.runCount ≤ 255

/-- The bounds of a state by block. -/
def BoundsHold (s : State) : Prop :=
  TravelBounded s.travel ∧ LinkBounded s.link ∧ StoreBounded s.recorder ∧ s.budget.entry 0 = 0
    ∧ s.stop.further ≤ 255 ∧ PairBounded s.pair

theorem bounded_iff (s : State) : Bounded s ↔ BoundsHold s := by
  refine ⟨fun h => ?_, fun h => ?_⟩
  · obtain ⟨hport, hqueue, hstore, hzero, hwindow, hcheck, hlength, hshort, hlost, hfurther, hage, hrun⟩ := h
    exact ⟨⟨hport, hwindow⟩, ⟨hqueue, hcheck, hlength, hshort, hlost⟩, hstore, hzero, hfurther, hage, hrun⟩
  · obtain ⟨⟨hport, hwindow⟩, ⟨hqueue, hcheck, hlength, hshort, hlost⟩, hstore, hzero, hfurther, hage, hrun⟩ := h
    exact ⟨hport, hqueue, hstore, hzero, hwindow, hcheck, hlength, hshort, hlost, hfurther, hage, hrun⟩

/-- The bounds read the same in both states. -/
def SameBounds (s t : State) : Prop :=
  (t.travel.applied = s.travel.applied ∧ t.travel.window = s.travel.window)
    ∧ (t.link.notices = s.link.notices ∧ t.link.errCheck = s.link.errCheck ∧ t.link.errLength = s.link.errLength
        ∧ t.link.errShort = s.link.errShort ∧ t.link.lost = s.link.lost)
    ∧ t.recorder.store = s.recorder.store ∧ t.budget.table = s.budget.table ∧ t.stop.further = s.stop.further
    ∧ t.pair.age = s.pair.age ∧ t.pair.runCount = s.pair.runCount

namespace BoundsHold

variable {s t : State}

theorem same (h : BoundsHold s) (hk : SameBounds s t) : BoundsHold t := by
  obtain ⟨htravel, hlink, hstore, hzero, hfaults, hpair⟩ := h
  obtain ⟨⟨h1, h2⟩, ⟨h3, h4, h5, h6, h7⟩, h8, h9, h10, h11, h12⟩ := hk
  refine ⟨?_, ?_, ?_, ?_, ?_, ?_⟩
  · rwa [TravelBounded, h1, h2]
  · rwa [LinkBounded, h3, h4, h5, h6, h7]
  · rwa [StoreBounded, h8]
  · rwa [Budget.entry, h9]
  · rwa [h10]
  · rwa [PairBounded, h11, h12]

section Units

variable (h : BoundsHold s)

include h

theorem travel : TravelBounded s.travel := h.1
theorem link : LinkBounded s.link := h.2.1
theorem store : StoreBounded s.recorder := h.2.2.1
theorem entryZero : s.budget.entry 0 = 0 := h.2.2.2.1
theorem faults : s.stop.further ≤ 255 := h.2.2.2.2.1
theorem pair : PairBounded s.pair := h.2.2.2.2.2

theorem setTravel {x : Travel} (hx : TravelBounded x) : BoundsHold (s.setTravel x) :=
  ⟨hx, h.link, h.store, h.entryZero, h.faults, h.pair⟩

theorem setLink {x : Link} (hx : LinkBounded x) : BoundsHold (s.setLink x) :=
  ⟨h.travel, hx, h.store, h.entryZero, h.faults, h.pair⟩

theorem setRecorder {x : Recorder} (hx : StoreBounded x) : BoundsHold (s.setRecorder x) :=
  ⟨h.travel, h.link, hx, h.entryZero, h.faults, h.pair⟩

theorem setBudget {x : Budget} (hx : x.entry 0 = 0) : BoundsHold (s.setBudget x) :=
  ⟨h.travel, h.link, h.store, hx, h.faults, h.pair⟩

theorem setStop {x : StopFault} (hx : x.further ≤ 255) : BoundsHold (s.setStop x) :=
  ⟨h.travel, h.link, h.store, h.entryZero, hx, h.pair⟩

theorem setPair {x : Pair} (hx : PairBounded x) : BoundsHold (s.setPair x) :=
  ⟨h.travel, h.link, h.store, h.entryZero, h.faults, hx⟩

end Units

end BoundsHold

/-! ## What changes a bounded value -/

theorem zero_in_port : (-20000 : Int) ≤ 0 ∧ (0 : Int) ≤ 20000 := by decide

theorem succ255_le (n : Nat) : succ255 n ≤ 255 := Nat.min_le_left _ _

theorem length_pushWindow_le {α : Type} {w : List α} (x : α) (h : w.length ≤ 8) : (pushWindow w x).length ≤ 8 := by
  rcases Nat.lt_or_eq_of_le h with hs | hf
  · rw [pushWindow_of_short x hs]
    simpa using hs
  · rw [pushWindow_of_full x hf]
    simp [hf]

theorem limitStage_bounded (q : Request) (zone : Option Zone) (v : Int) :
    -20000 ≤ limitStage q zone v ∧ limitStage q zone v ≤ 20000 := by
  have h := natAbs_limitStage q zone v
  omega

/-- R162: the indices rise still when a sample joins whose index is above the newest one's. -/
theorem indicesRise_append {store : List SampleRec} {r : SampleRec} (h : IndicesRise store)
    (hr : ∀ newest, store.getLast? = some newest → newest.index.toNat < r.index.toNat) : IndicesRise (store ++ [r]) := by
  rcases List.eq_nil_or_concat' store with rfl | ⟨older, newest, rfl⟩
  · exact List.pairwise_singleton _ _
  · have hn : newest.index.toNat < r.index.toNat := hr newest (by simp)
    refine List.pairwise_append.2 ⟨h, List.pairwise_singleton _ _, fun a ha b hb => ?_⟩
    obtain rfl := List.mem_singleton.1 hb
    rcases List.mem_append.1 ha with ho | hl
    · exact ((List.pairwise_append.1 h).2.2 a ho newest (by simp)).trans hn
    · obtain rfl := List.mem_singleton.1 hl
      exact hn

theorem hasRoomFor_iff (u : Recorder) (r : SampleRec) : u.hasRoomFor r = true ↔ HasRoom u r := by
  unfold Recorder.hasRoomFor HasRoom
  rw [Bool.and_eq_true, decide_eq_true_eq]
  cases u.store.getLast? <;> simp [storeCapacity]

theorem setEntry_zero {b : Budget} (n v : Nat) (h : b.entry 0 = 0) : (b.setEntry n v)[0] = 0 := by
  have h0 : b.table[0] = 0 := h
  unfold Budget.setEntry
  split
  · rename_i hn
    rw [Vector.getElem_set_ne (h := Nat.ne_of_gt hn.1), h0]
  · exact h0

section Steps

variable {s : State} (h : BoundsHold s)

include h

theorem bounds_pushNotice (k : NoticeKind) : BoundsHold (pushNotice k s) := by
  obtain ⟨hn, hc, hl, hs, ho⟩ := h.link
  unfold pushNotice
  split
  · rename_i hroom
    exact h.setLink ⟨by simpa [noticeCapacity] using hroom, hc, hl, hs, ho⟩
  · exact h.setLink ⟨hn, hc, hl, hs, succ255_le _⟩

theorem bounds_storeSample (r : SampleRec) : BoundsHold (storeSample r s) := by
  obtain ⟨hlen, hrise⟩ := h.store
  unfold storeSample
  split
  · rename_i hroom
    obtain ⟨hlt, hnewest⟩ := (hasRoomFor_iff _ _).1 hroom
    have hstore : StoreBounded { s.recorder with
        offered := s.recorder.offered + 1, store := s.recorder.store ++ [r]
        decCount := nextDecimation s.decimation s.recorder.decCount } :=
      ⟨by simpa using hlt, indicesRise_append hrise hnewest⟩
    exact (h.setRecorder hstore).same (by simp [SameBounds])
  · exact h.setRecorder ⟨hlen, hrise⟩

theorem bounds_curveComplete (k : Nat) (disowned : Bool) : BoundsHold (curveComplete k disowned s) := by
  obtain ⟨hlen, hrise⟩ := h.store
  unfold curveComplete
  cases disowned with
  | true => exact h.same (by simp [SameBounds])
  | false =>
    have hdropped := h.setRecorder (x := { s.recorder with
      store := s.recorder.store.drop k, sent := s.recorder.sent + k })
      ⟨by rw [List.length_drop]; omega, hrise.drop⟩
    exact hdropped.same (by simp [SameBounds])

theorem bounds_offerSample (r : SampleRec) : BoundsHold (offerSample r s) := by
  unfold offerSample
  split_ifs
  · exact bounds_storeSample h r
  · exact h
  · exact h.setRecorder h.store
  · exact h

theorem bounds_applyEntry (n units : Nat) (epoch : Byte) : BoundsHold (applyEntry n units epoch s) :=
  h.setBudget (setEntry_zero n units h.entryZero)

theorem bounds_adopt (entries : List Nat) (epoch : Byte) : BoundsHold (adopt entries epoch s) := by
  have hzero : (adoptedTable entries)[0] = 0 := by simp [adoptedTable]
  have hadopted := h.setBudget (x := { s.budget with
    table := adoptedTable entries, epoch := epoch, inStep := s.configured
    coldTimer := if s.configured then none else s.budget.coldTimer }) hzero
  exact hadopted.same (by simp [SameBounds, adopt])

theorem bounds_coldStart : BoundsHold (coldStart s) := by
  have hzero : (coldTable s.start.number s.ownEntry)[0] = 0 := by simp [coldTable]
  unfold coldStart
  split
  · have hstarted := h.setBudget (x := { s.budget with
      table := coldTable s.start.number s.ownEntry, epoch := s.budget.lastHeard, inStep := true, coldTimer := none })
      hzero
    exact hstarted.same (by simp [SameBounds])
  · exact h

theorem bounds_recordFault (c : FaultCause) : BoundsHold (recordFault c s) := by
  unfold recordFault
  split
  · exact h.setStop (succ255_le _)
  · have hlocked := h.setStop (x := { s.stop with record := some (s.lockedPart c), further := 0 }) (Nat.zero_le _)
    dsimp only
    split <;> exact hlocked

theorem bounds_forceZero : BoundsHold (forceZero s) := by
  unfold forceZero
  split
  · exact h.setTravel ⟨zero_in_port, h.travel.2⟩
  · exact h

theorem bounds_finish (old : State) : BoundsHold (finish old s) :=
  bounds_forceZero (h.same (t := rebuildStatus old s) (by
    rw [SameBounds, rebuildStatus_link]
    simp))

theorem bounds_regulateSample (q : Request) (r : SampleRec) : BoundsHold (regulateSample q r s) := by
  have hw : (windowAfter s.travel.window q r).length ≤ 8 := by
    unfold windowAfter
    split
    · split
      · exact h.travel.2
      · exact length_pushWindow_le _ h.travel.2
    · exact length_pushWindow_le _ h.travel.2
    · exact h.travel.2
  unfold regulateSample
  split_ifs
  · exact h.setTravel ⟨zero_in_port, Nat.zero_le _⟩
  · exact h.setTravel ⟨zero_in_port, h.travel.2⟩
  · exact h.setTravel ⟨limitStage_bounded _ _ _, hw⟩

theorem bounds_beginRegulator (p : Phase) (r : SampleRec) : BoundsHold (beginRegulator p r s) := by
  refine h.setTravel ⟨h.travel.1, ?_⟩
  dsimp only
  split
  · exact h.travel.2
  · exact Nat.zero_le _

theorem bounds_restRegulator : BoundsHold (restRegulator s) := h.setTravel ⟨h.travel.1, Nat.zero_le _⟩

theorem bounds_enterRunning : BoundsHold (enterRunning s) := by
  refine BoundsHold.setPair (s := (gotoState .running s).setRecorder { s.recorder with runBegun := true }) h
    ⟨h.pair.1, ?_⟩
  dsimp only
  split
  · exact h.pair.2
  · decide

theorem bounds_tickPair : BoundsHold (s.setPair s.pair.tick) := h.setPair ⟨succ255_le _, h.pair.2⟩

theorem bounds_countRunning : BoundsHold (countRunning s) := by
  unfold countRunning
  split
  · exact h.setPair ⟨h.pair.1, succ255_le _⟩
  · exact h

theorem bounds_countError (j : Judgment) : LinkBounded (s.link.countError j) := by
  obtain ⟨hn, hc, hl, hs, ho⟩ := h.link
  cases j
  · exact ⟨hn, hc, hl, succ255_le _, ho⟩
  · exact ⟨hn, hc, succ255_le _, hs, ho⟩
  · exact ⟨hn, succ255_le _, hl, hs, ho⟩
  · exact h.link

theorem bounds_noticeSent (disowned : Bool) : BoundsHold (noticeSent disowned s) := by
  obtain ⟨hn, hc, hl, hs, ho⟩ := h.link
  unfold noticeSent
  split_ifs
  · exact h
  · exact h.setLink ⟨by simp; omega, hc, hl, hs, ho⟩
  · exact h.setLink ⟨by simp; omega, hc, hl, hs, Nat.zero_le _⟩

end Steps

end Sys2Proof.Proofs
end

section
namespace Sys2Proof.Proofs
open Sys2Proof.Machine Sys2Proof.Safety Sys2Proof.Laws

section Steps

variable {s : State} (h : BoundsHold s)

include h

/-! ## The arm, the sequencers and the fault unit -/

theorem bounds_requestUnits (n : Nat) (reason : GrantReason) : BoundsHold (requestUnits n reason s) :=
  h.same (by simp [SameBounds])

theorem bounds_switchover (c : SwitchCause) : BoundsHold (switchover c s) := by
  unfold switchover switchNotice
  split
  · exact h
  · split
    · exact h
    · refine bounds_pushNotice ?_ _
      exact h

theorem bounds_openArm (c : SwitchCause) : BoundsHold (openArm c s) := by
  unfold openArm
  dsimp only
  split
  · refine bounds_switchover ?_ c
    exact h
  all_goals exact h

theorem bounds_removeArm : BoundsHold (removeArm s) := by
  unfold removeArm
  split
  · exact bounds_switchover h _
  · exact h

theorem bounds_examineSample (v : ExtView) (r : SampleRec) : BoundsHold (examineSample v r s) := by
  unfold examineSample
  split
  · split
    · exact bounds_switchover h _
    · exact h.same (by unfold joinSlip; split <;> simp [SameBounds])
  · exact h

theorem bounds_endTest (o : TestOutcome) : BoundsHold (endTest o s) :=
  (bounds_pushNotice (s := writeRecord (fun t => { t with outcome := some o, endPhase := s.seq.phase }) s) h
    (.testEnded o)).same (by simp [SameBounds, endTest])

theorem bounds_haltSequencer (q : SeqState) (o : TestOutcome) : BoundsHold (haltSequencer q o s) := by
  have hopen : BoundsHold (requestUnits 0 .release (gotoState q (openArm .stop (abandonTare s)))) :=
    bounds_requestUnits (s := gotoState q (openArm .stop (abandonTare s)))
      (bounds_openArm (s := abandonTare s) h .stop) _ _
  unfold haltSequencer
  dsimp only
  split
  · exact bounds_endTest hopen o
  · exact hopen

theorem bounds_stopSequencer : BoundsHold (stopSequencer s) := by
  unfold stopSequencer
  split
  iterate 3 exact h
  exact bounds_haltSequencer h _ _

theorem bounds_faultSequencer : BoundsHold (faultSequencer s) := by
  unfold faultSequencer
  split
  iterate 4 exact h
  exact bounds_haltSequencer h _ _

theorem bounds_stopOwn : BoundsHold (stopOwn s) := by
  unfold stopOwn
  split
  · exact h.same (by simp [SameBounds])
  · exact bounds_stopSequencer h

theorem bounds_faultOwn : BoundsHold (faultOwn s) := by
  unfold faultOwn
  split
  · exact h.same (by simp [SameBounds])
  · exact bounds_faultSequencer h

theorem bounds_setLatch : BoundsHold (setLatch s) := by
  unfold setLatch
  split
  · exact h
  · exact bounds_stopOwn (h.setStop h.faults)

theorem bounds_report (c : FaultCause) : BoundsHold (report c s) := by
  have htaken : BoundsHold (pushNotice (faultNotice c s) (recordFault c s)) :=
    bounds_pushNotice (bounds_recordFault h c) _
  unfold report
  dsimp only
  split_ifs
  · exact h
  · exact bounds_setLatch ((htaken.setStop htaken.faults).setLink htaken.link)
  · exact bounds_faultOwn htaken

theorem bounds_enterIdle : BoundsHold (enterIdle s) := by
  have hrest : BoundsHold (restRegulator (gotoState .idle (openArm .stop s))) :=
    bounds_restRegulator (s := gotoState .idle (openArm .stop s)) (bounds_openArm h .stop)
  exact BoundsHold.setPair (s := ((restRegulator (gotoState .idle (openArm .stop s))).setSeq _).setLoad _ |>.setExt _)
    hrest ⟨hrest.pair.1, Nat.zero_le _⟩

theorem bounds_restFollow : BoundsHold (restFollow s) :=
  bounds_restRegulator (s := s.setFollow { state := .idle, share := 0, asked := 0, lossSamples := 0 }) h

theorem bounds_idleFollow : BoundsHold (idleFollow s) := bounds_requestUnits (bounds_restFollow h) _ _

theorem bounds_enterEnding (o : TestOutcome) (c : SwitchCause) : BoundsHold (enterEnding o c s) :=
  (bounds_openArm (s := gotoState .ending
    (writeRecord (fun t => { t with outcome := some o, endPhase := s.seq.phase }) s)) h c).same
    (by simp [SameBounds, enterEnding])

theorem bounds_enterDone : BoundsHold (enterDone s) :=
  bounds_endTest (bounds_requestUnits (bounds_openArm (s := gotoState .done s) h .testEnd) _ _) _

theorem bounds_enterClaiming : BoundsHold (enterClaiming s) :=
  bounds_requestUnits (s := gotoState .claiming s) h _ _

/-! ## The phases of a test -/

theorem bounds_enterHeld (c : HoldCauses) : BoundsHold (enterHeld c s) :=
  bounds_pushNotice (s := writeRecord (fun t => { t with holdCount := s.seq.holdCount + 1 })
    ((gotoState .held s).setSeq { (gotoState .held s).seq with holdCount := s.seq.holdCount + 1 })) h _

theorem bounds_holdOrAdvance : BoundsHold (holdOrAdvance s) := by
  unfold holdOrAdvance
  split
  · exact bounds_enterHeld h _
  · exact h

theorem bounds_beginPhase (r : SampleRec) : BoundsHold (beginPhase r s) := by
  cases hp : s.curPhase with
  | none => simpa [beginPhase, hp] using h
  | some p =>
    rw [beginPhase_of_phase r hp]
    have hbegun : BoundsHold (beginRegulator p r (pushNotice (.phaseBegun s.seq.phase) (s.setSeq { s.seq with
        phaseTime := 0, refValue := endQuantity s p.endKind r, phaseBegun := true }))) := by
      refine bounds_beginRegulator (bounds_pushNotice ?_ _) p r
      exact h
    refine bounds_holdOrAdvance ?_
    unfold phaseStarted
    dsimp only
    split
    · exact bounds_removeArm hbegun
    · exact hbegun

theorem bounds_nextPhase (r : SampleRec) : BoundsHold (nextPhase r s) := by
  unfold nextPhase
  dsimp only
  split
  · exact bounds_enterEnding h _ _
  · rename_i p _
    have hmade : BoundsHold (requestUnits p.share .phase (makeCurrent (s.seq.phase + 1) s)) :=
      bounds_requestUnits (s := makeCurrent (s.seq.phase + 1) s) h _ _
    split
    · exact bounds_beginPhase (bounds_enterRunning hmade) r
    · exact bounds_enterHeld hmade _

theorem bounds_returnStep (r : SampleRec) : BoundsHold (returnStep r s) := by
  unfold returnStep
  split
  · exact h
  · split_ifs
    · exact bounds_enterDone h
    · exact h
    · exact h
    · exact h

theorem bounds_endingStep (r : SampleRec) : BoundsHold (endingStep r s) := by
  unfold endingStep
  split_ifs
  · exact bounds_returnStep (bounds_requestUnits (bounds_openArm (s := gotoState .returning s) h .testEnd) _ _) r
  · exact bounds_enterDone h
  · exact h
  · exact h

theorem bounds_endOnSample (o : TestOutcome) (r : SampleRec) : BoundsHold (endOnSample o r s) := by
  unfold endOnSample
  dsimp only
  split
  · exact bounds_endingStep (bounds_enterEnding h _ _) r
  · exact bounds_enterEnding h _ _

theorem bounds_endPhase (r : SampleRec) : BoundsHold (endPhase r s) := by
  have hremoved : BoundsHold (removalMade s) := by
    unfold removalMade
    split
    · exact bounds_removeArm h
    · exact h
  have hnext := bounds_nextPhase hremoved r
  rw [endPhase_eq]
  split_ifs
  · exact bounds_endingStep hnext r
  · exact hnext
  · exact hnext

theorem bounds_claimingSample (r : SampleRec) : BoundsHold (claimingSample r s) := by
  unfold claimingSample
  split_ifs
  · exact bounds_beginPhase (s := openSpan ((enterRunning s).setSeq { (enterRunning s).seq with
      phase := 1, testZero := r.position })) (bounds_enterRunning h) r
  · exact h
  · exact h

theorem bounds_runningSample (r : SampleRec) (ended : Bool) : BoundsHold (runningSample r ended s) := by
  unfold runningSample
  split_ifs
  · exact bounds_endOnSample h _ r
  · exact bounds_endPhase h r
  · exact bounds_holdOrAdvance h

theorem bounds_heldSample (r : SampleRec) : BoundsHold (heldSample r s) := by
  have hrun := bounds_enterRunning (bounds_pushNotice h .holdEnded)
  unfold heldSample resume
  dsimp only
  split_ifs
  · exact bounds_endOnSample h _ r
  · exact hrun
  · exact bounds_beginPhase hrun r
  · exact h
  · exact h

theorem bounds_handleSample (r : SampleRec) (ended : Bool) : BoundsHold (handleSample r ended s) := by
  have hcount : BoundsHold (countSample s) := h
  unfold handleSample
  dsimp only
  split
  · exact bounds_claimingSample hcount r
  · exact bounds_runningSample hcount r ended
  · exact bounds_heldSample hcount r
  · exact bounds_endingStep hcount r
  · exact bounds_returnStep hcount r
  · exact hcount

/-! ## Attaching, the tare and the pair -/

theorem bounds_enterAttaching : BoundsHold (enterAttaching s) := by
  unfold enterAttaching
  dsimp only
  split
  · exact h
  · exact h
  · exact bounds_report (s := gotoState .attaching s) h _
  · exact h

theorem bounds_failAttach (k : ExtEventKind) (code : Nat) (c : FaultCause) : BoundsHold (failAttach k code c s) := by
  unfold failAttach attachEvent
  split_ifs
  · exact bounds_enterClaiming (bounds_pushNotice (s := s.setExt s.ext.opening) h _)
  · exact bounds_report (s := s.setExt s.ext.opening) h c
  · exact h

theorem bounds_takeGripsLow : BoundsHold (takeGripsLow s) := by
  unfold takeGripsLow
  split
  · exact h
  · exact h

theorem bounds_tareJudged : BoundsHold (tareJudged s) := by
  unfold tareJudged
  split
  · exact h
  · split
    · refine bounds_takeGripsLow ?_
      unfold judgeTare tareSucceeded
      dsimp only
      split_ifs
      · exact bounds_enterAttaching (s := s.setLoad _) h
      · exact bounds_enterClaiming (s := s.setLoad _) h
      · exact h
      · exact bounds_report h _
    · exact h

theorem bounds_reportMeasuring : BoundsHold (reportMeasuring s) := by
  unfold reportMeasuring
  split
  · exact bounds_enterClaiming h
  · exact h

theorem bounds_pairSample (r : SampleRec) : BoundsHold (pairSample r s) := by
  have hskew : BoundsHold (computeSkew r s) := by
    unfold computeSkew
    split
    · exact h.setPair h.pair
    · exact h.setPair h.pair
  unfold pairSample
  split
  · refine bounds_countRunning ?_
    unfold judgeAlarm
    split_ifs
    · exact hskew
    · refine bounds_pushNotice ?_ _
      exact hskew.setPair hskew.pair
    · exact hskew.setPair hskew.pair
    · exact hskew
  · exact h

theorem bounds_updateShare (m : Level) : BoundsHold (updateShare m s) := by
  unfold updateShare
  split_ifs
  · exact h
  · refine bounds_requestUnits ?_ _ _
    exact h
  · exact h

theorem bounds_followLead (m : Level) : BoundsHold (followLead m s) := by
  unfold followLead
  split
  iterate 8 exact bounds_idleFollow h
  iterate 3 exact h
  iterate 2 · split <;> exact h
  iterate 2 exact h

theorem bounds_followSample : BoundsHold (followSample s) := by
  have hactive : ∀ {t : State}, BoundsHold t → BoundsHold (followActive t) := by
    intro t ht
    unfold followActive
    split
    · exact ht
    · split
      · exact ht
      · exact bounds_followLead (bounds_updateShare ht _) _
  unfold followSample
  split
  · split
    · exact hactive (t := followTo .followClaim s) h
    · exact h
  iterate 3 exact hactive h
  exact h

end Steps

end Sys2Proof.Proofs
end

section
namespace Sys2Proof.Proofs
open Sys2Proof.Machine Sys2Proof.Safety Sys2Proof.Laws

/-- What every step of a series keeps, the series keeps. -/
theorem bounds_foldl {α : Type} (f : State → α → State) (hf : ∀ {t} a, BoundsHold t → BoundsHold (f t a)) (as : List α)
    {s : State} (h : BoundsHold s) : BoundsHold (as.foldl f s) := by
  induction as generalizing s with
  | nil => exact h
  | cons a as ih => exact ih (hf a h)

section Steps

variable {s : State} (h : BoundsHold s)

include h

/-! ## The reports of a sample -/

theorem bounds_reportFound (cs : List FaultCause) : BoundsHold (reportFound cs s) := by
  obtain ⟨n, hn⟩ := drawOrder_draws cs s
  unfold reportFound
  rw [hn]
  refine bounds_foldl _ (fun c ht => bounds_report ht c) _ ?_
  exact h

theorem bounds_rememberSkew : BoundsHold (rememberSkew s) := by
  unfold rememberSkew
  split
  · exact h.setPair h.pair
  · exact h

omit h in
theorem bounds_claimChecked {act : State → State} (ha : BoundsHold (act s)) : BoundsHold (claimChecked act s) := by
  unfold claimChecked
  dsimp only
  split
  · exact bounds_reportFound (bounds_rememberSkew ha) _
  · exact ha

theorem bounds_checkFirst (checked : Bool) (r : SampleRec) : BoundsHold (checkFirst checked r s) := by
  unfold checkFirst
  split
  · exact h
  · exact bounds_reportFound (bounds_rememberSkew h) _

theorem bounds_takeReport (failed : Bool) (c : FaultCause) : BoundsHold (takeReport failed s c) := by
  unfold takeReport
  split_ifs
  · exact bounds_claimChecked (bounds_tareJudged h)
  · exact bounds_report h _
  · exact h
  · exact bounds_report h _

theorem bounds_reportAll (failed : Bool) (cs : List FaultCause) : BoundsHold (reportAll failed cs s) :=
  bounds_foldl _ (fun c ht => bounds_takeReport ht failed c) cs h

theorem bounds_claimMeasured : BoundsHold (claimChecked reportMeasuring s) :=
  bounds_claimChecked (bounds_reportMeasuring h)

theorem bounds_reportEarly (failed faulty : Bool) (cs : List FaultCause) :
    BoundsHold (reportEarly failed faulty cs s) := by
  have hentered : BoundsHold (enterMeasuring s) := h
  have hdrawn : BoundsHold (enterMeasuring s).draw.2 := h
  unfold reportEarly
  split
  · unfold reportSettled
    split_ifs
    · exact bounds_claimMeasured hentered
    · exact bounds_reportAll (bounds_claimMeasured hdrawn) _ _
    · exact bounds_claimMeasured (bounds_reportAll hdrawn _ _)
  · exact bounds_reportAll h _ _

theorem bounds_moveSample (checked overload : Bool) (r : SampleRec) : BoundsHold (moveSample checked overload r s) := by
  obtain ⟨n, hn⟩ := sampleReports_draws checked overload s (demandRequest s) r
  have hdrawn : BoundsHold (s.setFree n) := h
  unfold moveSample
  dsimp only
  rw [hn]
  exact bounds_reportAll (bounds_regulateSample (bounds_reportEarly (bounds_rememberSkew hdrawn) _ _ _) _ r) _ _

theorem bounds_handSample (checked : Bool) (v : ExtView) (r : SampleRec) (ended : Bool) :
    BoundsHold (handSample checked v r ended s) := by
  have hdeliver : ∀ {t : State}, BoundsHold t → BoundsHold (deliverSample v r ended t) := by
    intro t ht
    have hdrawn : BoundsHold t.draw.2 := ht
    unfold deliverSample handleBoth
    dsimp only
    split_ifs
    · exact bounds_handleSample (bounds_examineSample hdrawn v r) r ended
    · exact bounds_examineSample (bounds_handleSample hdrawn r ended) v r
    · exact bounds_handleSample ht r ended
  have hgrips : BoundsHold (takeGripsUnreported s) := by
    unfold takeGripsUnreported
    split
    · exact h
    · exact bounds_takeGripsLow h
  unfold handSample
  split
  · exact bounds_followSample h
  · exact hdeliver (bounds_checkFirst hgrips checked r)

theorem bounds_completeLoad (v : LoadView) : BoundsHold (completeLoad v s) := by
  have hwritten : BoundsHold (if s.isFollow then s.setLoad (LoadCh.completed s v)
      else writeRecord (fun t => t.detected s v.record) (s.setLoad (LoadCh.completed s v))) := by
    split
    · exact h
    · exact h
  unfold completeLoad detectorNotices
  dsimp only
  split_ifs at hwritten ⊢
  · exact bounds_pushNotice (bounds_pushNotice hwritten _) _
  · exact bounds_pushNotice (bounds_pushNotice hwritten _) _
  · exact bounds_pushNotice hwritten _
  · exact bounds_pushNotice hwritten _
  · exact bounds_pushNotice hwritten _
  · exact bounds_pushNotice hwritten _
  · exact hwritten
  · exact hwritten

theorem bounds_takeMeasured (r : SampleRec) : BoundsHold (takeMeasured r s) := by
  unfold takeMeasured
  split
  · exact h
  · exact h

theorem bounds_completeSample (reading : Int) (strain : Option Int) : BoundsHold (completeSample reading strain s) := by
  have htaken : BoundsHold (takenSample (loadView reading strain s) s) :=
    bounds_pairSample (bounds_offerSample (bounds_takeMeasured (bounds_completeLoad h _) _) _) _
  obtain ⟨n, hn⟩ := drawCheck_draws (takenSample (loadView reading strain s) s)
  have hchecked : BoundsHold (drawCheck (takenSample (loadView reading strain s) s)).2 := by
    rw [hn]
    exact htaken
  exact bounds_moveSample (bounds_handSample hchecked _ _ _ _) _ _ _

theorem bounds_loadConversionEnd (reading : Int) : BoundsHold (loadConversionEnd reading s) := by
  unfold loadConversionEnd
  split_ifs
  · exact h
  · exact bounds_completeSample h _ _
  · exact h

theorem bounds_strainConversionEnd (reading : Int) : BoundsHold (strainConversionEnd reading s) := by
  have hcounted : BoundsHold (countSettling (clampReading reading) s) := by
    unfold countSettling
    split
    · exact h
    · exact h
  unfold strainConversionEnd
  split
  · split
    · exact h
    · exact bounds_completeSample hcounted _ _
  · exact h

/-! ## The link -/

theorem bounds_judgeHeader (epoch : Byte) (inStep : Bool) : BoundsHold (judgeHeader epoch inStep s) :=
  h.same (by simp [SameBounds])

theorem bounds_present (n : Nat) : BoundsHold (s.setLink (s.link.present n)) := h.same (by simp [SameBounds])

theorem bounds_endReception : BoundsHold (s.setLink s.link.endReception) := h.setLink h.link

theorem bounds_receive (f : RxFrame) {act : State → State} (ha : ∀ {t}, BoundsHold t → BoundsHold (act t)) :
    BoundsHold (receive f act s) := by
  have hended := bounds_endReception h
  unfold receive examineHeader dispatchFrame
  dsimp only
  split_ifs
  · exact hended
  · exact hended
  · exact bounds_report hended _
  · exact ha (bounds_judgeHeader (bounds_present hended _) _ _)
  · exact h

theorem bounds_receiveError (taken : Taken) : BoundsHold (receiveError taken s) := by
  have hended := bounds_endReception h
  unfold receiveError
  dsimp only
  split_ifs
  · exact hended
  · exact (hended.setLink (bounds_countError hended (judgeTaken taken))).same (by simp [SameBounds])
  · exact h

theorem bounds_frameStart (quiet : Nat) : BoundsHold (frameStart quiet s) := by
  have hquiet : BoundsHold (s.setLink { s.link with quiet := s.link.quiet + quiet }) := h.setLink h.link
  unfold frameStart
  split
  · unfold arbitrate
    split
    · exact hquiet
    · rename_i level f _
      split_ifs
      · exact hquiet.same (by simp [SameBounds, withdrawChosen])
      · exact hquiet.same (by cases f <;> simp [SameBounds, startFrame, Link.leaveSlot])
      · exact hquiet
  · exact h

theorem bounds_applyGrant (n units : Nat) (epoch : Byte) : BoundsHold (applyGrant n units epoch s) := by
  unfold applyGrant
  split
  · exact bounds_applyEntry h _ _ _
  · exact h.same (by simp [SameBounds])

theorem bounds_frameComplete : BoundsHold (frameComplete s) := by
  unfold frameComplete
  split
  · split
    · exact h
    · rename_i i _
      have hquiet : BoundsHold (s.setLink { s.link with line := .quiet, quiet := 0, inFlight := none }) :=
        h.setLink h.link
      unfold reportCompletion
      split
      iterate 3 exact hquiet
      · rename_i g _
        exact (bounds_applyGrant hquiet s.start.number g.units i.epoch).same (by simp [SameBounds, ownGrantComplete])
      · exact bounds_noticeSent hquiet _
      · exact hquiet.same (by unfold resultComplete; (repeat' split) <;> simp [SameBounds])
      · exact bounds_curveComplete hquiet _ _
  · exact h

theorem bounds_returnFrame (i : InFlight) : LinkBounded (s.link.returnFrame i) := by
  unfold Link.returnFrame
  (repeat' split) <;> exact h.link

theorem bounds_frameAbandon : BoundsHold (frameAbandon s) := by
  unfold frameAbandon
  split
  · split
    · exact h
    · rename_i i _
      have hwaits : BoundsHold (s.setLink { s.link with
          line := .receiving, taking := false, quiet := 0, inFlight := none }) := h.setLink h.link
      unfold reportAbandonment
      split
      · exact hwaits.same (by simp [SameBounds, ownGrantAbandoned])
      · exact hwaits.setLink (bounds_returnFrame hwaits i)
  · exact h

theorem bounds_dropMember (n : Nat) : BoundsHold (dropMember n s) := by
  unfold dropMember
  split_ifs
  · exact h.setLink h.link
  · exact h
  · exact h

theorem bounds_levelTimer : BoundsHold (levelTimer s) := by
  unfold levelTimer
  split
  · exact (h.setPair (x := { s.pair with levelTimer := some 0 }) h.pair).setLink h.link
  · exact h

theorem bounds_statusTimer : BoundsHold (statusTimer s) := by
  unfold statusTimer
  split
  · exact h.setLink h.link
  · exact h

theorem bounds_coldStartDue : BoundsHold (coldStartDue s) := by
  unfold coldStartDue
  split
  · exact bounds_coldStart h
  · exact h

/-! ## The extensometer unit's own commands -/

theorem bounds_seatFound : BoundsHold (seatFound s) := by
  unfold seatFound
  split
  · exact h
  · exact h

theorem bounds_seatLost : BoundsHold (seatLost s) := by
  unfold seatLost
  split
  · exact bounds_failAttach h _ _ _
  · exact bounds_failAttach h _ _ _
  · exact bounds_switchover h _
  · exact h

theorem bounds_armOut : BoundsHold (armOut s) := by
  unfold armOut
  dsimp only
  split_ifs
  · exact h
  · exact h
  · exact h

theorem bounds_closeExpired : BoundsHold (closeExpired s) := by
  unfold closeExpired
  split
  · exact bounds_failAttach h _ _ _
  · exact h

theorem bounds_identExpired : BoundsHold (identExpired s) := by
  unfold identExpired
  split
  · exact bounds_failAttach h _ _ _
  · exact h

theorem bounds_openExpired : BoundsHold (openExpired s) := by
  unfold openExpired
  dsimp only
  split
  · split
    · split
      · refine bounds_report ?_ _
        exact h
      · exact h
    · exact h
  · exact h

theorem bounds_identStart : BoundsHold (identStart s) := by
  unfold identStart
  split
  · exact h
  · exact h

theorem bounds_examineWord (w : BitVec 32) : BoundsHold (examineWord w s) := by
  have hwritten : BoundsHold (writeIdRec w s) := h
  unfold examineWord
  split_ifs
  · exact bounds_failAttach h _ _ _
  · exact bounds_failAttach hwritten _ _ _
  · exact bounds_failAttach hwritten _ _ _
  · exact h
  · exact h

theorem bounds_settled : BoundsHold (settled s) := by
  unfold settled
  split
  · exact bounds_reportMeasuring (s := enterMeasuring s) h
  · exact h

/-! ## The load channel's and the sequencers' own events -/

theorem bounds_rangeDown : BoundsHold (rangeDown s) := by
  unfold rangeDown
  (repeat' split) <;> exact h

theorem bounds_rangeSettled : BoundsHold (rangeSettled s) := by
  unfold rangeSettled
  split
  · exact h
  · exact h

theorem bounds_gripsQualified : BoundsHold (gripsQualified s) := by
  unfold gripsQualified
  split
  · exact h
  · exact h

theorem bounds_holdExpired : BoundsHold (holdExpired s) := by
  unfold holdExpired
  split
  · exact bounds_report h _
  · exact h

theorem bounds_budgetExpired : BoundsHold (budgetExpired s) := by
  unfold budgetExpired
  split
  · exact bounds_report h _
  · exact h

theorem bounds_endingExpired : BoundsHold (endingExpired s) := by
  unfold endingExpired
  split
  · exact bounds_report h _
  · exact h

theorem bounds_partnerLost : BoundsHold (partnerLost s) := by
  unfold partnerLost
  split
  · exact h
  · exact h

theorem bounds_followLossExpired : BoundsHold (followLossExpired s) := by
  unfold followLossExpired
  split
  · exact bounds_idleFollow h
  · exact h

/-! ## The travel unit -/

theorem travelBounded_advance (us : Nat) : TravelBounded (s.travel.advance us) := by
  simpa [TravelBounded] using h.travel

theorem bounds_gateClose : BoundsHold (gateClose s) := by
  have hclosed : ∀ sum us, TravelBounded (s.travel.closeGate sum us) := by
    intro sum us
    unfold Travel.closeGate
    split_ifs <;> exact h.travel
  unfold gateClose
  split
  · exact h
  · exact h.setTravel (hclosed _ _)

theorem bounds_encoderCount (up : Bool) (us : Nat) : BoundsHold (encoderCount up us s) := by
  refine h.setTravel ?_
  rw [count_frame]
  exact travelBounded_advance h us

theorem bounds_releasePort : BoundsHold (releasePort s) := by
  unfold releasePort
  split_ifs
  · exact bounds_report h _
  · exact h.setTravel ⟨zero_in_port, h.travel.2⟩
  · exact h

theorem bounds_examineAmplifier : BoundsHold (examineAmplifier s) := by
  unfold examineAmplifier
  split
  · refine bounds_report (h.setTravel ?_) _
    exact ⟨zero_in_port, h.travel.2⟩
  · exact h

end Steps

end Sys2Proof.Proofs
end

section
namespace Sys2Proof.Proofs
open Sys2Proof.Machine Sys2Proof.Safety Sys2Proof.Laws

theorem bounds_reset : BoundsHold State.reset := (bounded_iff _).1 resetMeetsInvariants.2.1

theorem bounds_powerOn (strap : BitVec 16) (s : State) : BoundsHold (powerOn strap s) := bounds_reset

section Steps

variable {s : State} (h : BoundsHold s)

include h

/-! ## Start-up -/

theorem bounds_setLines (lines : Lines) : BoundsHold (s.setLines lines) := h

theorem bounds_startIntervalEnd (lines : Lines) : BoundsHold (startIntervalEnd lines s) := by
  unfold startIntervalEnd
  dsimp only
  split
  · exact h
  · have hlatched : BoundsHold (latchIfLow (((s.setLines lines).setStart { s.start with
        intervalTimer := none, intervalEnded := true }).setPair { s.pair with levelRun := s.start.role != .solo })) := by
      unfold latchIfLow
      split
      · exact bounds_setLatch (BoundsHold.setPair (s := (s.setLines lines).setStart _) h h.pair)
      · exact BoundsHold.setPair (s := (s.setLines lines).setStart _) h h.pair
    exact hlatched.setLink hlatched.link

theorem bounds_takeConfig (payload : List Byte) : BoundsHold (takeConfig payload s) := by
  unfold takeConfig
  split
  · exact bounds_pushNotice h _
  · split
    · exact bounds_pushNotice h _
    · rename_i c _
      have hgate := bounds_gateClose h
      have htravel : TravelBounded ((gateClose s).travel.configure c) := by
        unfold Travel.configure
        dsimp only
        split <;> exact hgate.travel
      refine bounds_pushNotice ?_ _
      exact (hgate.setTravel htravel).same (by simp [SameBounds])

/-! ## Received frames -/

theorem bounds_grantAct (f : RxFrame) : BoundsHold (grantAct f s) := by
  unfold grantAct
  split
  · rename_i units _ _
    split
    · exact (bounds_applyGrant h f.sender.toNat units.toNat f.epoch).same (by simp [SameBounds, hearGrant])
    · exact h
  · exact h

theorem bounds_levelAct (f : RxFrame) : BoundsHold (levelAct f s) := by
  unfold levelAct
  split
  · exact h
  · split
    · exact h.setPair ⟨Nat.zero_le _, h.pair.2⟩
    · exact h

theorem bounds_statusAct (f : RxFrame) : BoundsHold (statusAct f s) := by
  have hrecover : ∀ entries epoch, BoundsHold (recover entries epoch s) := by
    intro entries epoch
    unfold recover
    dsimp only
    split
    · exact (bounds_adopt h entries epoch).same (by simp [SameBounds])
    · exact bounds_adopt h entries epoch
  unfold statusAct
  split
  · exact h
  · split
    · exact bounds_report h _
    · split
      · exact h
      · split
        · exact hrecover _ _
        · exact h

theorem bounds_acceptOrder (o : Order) : BoundsHold (acceptOrder o s) := by
  have hstore : StoreBounded s.recorder.fresh := ⟨Nat.zero_le _, List.Pairwise.nil⟩
  have hfresh : BoundsHold ((s.setRecorder s.recorder.fresh).setPair { s.pair with joined := false, runCount := 0 }) :=
    (h.setRecorder hstore).setPair ⟨h.pair.1, Nat.zero_le _⟩
  refine bounds_pushNotice ?_ _
  exact hfresh

theorem bounds_takeOrder (payload : List Byte) : BoundsHold (takeOrder payload s) := by
  unfold takeOrder
  split
  · exact bounds_pushNotice h _
  · split
    · exact bounds_pushNotice h _
    · exact bounds_acceptOrder h _

theorem bounds_abortTest : BoundsHold (abortTest s) := by
  unfold abortTest
  split_ifs
  · exact h
  · exact bounds_enterEnding (s := abandonTare s) h _ _
  · exact bounds_enterEnding (s := s.setSeq { s.seq with returnCancelled := true }) h _ _
  · exact h

theorem bounds_clearStation : BoundsHold (clearStation s) := by
  have hstop : BoundsHold (clearStop s) := by
    have hcleared : BoundsHold (s.setStop { s.stop with record := none, further := 0, driving := false }) :=
      h.setStop (Nat.zero_le _)
    unfold clearStop
    dsimp only
    split
    · exact bounds_pushNotice (bounds_setLatch hcleared) _
    · exact hcleared.setStop hcleared.faults
  have hseq : BoundsHold (clearSequencer (clearStop s)) := by
    unfold clearSequencer
    split_ifs
    · exact hstop
    · exact bounds_restFollow hstop
    · exact hstop
    · exact bounds_enterIdle hstop
    · exact hstop
  have harm : BoundsHold (freeArm (clearSequencer (clearStop s))) := by
    unfold freeArm
    split
    · exact hseq
    · exact hseq
  exact bounds_releasePort (BoundsHold.setPair (s := (freeArm (clearSequencer (clearStop s))).setLoad _) harm harm.pair)

theorem bounds_restartSequencer : BoundsHold (restartSequencer s) := by
  unfold restartSequencer
  split
  · exact bounds_restFollow h
  · exact bounds_enterIdle h

theorem bounds_restartMotion : BoundsHold (restartMotion s) := by
  have hrest := bounds_restRegulator h
  exact hrest.setPair ⟨h.pair.1, Nat.zero_le _⟩

theorem bounds_dropPair : BoundsHold (dropPair s) := by
  unfold dropPair
  split
  · exact h
  · exact h.setTravel h.travel

theorem bounds_setExt (x : Ext) : BoundsHold (s.setExt x) := h

theorem bounds_released (x : LoadCh) :
    BoundsHold (requestUnits 0 .release (clearLock ((s.setRecorder Recorder.reset).setLoad x))) := by
  have hempty := h.setRecorder (x := Recorder.reset) ⟨Nat.zero_le _, List.Pairwise.nil⟩
  exact bounds_requestUnits (s := clearLock ((s.setRecorder Recorder.reset).setLoad x)) hempty _ _

/-- R128: the blocks of a RESTART that set their bounded values afresh. -/
theorem bounds_restarted : BoundsHold (restarted s) := by
  have hlink : LinkBounded s.link.restart :=
    ⟨Nat.zero_le _, Nat.zero_le _, Nat.zero_le _, Nat.zero_le _, Nat.zero_le _⟩
  have hblocks : BoundsHold ((s.setLink s.link.restart).setStop { s.stop with record := none, further := 0 }) :=
    (h.setLink hlink).setStop (Nat.zero_le _)
  exact bounds_released (bounds_restartMotion (bounds_restartSequencer (bounds_dropPair (bounds_setExt hblocks _)))) _

theorem bounds_reclaimNode (n : Nat) (epoch : Byte) : BoundsHold (reclaimNode n epoch s) := by
  have hcleared : BoundsHold (clearLock (applyEntry n 0 epoch s)) := bounds_applyEntry h n 0 epoch
  have hlost : ∀ {t : State}, BoundsHold t → BoundsHold (loseUnits t) := by
    intro t ht
    have hdropped : BoundsHold ((dropGrant (t.setBudget { t.budget with requested := 0, reason := .release })).setFollow
        { (dropGrant (t.setBudget { t.budget with requested := 0, reason := .release })).follow with asked := 0 }) :=
      ht.same (by simp [SameBounds])
    unfold loseUnits
    dsimp only
    split
    · exact bounds_report hdropped _
    · exact hdropped
  unfold reclaimNode
  dsimp only
  split_ifs
  · exact hlost hcleared
  · exact hcleared.same (by simp [SameBounds])
  · exact h

theorem bounds_configAct (f : RxFrame) : BoundsHold (configAct f s) := by
  unfold configAct
  split
  · exact bounds_takeConfig h _
  · exact h

theorem bounds_orderAct (f : RxFrame) : BoundsHold (orderAct f s) := by
  unfold orderAct
  split
  · exact bounds_takeOrder h _
  · exact h

theorem bounds_abortAct (f : RxFrame) : BoundsHold (abortAct f s) := by
  unfold abortAct
  split
  · exact bounds_abortTest h
  · exact h

theorem bounds_clearAct (f : RxFrame) : BoundsHold (clearAct f s) := by
  unfold clearAct
  split
  · exact bounds_clearStation h
  · exact h

theorem bounds_restartAct (f : RxFrame) : BoundsHold (restartAct f s) := by
  unfold restartAct
  split
  · rw [restartStation_eq]
    exact bounds_releasePort (bounds_restarted h)
  · exact h

theorem bounds_reclaimAct (f : RxFrame) : BoundsHold (reclaimAct f s) := by
  unfold reclaimAct
  split
  · split
    · exact bounds_reclaimNode h _ _
    · exact h
  · exact h

theorem bounds_reportFrame (cls : Byte) (f : RxFrame) : BoundsHold (reportFrame cls f s) := by
  unfold reportFrame
  split_ifs
  · exact bounds_receive h f id
  · exact bounds_endReception h
  · exact h

/-! ## The tick and the passing of time -/

theorem bounds_takeStep (due : Bool) {act : State → State} (ha : ∀ {t}, BoundsHold t → BoundsHold (act t)) :
    BoundsHold (takeStep due act s) := by
  unfold takeStep
  split
  · exact bounds_forceZero (ha h)
  · exact h

theorem bounds_settleTimers : BoundsHold (settleTimers s) :=
  bounds_takeStep (bounds_takeStep (bounds_takeStep (bounds_takeStep h _ fun ht => bounds_startIntervalEnd ht _) _
    bounds_closeExpired) _ bounds_identExpired) _ bounds_openExpired

theorem bounds_settleLines : BoundsHold (settleLines s) :=
  bounds_takeStep (bounds_takeStep (bounds_takeStep h _ bounds_seatFound) _ bounds_seatLost) _ bounds_armOut

theorem bounds_settleSample : BoundsHold (settleSample s) :=
  bounds_takeStep h _ fun ht =>
    bounds_settled (bounds_takeGripsLow (bounds_tareJudged (bounds_rangeDown (bounds_rangeSettled ht))))

theorem bounds_settleTimeouts : BoundsHold (settleTimeouts s) :=
  bounds_takeStep h _ fun ht =>
    bounds_followLossExpired (bounds_endingExpired (bounds_budgetExpired (bounds_holdExpired ht)))

theorem bounds_settleCounts : BoundsHold (settleCounts s) :=
  bounds_takeStep h _ fun ht => bounds_gripsQualified (bounds_coldStartDue
    (bounds_foldl (fun t n => dropMember n t) (fun n ht' => bounds_dropMember ht' n) _
      (bounds_partnerLost (bounds_gateClose ht))))

theorem bounds_settleAll : BoundsHold (settleAll s) :=
  bounds_statusTimer (bounds_levelTimer (bounds_settleLines (bounds_settleTimeouts (bounds_settleSample
    (bounds_settleCounts (bounds_settleTimers h))))))

theorem bounds_tickCore : BoundsHold (tickCore s) := by
  have hgate : ∀ n, TravelBounded (s.travel.tickGate n) := by
    intro n
    unfold Travel.tickGate
    (repeat' split) <;> exact h.travel
  exact BoundsHold.setTravel (s := s.setClock { s.clock with sampleTimer := 0 }) h (hgate _)

theorem bounds_tickAges : BoundsHold (tickAges s) := by
  have hpair : BoundsHold (if s.paired then s.setPair s.pair.tick else s) := by
    split
    · exact bounds_tickPair h
    · exact h
  exact hpair.same (by simp [SameBounds, tickAges, Link.agePresence])

theorem bounds_sampleTick (lines : Lines) : BoundsHold (sampleTick lines s) := by
  have hcore : BoundsHold (tickCore ((settleAll s).setLines lines)) :=
    bounds_tickCore (bounds_setLines (bounds_settleAll h) lines)
  unfold sampleTick
  dsimp only
  split
  · exact hcore
  · exact bounds_examineAmplifier (bounds_forceZero ((bounds_tickAges hcore).same (by simp [SameBounds])))

theorem bounds_passBitTime : BoundsHold (passBitTime s) := by
  refine h.same ?_
  have hwindow : (passBitTime s).travel.window = s.travel.window := by
    dsimp only [passBitTime, bitTravel]
    (repeat' split) <;> simp
  unfold SameBounds
  rw [passBitTime_link]
  simp [passBitTime_travel, hwindow]

/-! ## Every command -/

theorem bounds_exec (c : Instr) : Next (exec c s) BoundsHold := by
  have hfinish : ∀ {t : State}, BoundsHold t → Next (.next (finish s t)) BoundsHold :=
    fun ht => ⟨_, rfl, bounds_finish ht s⟩
  cases c with
  | powerOnReset strap => exact hfinish (bounds_powerOn strap s)
  | startIntervalEnd lines => exact hfinish (bounds_startIntervalEnd h lines)
  | sampleTick lines => exact hfinish (bounds_sampleTick h lines)
  | gateClose => exact hfinish (bounds_gateClose h)
  | encoderCount up us => exact hfinish (bounds_encoderCount h up us)
  | periodTimerStop => exact hfinish (h.setTravel (travelBounded_advance h _))
  | loadConversionEnd reading => exact hfinish (bounds_loadConversionEnd h reading)
  | strainConversionEnd reading => exact hfinish (bounds_strainConversionEnd h reading)
  | rangeDown => exact hfinish (bounds_rangeDown h)
  | rangeSettleEnd => exact hfinish (bounds_rangeSettled h)
  | tareAttemptJudged => exact hfinish (bounds_tareJudged h)
  | gripsQualified => exact hfinish (bounds_gripsQualified h)
  | holdTimeout => exact hfinish (bounds_holdExpired h)
  | budgetTimeout => exact hfinish (bounds_budgetExpired h)
  | endingTimeout => exact hfinish (bounds_endingExpired h)
  | partnerLoss => exact hfinish (bounds_partnerLost h)
  | followLossTimeout => exact hfinish (bounds_followLossExpired h)
  | levelTimer => exact hfinish (bounds_levelTimer h)
  | statusTimer => exact hfinish (bounds_statusTimer h)
  | presenceTimeout node => exact hfinish (bounds_dropMember h _)
  | coldStart => exact hfinish (bounds_coldStartDue h)
  | settlingComplete => exact hfinish (bounds_settled h)
  | armClosedHigh => exact hfinish (bounds_seatFound (bounds_setLines h _))
  | armClosedLow => exact hfinish (bounds_seatLost (bounds_setLines h _))
  | armOpenHigh => exact hfinish (bounds_armOut (bounds_setLines h _))
  | identWord word => exact hfinish (bounds_examineWord h word)
  | extCloseTimeout => exact hfinish (bounds_closeExpired h)
  | identTimeout => exact hfinish (bounds_identExpired h)
  | extOpenTimeout => exact hfinish (bounds_openExpired h)
  | stopLineFall low => exact hfinish (bounds_setLatch (bounds_setLines h _))
  | startBitSensed =>
    refine hfinish ?_
    unfold startBitSensed
    split
    · exact h.setLink h.link
    · exact h
  | receiveError taken => exact hfinish (bounds_receiveError h taken)
  | grantFrame f => exact hfinish (bounds_receive h f fun ht => bounds_grantAct ht f)
  | levelFrame f => exact hfinish (bounds_receive h f fun ht => bounds_levelAct ht f)
  | stopFrame f => exact hfinish (bounds_receive h f bounds_setLatch)
  | statusFrame f => exact hfinish (bounds_receive h f fun ht => bounds_statusAct ht f)
  | reportFrame cls f => exact hfinish (bounds_reportFrame h cls f)
  | config f => exact hfinish (bounds_receive h f fun ht => bounds_configAct ht f)
  | order f => exact hfinish (bounds_receive h f fun ht => bounds_orderAct ht f)
  | abort f => exact hfinish (bounds_receive h f fun ht => bounds_abortAct ht f)
  | clear f lines => exact hfinish (bounds_receive (bounds_setLines h lines) f fun ht => bounds_clearAct ht f)
  | restart f lines => exact hfinish (bounds_receive (bounds_setLines h lines) f fun ht => bounds_restartAct ht f)
  | reclaim f => exact hfinish (bounds_receive h f fun ht => bounds_reclaimAct ht f)
  | frameStart quiet => exact hfinish (bounds_frameStart h quiet)
  | frameComplete => exact hfinish (bounds_frameComplete h)
  | frameAbandon => exact hfinish (bounds_frameAbandon h)
  | lineIdle =>
    refine hfinish ?_
    unfold lineIdle
    split
    · exact bounds_endReception h
    · exact h
  | identStartBit => exact hfinish (bounds_identStart h)

end Steps

/-- Settles O4: each operation of the blocks keeps every bound, and so does each command and the passing of a bit
time. -/
theorem boundsHoldOverSteps : Obligations.BoundsHoldOverSteps := by
  unfold Obligations.BoundsHoldOverSteps
  intro s t hs h
  rw [bounded_iff] at hs ⊢
  rcases step_cases h with ⟨-, rfl⟩ | ⟨c, rest, -, hc⟩
  · exact bounds_passBitTime hs
  · obtain ⟨u, hu, hbounds⟩ := bounds_exec (s := s.setPending rest) hs c
    rw [hc, Host.Outcome.next.injEq] at hu
    rwa [hu]

end Sys2Proof.Proofs
end

section
namespace Sys2Proof.Proofs
open Sys2Proof.Machine Sys2Proof.Safety Sys2Proof.Laws

/-! ## The steps that the reports of one sample are made of -/

/-- R84, R99, R154: a report, the judgment of the tare, the report of MEASURING, and the acts of the same sample that
report nothing. -/
inductive ReportStep : State → State → Prop
  | reported (c : FaultCause) (s : State) : ReportStep s (report c s)
  | judged (s : State) : ReportStep s (tareJudged s)
  | measured (s : State) : ReportStep s (reportMeasuring s)
  | entered (s : State) : ReportStep s (enterMeasuring s)
  | remembered (s : State) : ReportStep s (rememberSkew s)
  | drawn (n : Nat) (s : State) : ReportStep s (s.setFree n)
  | regulated (q : Request) (r : SampleRec) (s : State) : ReportStep s (regulateSample q r s)

/-- `t` comes from `s` by such steps. -/
abbrev ReportRun : State → State → Prop := Relation.ReflTransGen ReportStep

theorem ReportRun.keeps {P : State → Prop} (hP : ∀ {s t}, ReportStep s t → P s → P t) {s t : State}
    (h : ReportRun s t) (hs : P s) : P t := by
  induction h with
  | refl => exact hs
  | tail _ hst ih => exact hP hst ih

theorem reportRun_foldl (cs : List FaultCause) (s : State) : ReportRun s (cs.foldl (fun t c => report c t) s) := by
  induction cs generalizing s with
  | nil => exact .refl
  | cons c cs ih => exact .head (.reported c s) (ih _)

theorem reportRun_reportFound (cs : List FaultCause) (s : State) : ReportRun s (reportFound cs s) := by
  obtain ⟨n, hn⟩ := drawOrder_draws cs s
  unfold reportFound
  rw [hn]
  exact .head (.drawn n s) (reportRun_foldl _ _)

theorem reportRun_claimChecked {act : State → State} {s : State} (h : ReportStep s (act s)) :
    ReportRun s (claimChecked act s) := by
  unfold claimChecked
  dsimp only
  split
  · exact .head h (.head (.remembered _) (reportRun_reportFound _ _))
  · exact .single h

theorem reportRun_takeReport (failed : Bool) (s : State) (c : FaultCause) : ReportRun s (takeReport failed s c) := by
  unfold takeReport
  split_ifs
  · exact reportRun_claimChecked (.judged s)
  · exact .single (.reported _ s)
  · exact .refl
  · exact .single (.reported c s)

theorem reportRun_reportAll (failed : Bool) (cs : List FaultCause) (s : State) :
    ReportRun s (reportAll failed cs s) := by
  unfold reportAll
  induction cs generalizing s with
  | nil => exact .refl
  | cons c cs ih => exact (reportRun_takeReport failed s c).trans (ih _)

theorem reportRun_reportSettled (failed : Bool) (cs : List FaultCause) (s : State) :
    ReportRun s (reportSettled failed cs s) := by
  unfold reportSettled
  split_ifs
  · exact reportRun_claimChecked (.measured s)
  · exact .head (.drawn _ s) ((reportRun_claimChecked (.measured _)).trans (reportRun_reportAll _ _ _))
  · exact .head (.drawn _ s) ((reportRun_reportAll _ _ _).trans (reportRun_claimChecked (.measured _)))

theorem reportRun_reportEarly (failed faulty : Bool) (cs : List FaultCause) (s : State) :
    ReportRun s (reportEarly failed faulty cs s) := by
  unfold reportEarly
  split
  · exact .head (.entered s) (reportRun_reportSettled _ _ _)
  · exact reportRun_reportAll _ _ _

theorem reportRun_checkFirst (checked : Bool) (r : SampleRec) (s : State) : ReportRun s (checkFirst checked r s) := by
  unfold checkFirst
  split
  · exact .refl
  · exact .head (.remembered s) (reportRun_reportFound _ _)

/-! ## The two halves of the reports of a sample -/

/-- R85: the reports before OVERLOAD, and OVERLOAD with what comes after it. -/
def earlyReports (checked overload : Bool) (r : SampleRec) (s : State) : List FaultCause :=
  (sampleReports checked overload s (demandRequest s) r).1.takeWhile (· ≠ .overload)

def lateReports (checked overload : Bool) (r : SampleRec) (s : State) : List FaultCause :=
  (sampleReports checked overload s (demandRequest s) r).1.dropWhile (· ≠ .overload)

theorem early_append_late (checked overload : Bool) (r : SampleRec) (s : State) :
    earlyReports checked overload r s ++ lateReports checked overload r s
      = (sampleReports checked overload s (demandRequest s) r).1 :=
  List.takeWhile_append_dropWhile

/-- R84, R99: the sample has a fault, of its own or of the claim that it leads to. -/
def sampleFaulty (checked overload : Bool) (r : SampleRec) (s : State) : Bool :=
  !(sampleReports checked overload s (demandRequest s) r).1.isEmpty || !(entryFaults s).isEmpty

/-- R45: the state in which the regulator acts on the sample. -/
def reportedEarly (checked overload : Bool) (r : SampleRec) (s : State) : State :=
  reportEarly (tareFails s) (sampleFaulty checked overload r s) (earlyReports checked overload r s)
    (rememberSkew (sampleReports checked overload s (demandRequest s) r).2)

theorem moveSample_eq (checked overload : Bool) (r : SampleRec) (s : State) :
    moveSample checked overload r s
      = reportAll (tareFails s) (lateReports checked overload r s)
          (regulateSample (demandRequest s) r (reportedEarly checked overload r s)) := rfl

theorem reportRun_reportedEarly (checked overload : Bool) (r : SampleRec) (s : State) :
    ReportRun s (reportedEarly checked overload r s) := by
  obtain ⟨n, hn⟩ := sampleReports_draws checked overload s (demandRequest s) r
  unfold reportedEarly
  rw [hn]
  exact .head (.drawn n s) (.head (.remembered _) (reportRun_reportEarly _ _ _ _))

theorem reportRun_regulated (checked overload : Bool) (r : SampleRec) (s : State) :
    ReportRun (reportedEarly checked overload r s) (moveSample checked overload r s) := by
  rw [moveSample_eq]
  exact .head (.regulated _ r _) (reportRun_reportAll _ _ _)

theorem reportRun_moveSample (checked overload : Bool) (r : SampleRec) (s : State) :
    ReportRun s (moveSample checked overload r s) :=
  (reportRun_reportedEarly checked overload r s).trans (reportRun_regulated checked overload r s)

/-! ## Every cause is reported -/

/-- The cause is reported on the way from `s` to `t`. -/
def ReportedWithin (c : FaultCause) (s t : State) : Prop := ∃ m, ReportRun s m ∧ ReportRun (report c m) t

theorem ReportedWithin.of_before {c : FaultCause} {s t u : State} (h : ReportRun s t) (ht : ReportedWithin c t u) :
    ReportedWithin c s u := by
  obtain ⟨m, hm, hu⟩ := ht
  exact ⟨m, h.trans hm, hu⟩

theorem ReportedWithin.of_after {c : FaultCause} {s t u : State} (hs : ReportedWithin c s t) (h : ReportRun t u) :
    ReportedWithin c s u := by
  obtain ⟨m, hm, ht⟩ := hs
  exact ⟨m, hm, ht.trans h⟩

theorem takeReport_of_fault {c : FaultCause} (failed : Bool) (s : State) (h : c ≠ .tareUnstable) :
    takeReport failed s c = report c s := by
  simp [takeReport, h]

theorem reportAll_cons (failed : Bool) (c : FaultCause) (cs : List FaultCause) (s : State) :
    reportAll failed (c :: cs) s = reportAll failed cs (takeReport failed s c) := rfl

theorem reportedWithin_reportAll {c : FaultCause} {cs : List FaultCause} (failed : Bool) (s : State) (hc : c ∈ cs)
    (h : c ≠ .tareUnstable) : ReportedWithin c s (reportAll failed cs s) := by
  induction cs generalizing s with
  | nil => simp at hc
  | cons d ds ih =>
    rw [reportAll_cons]
    rcases List.mem_cons.1 hc with rfl | hd
    · exact ⟨s, .refl, takeReport_of_fault failed s h ▸ reportRun_reportAll failed ds _⟩
    · exact (ih _ hd).of_before (reportRun_takeReport failed s d)

theorem reportedWithin_reportEarly {c : FaultCause} {cs : List FaultCause} (failed faulty : Bool) (s : State)
    (hc : c ∈ cs) (h : c ≠ .tareUnstable) : ReportedWithin c s (reportEarly failed faulty cs s) := by
  unfold reportEarly
  split
  · refine ReportedWithin.of_before (.single (.entered s)) ?_
    unfold reportSettled
    rw [if_neg (by simp [List.ne_nil_of_mem hc])]
    refine ReportedWithin.of_before (.single (.drawn ((enterMeasuring s).free + 1) _)) ?_
    split
    · exact (reportedWithin_reportAll failed _ hc h).of_before (reportRun_claimChecked (.measured _))
    · exact (reportedWithin_reportAll failed _ hc h).of_after (reportRun_claimChecked (.measured _))
  · exact reportedWithin_reportAll failed s hc h

theorem reportedWithin_reportedEarly {c : FaultCause} {checked overload : Bool} {r : SampleRec} {s : State}
    (hc : c ∈ earlyReports checked overload r s) (h : c ≠ .tareUnstable) :
    ReportedWithin c s (reportedEarly checked overload r s) := by
  obtain ⟨n, hn⟩ := sampleReports_draws checked overload s (demandRequest s) r
  unfold reportedEarly
  rw [hn]
  exact (reportedWithin_reportEarly _ _ _ hc h).of_before (.head (.drawn n s) (.single (.remembered _)))

theorem reportedWithin_moveSample {c : FaultCause} {checked overload : Bool} {r : SampleRec} {s : State}
    (hc : c ∈ (sampleReports checked overload s (demandRequest s) r).1) (h : c ≠ .tareUnstable) :
    ReportedWithin c s (moveSample checked overload r s) := by
  rw [← early_append_late] at hc
  rcases List.mem_append.1 hc with he | hl
  · exact (reportedWithin_reportedEarly he h).of_after (reportRun_regulated checked overload r s)
  · rw [moveSample_eq]
    exact (reportedWithin_reportAll _ _ hl h).of_before
      ((reportRun_reportedEarly checked overload r s).tail (.regulated _ r _))

/-! ## A report and the answer of the station's sequencer -/

/-- R152, R153: the fault is in the record and the notice queue, and the sequencers have not answered yet. -/
structure FaultTaken (c : FaultCause) (s u : State) : Prop where
  start : u.start = s.start
  seq : u.seq = s.seq
  follow : u.follow = s.follow
  load : u.load = s.load
  pair : u.pair = s.pair
  recorder : u.recorder = s.recorder
  notices : ∀ n ∈ u.link.notices, n ∈ s.link.notices ∨ ∃ l, n.kind = .fault c l

theorem mem_pushNotice {k : NoticeKind} {s : State} {n : Notice} (h : n ∈ (pushNotice k s).link.notices) :
    n ∈ s.link.notices ∨ n.kind = k := by
  unfold pushNotice at h
  split at h
  · rcases List.mem_append.1 h with h | h
    · exact .inl h
    · exact .inr (by rw [List.mem_singleton.1 h])
  · exact .inl h

theorem faultTaken_recorded (c : FaultCause) (s : State) :
    FaultTaken c s (pushNotice (faultNotice c s) (recordFault c s)) where
  start := by simp
  seq := by simp
  follow := by simp
  load := by simp
  pair := by simp
  recorder := by simp
  notices := fun n hn => by
    rcases mem_pushNotice hn with h | h
    · exact .inl (by simpa using h)
    · exact .inr ⟨_, h⟩

theorem setLatch_of_set {s : State} (h : s.stop.latch = true) : setLatch s = s := by
  simp [setLatch, h]

theorem setLatch_of_clear {s : State} (hs : s.start.strapFault = false) (h : s.stop.latch = false) :
    setLatch s = stopOwn (s.setStop { s.stop with latch := true }) := by
  simp [setLatch, hs, h]

/-- R149, R153: the cell is stopped on this cause, and the latch has not been set for it yet. -/
def drivingStop (c : FaultCause) (s : State) : State :=
  (s.setStop { s.stop with driving := true }).setLink { s.link with stop := some c }

theorem stopCell_eq (c : FaultCause) (s : State) : stopCell c s = setLatch (drivingStop c s) := rfl

theorem FaultTaken.stopped {c d : FaultCause} {s u : State} (h : FaultTaken c s u) (f : StopFault) :
    FaultTaken c s ((drivingStop d u).setStop f) :=
  ⟨h.start, h.seq, h.follow, h.load, h.pair, h.recorder, h.notices⟩

/-- R149, R150, R153: a cell-stop fault sets the latch, which the sequencer answers where it was not set; another fault
the sequencer answers at once. -/
theorem report_answered (c : FaultCause) {s : State} (hs : s.start.strapFault = false) :
    ∃ u, FaultTaken c s u
      ∧ ((report c s = u ∧ c.isCellStop = true ∧ s.stop.latch = true)
          ∨ (report c s = stopOwn u ∧ c.isCellStop = true ∧ s.stop.latch = false)
          ∨ (report c s = faultOwn u ∧ c.isCellStop = false)) := by
  have ht := faultTaken_recorded c s
  have hlatch : (drivingStop c (pushNotice (faultNotice c s) (recordFault c s))).stop.latch = s.stop.latch := by
    simp [drivingStop]
  have hstart : (drivingStop c (pushNotice (faultNotice c s) (recordFault c s))).start = s.start := by
    simp [drivingStop]
  cases hc : c.isCellStop with
  | false => exact ⟨_, ht, .inr (.inr ⟨by rw [report_eq c hs, if_neg (by simp [hc])], rfl⟩)⟩
  | true =>
    rw [report_eq c hs, if_pos hc, stopCell_eq]
    cases hl : s.stop.latch with
    | true => exact ⟨_, ht.stopped _, .inl ⟨setLatch_of_set (hlatch.trans hl), rfl, rfl⟩⟩
    | false =>
      exact ⟨_, ht.stopped _, .inr (.inl ⟨setLatch_of_clear (by rw [hstart, hs]) (hlatch.trans hl), rfl, rfl⟩)⟩

/-- R65: a report leaves a follow sequencer as it is, or in a state that moves nothing. -/
theorem report_follow (c : FaultCause) (s : State) :
    (report c s).follow = s.follow ∨ (report c s).follow.state.isFollowActive = false := by
  have hstop : ∀ u : State, (stopOwn u).follow = u.follow ∨ (stopOwn u).follow.state.isFollowActive = false := by
    intro u
    unfold stopOwn stopFollow haltFollow
    split_ifs <;> simp [SeqState.isFollowActive]
  have hfault : ∀ u : State, (faultOwn u).follow = u.follow ∨ (faultOwn u).follow.state.isFollowActive = false := by
    intro u
    unfold faultOwn faultFollow haltFollow
    split_ifs <;> simp [SeqState.isFollowActive]
  cases hs : s.start.strapFault with
  | true => exact .inl (by rw [report_strapFault c hs])
  | false =>
    obtain ⟨u, hu, ⟨he, -⟩ | ⟨he, -⟩ | ⟨he, -⟩⟩ := report_answered c hs
    · exact .inl (by rw [he, hu.follow])
    · rw [he, ← hu.follow]
      exact hstop u
    · rw [he, ← hu.follow]
      exact hfault u

/-- R23, R24: a report leaves the test sequencer as it is, or halts it. -/
theorem report_state (c : FaultCause) (s : State) :
    (report c s).seq = s.seq ∨ ((report c s).seq.state = .stopped ∨ (report c s).seq.state = .faulted) := by
  have hstop : ∀ u : State, (stopOwn u).seq = u.seq ∨ TareHalted (stopOwn u) := by
    intro u
    unfold stopOwn
    split
    · simp
    · exact (stopSequencer_halted u).imp_left fun h => by rw [h.1]
  have hfault : ∀ u : State, (faultOwn u).seq = u.seq ∨ TareHalted (faultOwn u) := by
    intro u
    unfold faultOwn
    split
    · simp
    · exact (faultSequencer_halted u).imp_left fun h => by rw [h.1]
  cases hs : s.start.strapFault with
  | true => exact .inl (by rw [report_strapFault c hs])
  | false =>
    obtain ⟨u, hu, ⟨he, -⟩ | ⟨he, -⟩ | ⟨he, -⟩⟩ := report_answered c hs
    · exact .inl (by rw [he, hu.seq])
    · rw [he, ← hu.seq]
      exact (hstop u).imp_right And.left
    · rw [he, ← hu.seq]
      exact (hfault u).imp_right And.left

/-! ## What the reports of a sample leave -/

/-- R150, R152, R153: what is set in the stop and fault unit stays set, and a locked record stays as it is. -/
def StopGrows (s t : State) : Prop :=
  (∀ k, s.stop.record = some k → t.stop.record = some k) ∧ (s.stop.latch = true → t.stop.latch = true)
    ∧ (s.stop.driving = true → t.stop.driving = true)

theorem StopGrows.of_eq {s t : State} (h : t.stop = s.stop) : StopGrows s t := by
  unfold StopGrows
  rw [h]
  exact ⟨fun _ => id, id, id⟩

theorem report_stopGrows (c : FaultCause) (s : State) : StopGrows s (report c s) := by
  cases hs : s.start.strapFault with
  | true => exact .of_eq (by rw [report_strapFault c hs])
  | false =>
    obtain ⟨hrec, -⟩ := report_record c s hs
    refine ⟨fun k hk => by simp [hrec, hk], fun h => ?_, fun h => ?_⟩
    · unfold report
      rw [if_neg (by simp [hs])]
      dsimp only
      split
      · exact setLatch_sets _ (by simpa using hs)
      · simpa using h
    · unfold report
      rw [if_neg (by simp [hs])]
      dsimp only
      split <;> simp [stopCell, h]

theorem enterAttaching_stop_of_free {s : State} (h : s.ext.state ≠ .jammed) : (enterAttaching s).stop = s.stop := by
  unfold enterAttaching
  split
  · simp
  · simp
  · exact absurd ‹_› h
  · simp

/-- R83, R94: the judgment reports at most one fault, TARE_UNSTABLE or a jammed arm. -/
theorem tareJudged_stop (s : State) :
    (tareJudged s).stop = s.stop
      ∨ ∃ c u, u.stop = s.stop ∧ u.start = s.start ∧ (tareJudged s).stop = (report c u).stop := by
  cases ht : s.load.tare with
  | none => exact .inl (by simp [tareJudged, ht])
  | some a =>
    by_cases hd : (s.seq.state == .taring && a.loads.length = tareSamples) = true
    · have hj : (tareJudged s).stop = (judgeTare a s).stop := by simp [tareJudged, ht, hd]
      rw [hj]
      unfold judgeTare
      split_ifs
      · by_cases hp : s.extPlan = none
        · exact .inl (by simp [tareSucceeded_claims _ hp])
        · rw [tareSucceeded_attaches _ hp]
          by_cases hjam : (tareTaken (tareMean a.loads) s).ext.state = .jammed
          · exact .inr ⟨_, gotoState .attaching (tareTaken (tareMean a.loads) s), by simp, by simp,
              by rw [enterAttaching_jammed hjam]⟩
          · exact .inl (by rw [enterAttaching_stop_of_free hjam]; simp)
      · exact .inl rfl
      · exact .inr ⟨_, s, rfl, rfl, rfl⟩
    · exact .inl (by simp only [tareJudged, ht, if_neg hd])

theorem tareJudged_stopGrows (s : State) : StopGrows s (tareJudged s) := by
  rcases tareJudged_stop s with h | ⟨c, u, hu, -, h⟩
  · exact .of_eq h
  · have hg := report_stopGrows c u
    unfold StopGrows at hg ⊢
    rwa [h, ← hu]

theorem ReportStep.stopGrows {s t : State} (h : ReportStep s t) : StopGrows s t := by
  cases h with
  | reported c => exact report_stopGrows c s
  | judged => exact tareJudged_stopGrows s
  | measured => exact .of_eq (by simp)
  | entered => exact .of_eq (by simp)
  | remembered => exact .of_eq (by simp)
  | drawn n => exact .of_eq rfl
  | regulated q r => exact .of_eq (by simp)

theorem ReportStep.start {s t : State} (h : ReportStep s t) : t.start = s.start := by
  cases h <;> simp

theorem ReportRun.start {s t : State} (h : ReportRun s t) : t.start = s.start :=
  h.keeps (P := fun u => u.start = s.start) (fun hst hs => hst.start.trans hs) rfl

theorem ReportRun.stopGrows {s t : State} (h : ReportRun s t) : StopGrows s t := by
  induction h with
  | refl => exact .of_eq rfl
  | tail _ hst ih =>
    obtain ⟨hr, hl, hd⟩ := ih
    obtain ⟨hr', hl', hd'⟩ := hst.stopGrows
    exact ⟨fun k hk => hr' k (hr k hk), fun h => hl' (hl h), fun h => hd' (hd h)⟩

/-- R149, R151, R153: what a cell-stop fault sets beside the record. -/
theorem report_stops {c : FaultCause} {s : State} (hs : s.start.strapFault = false) (hc : c.isCellStop = true) :
    (report c s).stop.latch = true ∧ (report c s).stop.driving = true ∧ (report c s).link.stop = some c := by
  unfold report
  rw [if_neg (by simp [hs])]
  dsimp only
  rw [if_pos hc]
  exact ⟨setLatch_sets _ (by simpa using hs), by simp [stopCell], by simp [stopCell]⟩

theorem isCellStop_of_code {c : FaultCause} (h : c.code < 16) : c.isCellStop = true := by
  cases c <;> simp_all [FaultCause.code, FaultCause.isCellStop]

theorem ReportedWithin.recorded {c : FaultCause} {s t : State} (h : ReportedWithin c s t)
    (hs : s.start.strapFault = false) : t.stop.record.isSome = true := by
  obtain ⟨m, hm, ht⟩ := h
  obtain ⟨hr, -⟩ := report_record c m (by rw [hm.start, hs])
  simp [ht.stopGrows.1 _ hr]

theorem ReportedWithin.stopped {c : FaultCause} {s t : State} (h : ReportedWithin c s t)
    (hs : s.start.strapFault = false) (hc : c.isCellStop = true) :
    t.stop.latch = true ∧ t.stop.driving = true := by
  obtain ⟨m, hm, ht⟩ := h
  obtain ⟨hl, hd, -⟩ := report_stops (s := m) (by rw [hm.start, hs]) hc
  obtain ⟨-, hl', hd'⟩ := ht.stopGrows
  exact ⟨hl' hl, hd' hd⟩

theorem forced_of_recorded {s : State} (h : s.stop.record.isSome = true) : forced s = true := by
  simp [forced, StopFault.locked, h]

/-- R45: a fault reported before the regulator acts forces the port to zero. -/
theorem moveSample_applied_of_recorded {checked overload : Bool} {r : SampleRec} {s : State}
    (h : (reportedEarly checked overload r s).stop.record.isSome = true) :
    (moveSample checked overload r s).travel.applied = 0 := by
  rw [moveSample_eq, (reportAll_keeps _ _ _).2.2.2.1, regulateSample_forced _ _ (forced_of_recorded h)]
end Sys2Proof.Proofs
end

section
namespace Sys2Proof.Proofs
open Sys2Proof.Machine Sys2Proof.Safety Sys2Proof.Laws

/-! ## The zone in force -/

theorem covers_iff (z : Zone) (pos : Int) : z.covers pos = true ↔ Covers z pos := by
  simp [Zone.covers, Covers, and_assoc]

theorem zoneInForce_some_iff (zs : List Zone) (pos : Int) (z : Zone) :
    zoneInForce zs pos = some z ↔ ∃ i : Nat, zs[i]? = some z ∧ Covers z pos
      ∧ ∀ (j : Nat) (y : Zone), j < i → zs[j]? = some y → ¬Covers y pos := by
  unfold zoneInForce
  rw [List.find?_eq_some_iff_getElem]
  constructor
  · rintro ⟨hz, i, hi, rfl, hno⟩
    refine ⟨i, List.getElem?_eq_getElem hi, (covers_iff _ _).1 hz, fun j y hj hy hc => ?_⟩
    obtain ⟨hlt, rfl⟩ := List.getElem?_eq_some_iff.1 hy
    simpa [(covers_iff _ _).2 hc] using hno j hj
  · rintro ⟨i, hi, hz, hno⟩
    obtain ⟨hlt, rfl⟩ := List.getElem?_eq_some_iff.1 hi
    refine ⟨(covers_iff _ _).2 hz, i, hlt, rfl, fun j hj => ?_⟩
    have := hno j _ hj (List.getElem?_eq_getElem (hj.trans hlt))
    simpa [← covers_iff] using this

theorem zoneInForce_none_iff (zs : List Zone) (pos : Int) : zoneInForce zs pos = none ↔ ∀ z ∈ zs, ¬Covers z pos := by
  simp [zoneInForce, List.find?_eq_none, covers_iff]

/-! ## The faults of the travel map and of the skew -/

theorem zoneFault_of_zone {q : Request} {r : SampleRec} {s : State} {z : Zone}
    (h : zoneInForce s.zones r.position = some z) :
    zoneFault s q r
      = if (s.moveKind = .test ∧ z.permitsTest = false) ∨ (s.moveKind = .ret ∧ z.permitsReturn = false) then
          some .zoneForbidden else none := by
  unfold zoneFault
  rw [h]
  cases hk : s.moveKind with
  | none => simp [Zone.permits]
  | test => cases hz : z.permitsTest <;> simp [Zone.permits, hz]
  | ret => cases hz : z.permitsReturn <;> simp [Zone.permits, hz]

theorem movesUnmapped_iff (q : Request) (r : SampleRec) (s : State) :
    movesUnmapped s q r = true ↔ requestedValue s q r ≠ 0 ∨ s.travel.appliedAtTick ≠ 0
      ∨ (s.isFollow = true ∧ s.follow.state = .following)
      ∨ (s.isFollow = false ∧ (s.seq.state = .running ∨ s.seq.state = .returning)) := by
  cases hf : s.isFollow <;> simp [movesUnmapped, hf, or_assoc]

theorem zoneFault_unmapped {q : Request} {r : SampleRec} {s : State} (h : zoneInForce s.zones r.position = none) :
    zoneFault s q r = if movesUnmapped s q r then some .travelUnmapped else none := by
  simp [zoneFault, h]

theorem zoneForbids_iff (s : State) (pos : Int) :
    zoneForbids s pos = true ↔ ∃ z, zoneInForce s.zones pos = some z ∧ z.permits s.moveKind = false := by
  unfold zoneForbids
  cases zoneInForce s.zones pos <;> simp

theorem paired_iff (s : State) : s.paired = true ↔ s.start.strapFault = false ∧ s.start.role ≠ .solo := by
  simp [State.paired]

theorem skewFires_iff (s : State) :
    skewFires s = true ↔ s.start.strapFault = false ∧ s.start.role ≠ .solo ∧ s.pair.skewKnown = true
      ∧ s.moveKind ≠ .none ∧ s.skewLimit < s.pair.skew.natAbs ∧ s.pair.overLimit = false := by
  simp [skewFires, skewChecked, skewBeyond, paired_iff, and_assoc]

theorem mem_skewFault (c : FaultCause) (s : State) : c ∈ skewFault s ↔ c = .skewLimit ∧ skewFires s = true := by
  unfold skewFault
  split <;> simp_all

theorem mem_movementFaults (c : FaultCause) (s : State) (q : Request) (r : SampleRec) :
    c ∈ movementFaults s q r ↔ (c = .skewLimit ∧ skewFires s = true) ∨ zoneFault s q r = some c := by
  simp [movementFaults, mem_skewFault]

theorem mem_laterFaults (checked : Bool) (c : FaultCause) (s : State) (q : Request) (r : SampleRec) :
    c ∈ laterFaults checked s q r ↔ (checked = false ∧ partnerCause s = some c) ∨ c ∈ movementFaults s q r := by
  cases checked <;> simp [laterFaults]

theorem mem_sampleFaults (checked overload : Bool) (c : FaultCause) (s : State) (q : Request) (r : SampleRec) :
    c ∈ sampleFaults checked overload s q r ↔ c ∈ laterFaults checked s q r
      ∨ (dueCause s = some c ∧ (overload = true ∨ laterFaults checked s q r ≠ [])) := by
  unfold sampleFaults
  split
  · rename_i h
    have h' : overload = true ∨ laterFaults checked s q r ≠ [] := by simpa using h
    simp [h', or_comm]
  · rename_i h
    obtain ⟨ho, hl⟩ : overload = false ∧ laterFaults checked s q r = [] := by simpa using h
    simp [ho, hl]

theorem dueCause_hold {s : State}
    (h : (s.seq.state = .held ∧ s.seq.due = some .hold) ∨ (s.seq.state = .ending ∧ s.seq.due = some .ending)) :
    dueCause s = some .holdTimeout := by
  rcases h with ⟨h1, h2⟩ | ⟨h1, h2⟩ <;> simp [dueCause, h1, h2]

theorem dueCause_budget {s : State} (h : s.seq.state = .claiming ∨ s.seq.state = .returning)
    (hd : s.seq.due = some .budget) : dueCause s = some .budgetTimeout := by
  rcases h with h | h <;> simp [dueCause, h, hd]

theorem dueCause_cases (s : State) :
    dueCause s = none ∨ dueCause s = some .holdTimeout ∨ dueCause s = some .budgetTimeout := by
  unfold dueCause
  split <;> simp

theorem partnerCause_cases (s : State) :
    partnerCause s = none ∨ partnerCause s = some .partnerFault ∨ partnerCause s = some .partnerRestarted := by
  unfold partnerCause
  split_ifs <;> simp

theorem zoneFault_cases (s : State) (q : Request) (r : SampleRec) :
    zoneFault s q r = none ∨ zoneFault s q r = some .zoneForbidden ∨ zoneFault s q r = some .travelUnmapped := by
  unfold zoneFault
  split <;> split_ifs <;> simp

/-- R154: OVERLOAD and the judgment of a tare come beside the faults that the sample itself gives. -/
theorem sampleFaults_excludes {checked overload : Bool} {c : FaultCause} {s : State} {q : Request} {r : SampleRec}
    (h : c ∈ sampleFaults checked overload s q r) : c ≠ .overload ∧ c ≠ .tareUnstable := by
  rcases (mem_sampleFaults _ _ _ _ _ _).1 h with hl | ⟨hd, -⟩
  · rcases (mem_laterFaults _ _ _ _ _).1 hl with ⟨-, hp⟩ | hm
    · rcases partnerCause_cases s with h0 | h0 | h0 <;> rw [h0] at hp <;> simp at hp <;> subst hp <;> simp
    · rcases (mem_movementFaults _ _ _ _).1 hm with ⟨rfl, -⟩ | hz
      · simp
      · rcases zoneFault_cases s q r with h0 | h0 | h0 <;> rw [h0] at hz <;> simp at hz <;> subst hz <;> simp
  · rcases dueCause_cases s with h0 | h0 | h0 <;> rw [h0] at hd <;> simp at hd <;> subst hd <;> simp

/-! ## The order of the reports -/

theorem mem_sampleReports {checked overload : Bool} {c : FaultCause} {s : State} {q : Request} {r : SampleRec}
    (h : c ∈ sampleFaults checked overload s q r ∨ (overload = true ∧ c = .overload)) :
    c ∈ (sampleReports checked overload s q r).1 := by
  rw [(sampleReports_perm checked overload s q r).mem_iff]
  rcases h with h | ⟨rfl, rfl⟩
  · simp [h]
  · simp [overloadFault]

/-- R84: the judgment takes a place among the other reports, whose order it leaves. -/
theorem drawPlace_splits (c : FaultCause) (ds : List FaultCause) (s : State) :
    ∃ l l', ds = l ++ l' ∧ (drawPlace c ds s).1 = l ++ c :: l' := by
  induction ds generalizing s with
  | nil => exact ⟨[], [], rfl, rfl⟩
  | cons d ds ih =>
    unfold drawPlace
    split
    · exact ⟨[], d :: ds, rfl, rfl⟩
    · obtain ⟨l, l', hd, he⟩ := ih s.draw.2
      exact ⟨d :: l, l', by rw [hd]; rfl, by rw [he]; rfl⟩

/-- R85: the faults of the sample and the judgment that comes before OVERLOAD, then OVERLOAD and the judgment that
comes after it. -/
theorem sampleReports_splits (checked overload : Bool) (s : State) (q : Request) (r : SampleRec) :
    ∃ l l', (sampleReports checked overload s q r).1 = l ++ l'
      ∧ (∀ c ∈ sampleFaults checked overload s q r, c ∈ l) ∧ (∀ c ∈ l, c ≠ .overload)
      ∧ (l' = overloadFault overload ∨ (overload = true ∧ l' = [.overload, .tareUnstable])) := by
  have hmem : ∀ c, c ∈ (drawOrder (sampleFaults checked overload s q r) s).1
      ↔ c ∈ sampleFaults checked overload s q r :=
    fun c => (drawOrder_perm _ s).mem_iff
  have hno : ∀ c ∈ (drawOrder (sampleFaults checked overload s q r) s).1, c ≠ .overload :=
    fun c hc => (sampleFaults_excludes ((hmem c).1 hc)).1
  dsimp only [sampleReports]
  split
  · obtain ⟨l, l', hl, he⟩ := drawPlace_splits .tareUnstable
      ((drawOrder (sampleFaults checked overload s q r) s).1 ++ overloadFault overload)
      (drawOrder (sampleFaults checked overload s q r) s).2
    rw [he]
    rcases List.append_eq_append_iff.1 hl with ⟨a, rfl, ha⟩ | ⟨a, ha, rfl⟩
    · cases a with
      | nil =>
        refine ⟨(drawOrder (sampleFaults checked overload s q r) s).1 ++ [.tareUnstable], l', by simp,
          fun c hc => List.mem_append_left _ ((hmem c).2 hc), fun c hc => ?_, .inl ha.symm⟩
        rcases List.mem_append.1 hc with hc | hc
        · exact hno c (by simpa using hc)
        · simp [List.mem_singleton.1 hc]
      | cons d ds =>
        obtain ⟨ho, rfl, rfl, rfl⟩ : overload = true ∧ d = .overload ∧ ds = [] ∧ l' = [] := by
          cases overload <;> simp_all [overloadFault]
        exact ⟨_, [.overload, .tareUnstable], by simp, fun c hc => (hmem c).2 hc, hno, .inr ⟨ho, rfl⟩⟩
    · refine ⟨l ++ .tareUnstable :: a, overloadFault overload, by simp, fun c hc => ?_, fun c hc => ?_, .inl rfl⟩
      · have := (hmem c).2 hc
        rw [ha] at this
        simp only [List.mem_append, List.mem_cons] at this ⊢
        exact this.imp_right .inr
      · rw [ha] at hno
        simp only [List.mem_append, List.mem_cons] at hc hno
        rcases hc with hc | rfl | hc
        · exact hno c (.inl hc)
        · simp
        · exact hno c (.inr hc)
  · exact ⟨_, _, rfl, fun c hc => (hmem c).2 hc, hno, .inl rfl⟩

/-- R85, R154: the faults of the sample are reported before the regulator acts, and after it OVERLOAD, with at most the
judgment of the tare behind it. -/
theorem reports_halves (checked overload : Bool) (r : SampleRec) (s : State) :
    (∀ c ∈ sampleFaults checked overload s (demandRequest s) r, c ∈ earlyReports checked overload r s)
      ∧ (lateReports checked overload r s = overloadFault overload
          ∨ (overload = true ∧ lateReports checked overload r s = [.overload, .tareUnstable])) := by
  obtain ⟨l, l', he, hmem, hno, hl'⟩ := sampleReports_splits checked overload s (demandRequest s) r
  have hpos : ∀ c ∈ l, (decide (c ≠ FaultCause.overload)) = true := fun c hc => by simpa using hno c hc
  have htake : earlyReports checked overload r s = l ++ l'.takeWhile (· ≠ .overload) := by
    rw [earlyReports, he, List.takeWhile_append_of_pos hpos]
  have hdrop : lateReports checked overload r s = l'.dropWhile (· ≠ .overload) := by
    rw [lateReports, he, List.dropWhile_append_of_pos hpos]
  refine ⟨fun c hc => by simp [htake, hmem c hc], ?_⟩
  rw [hdrop]
  rcases hl' with rfl | ⟨ho, rfl⟩
  · left
    cases overload <;> simp [overloadFault]
  · exact .inr ⟨ho, by simp⟩

/-- R154: what the faults of a sample are sure to do, whatever is reported with them. -/
theorem moveSample_reports {checked overload : Bool} {c : FaultCause} {r : SampleRec} {s : State}
    (hs : s.start.strapFault = false)
    (hc : c ∈ sampleFaults checked overload s (demandRequest s) r ∨ (overload = true ∧ c = .overload)) :
    (moveSample checked overload r s).stop.record.isSome = true
      ∧ (c.code < 16 → (moveSample checked overload r s).stop.latch = true
          ∧ (moveSample checked overload r s).stop.driving = true) := by
  have hne : c ≠ .tareUnstable := by
    rcases hc with hc | ⟨-, rfl⟩
    · exact (sampleFaults_excludes hc).2
    · simp
  have hrep := reportedWithin_moveSample (mem_sampleReports hc) hne
  exact ⟨hrep.recorded hs, fun hcode => hrep.stopped hs (isCellStop_of_code hcode)⟩

/-- R45, R154: a fault of the sample forces the port to zero. -/
theorem moveSample_faults_applied {checked overload : Bool} {r : SampleRec} {s : State}
    (hs : s.start.strapFault = false) (h : sampleFaults checked overload s (demandRequest s) r ≠ []) :
    (moveSample checked overload r s).travel.applied = 0 := by
  obtain ⟨c, hc⟩ := List.exists_mem_of_ne_nil _ h
  exact moveSample_applied_of_recorded ((reportedWithin_reportedEarly
    ((reports_halves checked overload r s).1 c hc) (sampleFaults_excludes hc).2).recorded hs)
end Sys2Proof.Proofs
end

section
namespace Sys2Proof.Proofs
open Sys2Proof.Machine Sys2Proof.Safety Sys2Proof.Laws

/-! ## The count of the reports -/

/-- R152, R154: these causes have been reported since the record was unlocked, the first of them the one that locked
it. -/
def Tally (cs : List FaultCause) (s : State) : Prop :=
  match cs with
  | [] => s.stop.record = none
  | c :: ds => s.stop.further = min 255 ds.length ∧ ∃ k, s.stop.record = some k ∧ k.cause = c

theorem Tally.of_stop {cs : List FaultCause} {s t : State} (h : t.stop = s.stop) (hs : Tally cs s) : Tally cs t := by
  cases cs <;> simpa only [Tally, h] using hs

theorem Tally.report {cs : List FaultCause} {s : State} (c : FaultCause) (hs : s.start.strapFault = false)
    (h : Tally cs s) : Tally (cs ++ [c]) (Machine.report c s) := by
  obtain ⟨hrec, hfur⟩ := report_record c s hs
  cases cs with
  | nil =>
    have hn : s.stop.record = none := h
    exact ⟨by simp [hfur, hn], _, hrec, by simp [hn, State.lockedPart]⟩
  | cons d ds =>
    obtain ⟨hcount, k, hk, hcause⟩ := h
    refine ⟨?_, k, by simp [hrec, hk], hcause⟩
    have hlen : (ds ++ [c]).length = ds.length + 1 := by simp
    show _ = min 255 (ds ++ [c]).length
    simp only [hfur, hk, hcount, Option.isSome_some, if_true, succ255, hlen]
    omega

theorem Tally.foldl {cs : List FaultCause} {s : State} (ds : List FaultCause) (hs : s.start.strapFault = false)
    (h : Tally cs s) : Tally (cs ++ ds) (ds.foldl (fun t c => Machine.report c t) s) := by
  induction ds generalizing cs s with
  | nil => simpa using h
  | cons d ds ih =>
    have := ih (cs := cs ++ [d]) (s := Machine.report d s) (by simpa) (h.report d hs)
    simpa using this

/-- R152, R154: what the tally says of the record of a sample whose reports are these. -/
theorem Tally.of_perm {cs : List FaultCause} {c : FaultCause} {ds : List FaultCause} {s : State} (h : Tally cs s)
    (hp : cs.Perm (c :: ds)) :
    s.stop.further = min 255 ds.length ∧ ∃ k, s.stop.record = some k ∧ k.cause ∈ c :: ds := by
  cases cs with
  | nil => simp at hp
  | cons d es =>
    obtain ⟨hf, k, hk, rfl⟩ := h
    have hl : es.length = ds.length := by simpa using hp.length_eq
    exact ⟨by rw [hf, hl], k, hk, hp.mem_iff.1 List.mem_cons_self⟩

/-! ## The faults of the claim that a sample leads to -/

theorem skewFault_eq_nil (s : State) : skewFault s = [] ↔ skewFires s = false := by
  simp [skewFault]

theorem claimFaults_eq_nil (s : State) :
    claimFaults s = [] ↔ skewFires s = false ∧ zoneForbids s s.lastPosition = false := by
  simp [claimFaults, skewFault_eq_nil]

theorem zoneForbids_congr {s t : State} (hstart : t.start = s.start) (hlast : t.load.last = s.load.last)
    (hkind : t.moveKind = s.moveKind) : zoneForbids t t.lastPosition = zoneForbids s s.lastPosition := by
  have hzones : t.zones = s.zones := by unfold State.zones; rw [hstart]
  have hpos : t.lastPosition = s.lastPosition := by unfold State.lastPosition; rw [hlast]
  unfold zoneForbids
  rw [hzones, hpos, hkind]

theorem skewBeyond_congr {s t : State} (hstart : t.start = s.start) (hskew : t.pair.skew = s.pair.skew) :
    skewBeyond t = skewBeyond s := by
  have hlimit : t.skewLimit = s.skewLimit := by unfold State.skewLimit; rw [hstart]
  rw [skewBeyond, skewBeyond, hlimit, hskew]

theorem skewFires_congr {s t : State} (hstart : t.start = s.start) (hpair : t.pair = s.pair)
    (hkind : t.moveKind = s.moveKind) : skewFires t = skewFires s := by
  simp only [skewFires, skewBeyond_congr hstart (congrArg Pair.skew hpair), skewChecked, State.paired, hstart, hpair,
    hkind]

/-- R35, R60: the check of the claim reads the configuration, the skew, the latest sample and the movement kind. -/
theorem claimFaults_congr {s t : State} (hstart : t.start = s.start) (hpair : t.pair = s.pair)
    (hlast : t.load.last = s.load.last) (hkind : t.moveKind = s.moveKind) : claimFaults t = claimFaults s := by
  rw [claimFaults, claimFaults, skewFault, skewFault, skewFires_congr hstart hpair hkind,
    zoneForbids_congr hstart hlast hkind]

/-- R60: a check that has run with this skew fires no more. -/
theorem skewFires_of_remembered {s : State} (h : s.pair.overLimit = skewBeyond s) : skewFires s = false := by
  simp [skewFires, h]

theorem claimFaults_of_unmoved {s : State} (h : s.moveKind = .none) : claimFaults s = [] := by
  rw [claimFaults_eq_nil]
  refine ⟨by simp [skewFires, skewChecked, h], Bool.eq_false_iff.2 fun hz => ?_⟩
  obtain ⟨z, -, hp⟩ := (zoneForbids_iff _ _).1 hz
  simp [h, Zone.permits] at hp

theorem moveKind_of_claiming {s : State} (h : s.isFollow = false) (hq : s.seq.state = .claiming) :
    s.moveKind = .test := by
  rw [(moveKind_of_test h).1, hq]
  decide

/-- R60: on a sample without movement kind the skew limit check does not run. -/
theorem rememberSkew_of_unmoved {s : State} (h : s.moveKind = .none) : rememberSkew s = s := by
  simp [rememberSkew, skewChecked, h]

theorem moveKind_congr {s t : State} (hstart : t.start = s.start) (hfollow : t.follow = s.follow)
    (hmirror : t.pair.mirror = s.pair.mirror) (hstate : t.seq.state = s.seq.state) : t.moveKind = s.moveKind := by
  unfold State.moveKind State.isFollow
  rw [hstart, hfollow, hmirror, hstate]

/-- R35, R60: an ATTACHING sequencer would enter CLAIMING without a fault. -/
def ClaimClean (s : State) : Prop := s.seq.state = .attaching → claimFaults (enterClaiming s) = []

theorem claimClean_of_same {s t : State} (hstart : t.start = s.start) (hpair : t.pair = s.pair)
    (hlast : t.load.last = s.load.last) (hfollow : t.follow = s.follow) (hstate : t.seq.state = s.seq.state)
    (h : ClaimClean s) : ClaimClean t := by
  intro ht
  rw [claimFaults_congr (s := enterClaiming s) (by simpa) (by simpa) (by simpa)
    (moveKind_congr (by simpa) (by simpa) (by simp [hpair]) (by simp [enterClaiming]))]
  exact h (hstate ▸ ht)

theorem claimFaults_enterClaiming (s : State) :
    claimFaults (enterClaiming s) = claimFaults (s.setSeq { s.seq with state := .claiming }) :=
  claimFaults_congr (by simp) (by simp) (by simp)
    (moveKind_congr (by simp) (by simp) (by simp) (by simp [enterClaiming]))

theorem claimClean_of_entry {s : State} (he : entryFaults s = []) (hd : settlingDue s = true) : ClaimClean s := by
  intro hq
  have hdue : claimDue s = true := by simp [claimDue, hq, hd]
  rw [claimFaults_enterClaiming]
  simpa only [entryFaults, hdue, if_true] using he

theorem ClaimClean.report {s : State} (c : FaultCause) (h : ClaimClean s) : ClaimClean (Machine.report c s) := by
  intro hq
  have hseq : (Machine.report c s).seq = s.seq := by
    rcases report_state c s with hsame | hhalt
    · exact hsame
    · simp [hq] at hhalt
  cases hf : s.isFollow with
  | true =>
    have hf' : (enterClaiming (Machine.report c s)).isFollow = true := by simpa [State.isFollow] using hf
    rcases report_follow c s with hsame | hidle
    · exact claimClean_of_same (by simp) (by simp) (by simp) hsame (by rw [hseq]) h hq
    · exact claimFaults_of_unmoved (by simp [State.moveKind, hf', hidle])
  | false =>
    have hf' : (enterClaiming s).isFollow = false := by simpa [State.isFollow] using hf
    have hf'' : (enterClaiming (Machine.report c s)).isFollow = false := by simpa [State.isFollow] using hf
    rw [claimFaults_congr (s := enterClaiming s) (by simp) (by simp) (by simp)
      ((moveKind_of_claiming hf'' (by simp [enterClaiming])).trans
        (moveKind_of_claiming hf' (by simp [enterClaiming])).symm)]
    exact h (hseq ▸ hq)

theorem ClaimClean.rememberSkew {s : State} (h : ClaimClean s) : ClaimClean (Machine.rememberSkew s) := by
  intro hq
  by_cases hc : skewChecked s = true
  · obtain ⟨-, hzone⟩ := (claimFaults_eq_nil _).1 (h (by simpa using hq))
    have hset : Machine.rememberSkew s = s.setPair { s.pair with overLimit := skewBeyond s } := if_pos hc
    have hkind : (enterClaiming (Machine.rememberSkew s)).moveKind = (enterClaiming s).moveKind :=
      moveKind_congr (by simp) (by simp) (by simp [hset]) (by simp [enterClaiming])
    refine (claimFaults_eq_nil _).2 ⟨skewFires_of_remembered ?_, ?_⟩
    · rw [skewBeyond_congr (s := s) (by simp) (by simp [hset])]
      simp [hset]
    · rw [zoneForbids_congr (s := enterClaiming s) (by simp) (by simp) hkind, hzone]
  · have hsame : Machine.rememberSkew s = s := if_neg hc
    rw [hsame] at hq ⊢
    exact h hq

theorem reportFound_nil (s : State) : reportFound [] s = s := rfl

/-- R99: the report of MEASURING that leads to a claim without faults reports none. -/
theorem claimChecked_measured_stop {s : State} (h : ClaimClean s) :
    (claimChecked reportMeasuring s).stop = s.stop := by
  unfold claimChecked
  dsimp only
  split
  · rename_i hq
    obtain ⟨hnot, hclaims⟩ : s.seq.state ≠ .claiming ∧ (reportMeasuring s).seq.state = .claiming := by simpa using hq
    have hatt : s.seq.state = .attaching := by
      by_contra hne
      rw [reportMeasuring_idle hne] at hclaims
      exact hnot hclaims
    have he : reportMeasuring s = enterClaiming s := by simp [reportMeasuring, hatt]
    rw [he, h hatt, reportFound_nil]
    simp
  · simp

/-! ## The count where no tare is judged -/

theorem reportAll_of_faults {failed : Bool} {cs : List FaultCause} {s : State} (h : ∀ c ∈ cs, c ≠ .tareUnstable) :
    reportAll failed cs s = cs.foldl (fun t c => report c t) s := by
  induction cs generalizing s with
  | nil => rfl
  | cons c cs ih =>
    rw [reportAll_cons, takeReport_of_fault failed s (h c List.mem_cons_self)]
    exact ih fun d hd => h d (List.mem_cons_of_mem _ hd)

theorem ClaimClean.foldl {s : State} (cs : List FaultCause) (h : ClaimClean s) :
    ClaimClean (cs.foldl (fun t c => Machine.report c t) s) := by
  induction cs generalizing s with
  | nil => exact h
  | cons c cs ih => exact ih (h.report c)

theorem Tally.reportAll {failed : Bool} {cs ds : List FaultCause} {s : State} (hs : s.start.strapFault = false)
    (hd : ∀ c ∈ ds, c ≠ .tareUnstable) (h : Tally cs s) : Tally (cs ++ ds) (Machine.reportAll failed ds s) := by
  rw [reportAll_of_faults hd]
  exact h.foldl ds hs

/-- R99, R154: a claim without faults leaves the count of the reports of the sample alone. -/
theorem Tally.reportEarly {failed faulty : Bool} {cs : List FaultCause} {s : State} (hs : s.start.strapFault = false)
    (hd : ∀ c ∈ cs, c ≠ .tareUnstable) (hclean : settlingDue s = true → ClaimClean s) (h : Tally [] s) :
    Tally cs (Machine.reportEarly failed faulty cs s) := by
  unfold Machine.reportEarly
  split
  · rename_i hq
    have hc : ClaimClean (enterMeasuring s) :=
      claimClean_of_same (by simp) (by simp) (by simp) (by simp) (by simp) (hclean (by simp_all))
    have hdraw : ClaimClean (enterMeasuring s).draw.2 :=
      claimClean_of_same (by simp [State.draw]) (by simp [State.draw]) (by simp [State.draw]) (by simp [State.draw])
        (by simp [State.draw]) hc
    unfold reportSettled
    split_ifs with hempty
    · rw [List.isEmpty_iff.1 hempty]
      exact h.of_stop (by rw [claimChecked_measured_stop hc]; simp)
    · refine Tally.reportAll (cs := []) (by simpa [State.draw] using hs) hd (h.of_stop ?_)
      rw [claimChecked_measured_stop hdraw]
      simp [State.draw]
    · have ht : Tally ([] ++ cs) (Machine.reportAll failed cs (enterMeasuring s).draw.2) :=
        Tally.reportAll (by simpa [State.draw] using hs) hd (h.of_stop (by simp [State.draw]))
      refine ht.of_stop (claimChecked_measured_stop ?_)
      rw [reportAll_of_faults hd]
      exact hdraw.foldl cs
  · exact Tally.reportAll (cs := []) hs hd h

/-- R154: where no tare is judged and no claim faults, the sample reports its faults and OVERLOAD, each once. -/
theorem moveSample_tally {checked overload : Bool} {r : SampleRec} {s : State} (hs : s.start.strapFault = false)
    (hr : s.stop.record = none) (hj : judgmentDue s = false) (he : entryFaults s = []) :
    Tally ((drawOrder (sampleFaults checked overload s (demandRequest s) r) s).1 ++ overloadFault overload)
      (moveSample checked overload r s) := by
  have hreports : (sampleReports checked overload s (demandRequest s) r).1
      = (drawOrder (sampleFaults checked overload s (demandRequest s) r) s).1 ++ overloadFault overload := by
    simp [sampleReports, hj]
  have hno : ∀ c ∈ (sampleReports checked overload s (demandRequest s) r).1, c ≠ .tareUnstable := by
    intro c hc
    rw [hreports] at hc
    rcases List.mem_append.1 hc with hc | hc
    · exact (sampleFaults_excludes ((drawOrder_perm _ s).mem_iff.1 hc)).2
    · cases overload <;> simp_all [overloadFault]
  obtain ⟨n, hn⟩ := sampleReports_draws checked overload s (demandRequest s) r
  rw [← hreports, ← early_append_late, moveSample_eq]
  rw [← early_append_late] at hno
  have hclean : settlingDue (rememberSkew (s.setFree n)) = true → ClaimClean (rememberSkew (s.setFree n)) := fun hd =>
    ClaimClean.rememberSkew (s := s.setFree n) (claimClean_of_entry he (by simpa [settlingDue] using hd))
  have hearly : Tally (earlyReports checked overload r s) (reportedEarly checked overload r s) := by
    unfold reportedEarly
    rw [hn]
    exact Tally.reportEarly (by simpa) (fun c hc => hno c (List.mem_append_left _ hc)) hclean (by simpa [Tally])
  refine Tally.reportAll ?_ (fun c hc => hno c (List.mem_append_right _ hc)) (hearly.of_stop (by simp))
  have hstart : (reportedEarly checked overload r s).start = s.start :=
    (reportRun_reportedEarly checked overload r s).start
  simp [hstart, hs]
end Sys2Proof.Proofs
end

section
namespace Sys2Proof.Proofs
open Sys2Proof.Machine Sys2Proof.Safety Sys2Proof.Laws

/-! ## The count where the tare fails -/

/-- R83: an attempt that is full is the fourth and unstable, and no claim follows from this sample. -/
structure TareFailing (s : State) : Prop where
  reporting : s.start.strapFault = false
  fails : s.load.attemptFull = true → tareFails s = true
  notAttaching : s.seq.state ≠ .attaching

theorem loadCapacity_of_start {s t : State} (h : t.start = s.start) : t.loadCapacity = s.loadCapacity := by
  unfold State.loadCapacity
  rw [h]

theorem attemptFull_of_none {l : LoadCh} (h : l.tare = none) : l.attemptFull = false := by
  simp [LoadCh.attemptFull, h]

theorem TareFailing.of_tare {s t : State} (hstart : t.start = s.start) (htare : TareEndsOrStays s t)
    (hstate : t.seq.state ≠ .attaching) (h : TareFailing s) : TareFailing t where
  reporting := by rw [hstart, h.reporting]
  notAttaching := hstate
  fails := fun hfull => by
    rcases htare with hnone | hsame
    · simp [attemptFull_of_none hnone] at hfull
    · have hfull' : s.load.attemptFull = true := by
        unfold LoadCh.attemptFull at hfull ⊢
        rwa [hsame] at hfull
      have hfails := h.fails hfull'
      unfold tareFails at hfails ⊢
      rwa [hsame, loadCapacity_of_start hstart]

theorem report_notState (c : FaultCause) {s : State} {q : SeqState} (h : s.seq.state ≠ q) (h1 : q ≠ .stopped)
    (h2 : q ≠ .faulted) : (report c s).seq.state ≠ q := by
  rcases report_state c s with he | he | he
  · rwa [he]
  · rw [he]; exact h1.symm
  · rw [he]; exact h2.symm

theorem TareFailing.report {s : State} (c : FaultCause) (h : TareFailing s) : TareFailing (Machine.report c s) :=
  h.of_tare (by simp) (report_tare c s) (report_notState c h.notAttaching (by simp) (by simp))

theorem judgmentDue_iff (s : State) :
    judgmentDue s = true ↔ s.seq.state = .taring ∧ ∃ a, s.load.tare = some a ∧ a.loads.length = 16 := by
  unfold judgmentDue LoadCh.attemptFull
  cases s.load.tare <;> simp [tareSamples]

theorem tareFails_iff {s : State} {a : Tare} (h : s.load.tare = some a) :
    tareFails s = true ↔ 4 ≤ a.attempt ∧ tareStable s.loadCapacity a.loads = false := by
  have hd : decide (tareAttempts ≤ a.attempt) = true ↔ 4 ≤ a.attempt := decide_eq_true_iff
  simp [tareFails, h, hd]

theorem takeGripsLow_cases (s : State) :
    takeGripsLow s = s ∨ ((takeGripsLow s).seq.state = .armed ∧ (takeGripsLow s).load.tare = none) := by
  by_cases hq : s.seq.state = .taring
  · cases hw : s.seq.gripsLowWaits with
    | false => exact .inl (takeGripsLow_stays (.inr hw))
    | true =>
      rw [takeGripsLow_drops hq hw]
      obtain ⟨harmed, -, hnone⟩ := dropGrips_sets s
      exact .inr ⟨harmed, hnone⟩
  · exact .inl (takeGripsLow_stays (.inl hq))

/-- R8, R83: the judgment of a failing attempt is its report, with a low grips line that waited for it. -/
theorem tareJudged_failing {s : State} (h : TareFailing s) (hj : judgmentDue s = true) :
    tareJudged s = takeGripsLow (report .tareUnstable s) := by
  obtain ⟨hq, a, ht, hl⟩ := (judgmentDue_iff s).1 hj
  obtain ⟨hlast, hun⟩ := (tareFails_iff ht).1 (h.fails (by simp [LoadCh.attemptFull, ht, hl, tareSamples]))
  rw [tareJudged_due hq ht hl, judgeTare_fails hun hlast]

theorem TareFailing.takeGripsLow {s : State} (h : TareFailing s) : TareFailing (Machine.takeGripsLow s) := by
  rcases takeGripsLow_cases s with he | ⟨harmed, hnone⟩
  · rwa [he]
  · exact h.of_tare (by simp) (.inl hnone) (by simp [harmed])

theorem claimChecked_of_not_claiming {act : State → State} {s : State} (h : (act s).seq.state ≠ .claiming) :
    claimChecked act s = act s := by
  simp [claimChecked, h]

/-- R84: a failing tare is reported once, before or after another report has abandoned it. -/
theorem takeReport_failing {s : State} (c : FaultCause) (h : TareFailing s) :
    takeReport true s c = report c s ∨ takeReport true s c = Machine.takeGripsLow (report c s) := by
  by_cases hc : c = .tareUnstable
  · subst hc
    cases hj : judgmentDue s with
    | false => exact .inl (by simp [takeReport, hj])
    | true =>
      obtain ⟨hq, -⟩ := (judgmentDue_iff s).1 hj
      have hnot : (tareJudged s).seq.state ≠ .claiming := by
        rw [tareJudged_failing h hj]
        rcases takeGripsLow_cases (report .tareUnstable s) with he | ⟨harmed, -⟩
        · rw [he]
          exact report_notState _ (by simp [hq]) (by simp) (by simp)
        · simp [harmed]
      right
      rw [takeReport, if_pos rfl, if_pos hj, claimChecked_of_not_claiming hnot, tareJudged_failing h hj]
  · exact .inl (takeReport_of_fault true s hc)

theorem Tally.reportAll_failing {cs ds : List FaultCause} {s : State} (hf : TareFailing s) (h : Tally cs s) :
    Tally (cs ++ ds) (Machine.reportAll true ds s) ∧ TareFailing (Machine.reportAll true ds s) := by
  induction ds generalizing cs s with
  | nil =>
    rw [List.append_nil]
    exact ⟨h, hf⟩
  | cons d ds ih =>
    rw [reportAll_cons, List.append_cons]
    have hreport := h.report d hf.reporting
    rcases takeReport_failing d hf with he | he <;> rw [he]
    · exact ih (hf.report d) hreport
    · exact ih (hf.report d).takeGripsLow (hreport.of_stop (by simp))

theorem claimChecked_measured_idle {s : State} (h : s.seq.state ≠ .attaching) : claimChecked reportMeasuring s = s := by
  unfold claimChecked
  rw [reportMeasuring_idle h]
  simp

theorem Tally.reportEarly_failing {faulty : Bool} {cs : List FaultCause} {s : State} (hf : TareFailing s)
    (h : Tally [] s) :
    Tally cs (Machine.reportEarly true faulty cs s) ∧ TareFailing (Machine.reportEarly true faulty cs s) := by
  have hentered : TareFailing (enterMeasuring s) :=
    hf.of_tare (by simp) (.inr (by simp)) (by simpa using hf.notAttaching)
  have hdrawn : TareFailing (enterMeasuring s).draw.2 :=
    hentered.of_tare (by simp [State.draw]) (.inr (by simp [State.draw])) (by simpa [State.draw] using hf.notAttaching)
  have htally : Tally [] (enterMeasuring s).draw.2 := h.of_stop (by simp [State.draw])
  unfold Machine.reportEarly
  split
  · unfold reportSettled
    split_ifs with hempty
    · rw [List.isEmpty_iff.1 hempty, claimChecked_measured_idle hentered.notAttaching]
      exact ⟨h.of_stop (by simp), hentered⟩
    · rw [claimChecked_measured_idle hdrawn.notAttaching]
      exact htally.reportAll_failing hdrawn
    · obtain ⟨ht, hf'⟩ := htally.reportAll_failing (ds := cs) hdrawn
      rw [claimChecked_measured_idle hf'.notAttaching]
      exact ⟨ht, hf'⟩
  · exact h.reportAll_failing hf

/-- R84, R154: where the tare fails on the sample, its failure is counted with the faults and OVERLOAD. -/
theorem moveSample_tally_failing {checked overload : Bool} {r : SampleRec} {s : State} (hs : s.start.strapFault = false)
    (hr : s.stop.record = none) (hj : judgmentDue s = true) (hf : tareFails s = true) :
    Tally (sampleReports checked overload s (demandRequest s) r).1 (moveSample checked overload r s) := by
  obtain ⟨n, hn⟩ := sampleReports_draws checked overload s (demandRequest s) r
  have hfailing : TareFailing (rememberSkew (s.setFree n)) :=
    TareFailing.of_tare (s := s) (by simp) (.inr (by simp)) (by simp [((judgmentDue_iff s).1 hj).1])
      ⟨hs, fun _ => hf, by simp [((judgmentDue_iff s).1 hj).1]⟩
  have htally : Tally [] (rememberSkew (s.setFree n)) := by simpa [Tally]
  rw [← early_append_late, moveSample_eq, hf]
  obtain ⟨hearly, hstill⟩ : Tally (earlyReports checked overload r s) (reportedEarly checked overload r s)
      ∧ TareFailing (reportedEarly checked overload r s) := by
    unfold reportedEarly
    rw [hn, hf]
    exact htally.reportEarly_failing hfailing
  refine (Tally.reportAll_failing ?_ (hearly.of_stop (by simp))).1
  exact hstill.of_tare (by simp) (.inr (by simp)) (by simpa using hstill.notAttaching)

/-! ## The tare that a fault abandons -/

/-- R84: the tare has ended with the test. -/
theorem TareHalted.report {s : State} (c : FaultCause) (h : TareHalted s) : TareHalted (Machine.report c s) := by
  obtain ⟨hq, hnone⟩ := h
  refine ⟨?_, (report_tare c s).elim id fun he => he.trans hnone⟩
  rcases report_state c s with he | he
  · rwa [he]
  · exact he

theorem TareHalted.step {s t : State} (hst : ReportStep s t) (h : TareHalted s) : TareHalted t := by
  obtain ⟨hq, hnone⟩ := id h
  cases hst with
  | reported c => exact h.report c
  | judged => rwa [tareJudged_idle (by rcases hq with hq | hq <;> simp [hq])]
  | measured => rwa [reportMeasuring_idle (by rcases hq with hq | hq <;> simp [hq])]
  | entered => simpa [TareHalted] using h
  | remembered => simpa [TareHalted] using h
  | drawn n => exact h
  | regulated q r => simpa [TareHalted] using h

/-- R23, R24: a test sequencer that a report is sure to halt. -/
def Haltable (s : State) : Prop :=
  TestStation s ∧ (TareHalted s ∨ (s.stop.latch = false ∧ s.seq.state.isTest = true))

theorem stopOwn_halts {s : State} (hf : s.isFollow = false) (ht : s.seq.state.isTest = true) :
    TareHalted (stopOwn s) := by
  obtain ⟨hunc, hidle, hstopped, -⟩ := isTest_halts _ ht
  rw [stopOwn, if_neg (by simp [hf]), stopSequencer_halts s ⟨hunc, hidle, hstopped⟩]
  exact ⟨.inl (by simp), haltSequencer_tare _ _ _⟩

theorem faultOwn_halts {s : State} (hf : s.isFollow = false) (ht : s.seq.state.isTest = true) :
    TareHalted (faultOwn s) := by
  obtain ⟨hunc, hidle, hstopped, hfaulted, -⟩ := isTest_halts _ ht
  rw [faultOwn, if_neg (by simp [hf]), faultSequencer_halts s ⟨hunc, hidle, hstopped, hfaulted⟩]
  exact ⟨.inr (by simp), haltSequencer_tare _ _ _⟩

theorem Haltable.report {s : State} (c : FaultCause) (h : Haltable s) : TareHalted (Machine.report c s) := by
  obtain ⟨hs, hh | ⟨hl, ht⟩⟩ := h
  · exact hh.report c
  · obtain ⟨u, hu, ⟨-, -, hset⟩ | ⟨he, -⟩ | ⟨he, -⟩⟩ := report_answered c hs.1
    · simp [hl] at hset
    · rw [he]
      exact stopOwn_halts (isFollow_of_testStation (by simpa [TestStation, hu.start] using hs)) (by rwa [hu.seq])
    · rw [he]
      exact faultOwn_halts (isFollow_of_testStation (by simpa [TestStation, hu.start] using hs)) (by rwa [hu.seq])

theorem TareHalted.run {s t : State} (h : ReportRun s t) (hs : TareHalted s) : TareHalted t :=
  h.keeps (P := TareHalted) (fun hst => TareHalted.step hst) hs

theorem tareJudged_of_not_due {s : State} (h : judgmentDue s = false) : tareJudged s = s := by
  unfold tareJudged
  cases ht : s.load.tare with
  | none => rfl
  | some a =>
    refine if_neg fun hd => ?_
    obtain ⟨hq, hl⟩ : s.seq.state = .taring ∧ a.loads.length = tareSamples := by simpa using hd
    exact absurd ((judgmentDue_iff s).2 ⟨hq, a, ht, hl⟩) (by simp [h])

theorem Haltable.of_test {s t : State} (hstart : t.start = s.start) (hstop : t.stop = s.stop)
    (hs : TestStation s) (hl : s.stop.latch = false) (ht : t.seq.state.isTest = true) : Haltable t :=
  ⟨by simpa [TestStation, hstart] using hs, .inr ⟨by rw [hstop, hl], ht⟩⟩

theorem Haltable.takeGripsLow {s : State} (h : Haltable s) : Haltable (Machine.takeGripsLow s) := by
  rcases takeGripsLow_cases s with he | ⟨harmed, -⟩
  · rwa [he]
  · obtain ⟨hs, ⟨hq, -⟩ | ⟨hl, -⟩⟩ := h
    · rw [takeGripsLow_stays (.inl (by rcases hq with hq | hq <;> simp [hq]))] at harmed
      simp [harmed] at hq
    · exact .of_test (s := s) (by simp) (by simp) hs hl (by simp [harmed, SeqState.isTest])

theorem Haltable.tareSucceeded (k : Int) {s : State} (hs : TestStation s) (hl : s.stop.latch = false) :
    Haltable (Machine.tareSucceeded k s) := by
  by_cases hp : s.extPlan = none
  · rw [tareSucceeded_claims k hp]
    exact .of_test (s := s) (by simp) (by simp) hs hl (by simp [enterClaiming, SeqState.isTest])
  · rw [tareSucceeded_attaches k hp]
    by_cases hj : (tareTaken k s).ext.state = .jammed
    · rw [enterAttaching_jammed hj]
      have hat : Haltable (gotoState .attaching (tareTaken k s)) :=
        .of_test (s := s) (by simp) (by simp) hs hl (by simp [SeqState.isTest])
      exact ⟨by simpa [TestStation] using hs, .inl (hat.report _)⟩
    · refine .of_test (s := s) (by simp) (by rw [enterAttaching_stop_of_free hj]; simp) hs hl ?_
      have hq : (enterAttaching (tareTaken k s)).seq.state = .attaching := by
        unfold enterAttaching
        split <;> simp_all
      rw [hq]
      rfl

/-- R8, R83: the judgment leaves the sequencer in a test state, or its fault halts it. -/
theorem Haltable.judged {s : State} (h : Haltable s) : Haltable (tareJudged s) := by
  cases hj : judgmentDue s with
  | false => rwa [tareJudged_of_not_due hj]
  | true =>
    obtain ⟨hq, a, ht, hl⟩ := (judgmentDue_iff s).1 hj
    obtain ⟨hs, hlatch⟩ : TestStation s ∧ s.stop.latch = false := by
      obtain ⟨hs, ⟨hh, -⟩ | ⟨hlatch, -⟩⟩ := h
      · simp [hq] at hh
      · exact ⟨hs, hlatch⟩
    rw [tareJudged_due hq ht hl]
    refine Haltable.takeGripsLow ?_
    cases hst : tareStable s.loadCapacity a.loads with
    | true =>
      rw [judgeTare_succeeds hst]
      exact .tareSucceeded _ hs hlatch
    | false =>
      by_cases ha : a.attempt < 4
      · rw [judgeTare_retries hst ha]
        exact .of_test (s := s) rfl rfl hs hlatch (by rw [nextAttempt]; simp [hq, SeqState.isTest])
      · rw [judgeTare_fails hst (Nat.not_lt.1 ha)]
        exact ⟨by simpa [TestStation] using hs, .inl (h.report _)⟩

theorem Haltable.step {s t : State} (hst : ReportStep s t) (h : Haltable s) : Haltable t := by
  have hs : TestStation t := by simpa [TestStation, hst.start] using h.1
  cases hst with
  | reported c => exact ⟨hs, .inl (h.report c)⟩
  | judged => exact h.judged
  | measured =>
    obtain ⟨-, hh | ⟨hl, ht⟩⟩ := h
    · exact ⟨hs, .inl (TareHalted.step (.measured s) hh)⟩
    · refine ⟨hs, .inr ⟨by simpa using hl, ?_⟩⟩
      unfold reportMeasuring
      split
      · simp [enterClaiming, SeqState.isTest]
      · exact ht
  | entered => simpa [Haltable, TestStation, TareHalted] using h
  | remembered => simpa [Haltable, TestStation, TareHalted] using h
  | drawn n => exact h
  | regulated q r => simpa [Haltable, TestStation, TareHalted] using h

theorem ReportedWithin.halts {c : FaultCause} {s t : State} (h : ReportedWithin c s t) (hs : Haltable s) :
    TareHalted t := by
  obtain ⟨m, hm, ht⟩ := h
  exact TareHalted.run ht ((hm.keeps (P := Haltable) (fun hst => Haltable.step hst) hs).report c)
/-- R83, R84: the attempt `a` is judged at most once, and the offset is its mean or stays `k`. -/
structure TareSettles (a : Tare) (k : Int) (capacity : Nat) (s : State) : Prop where
  station : TestStation s
  spans : s.loadCapacity = capacity
  attempt : ∀ b, s.load.tare = some b → b = a ∨ b.loads = []
  offset : s.load.tareOffset = k ∨ (tareStable capacity a.loads = true ∧ s.load.tareOffset = a.loads.sum.tdiv 16)

theorem TareSettles.of_tare {a : Tare} {k : Int} {capacity : Nat} {s t : State} (h : TareSettles a k capacity s)
    (hstart : t.start = s.start) (htare : TareEndsOrStays s t) (hoff : t.load.tareOffset = s.load.tareOffset) :
    TareSettles a k capacity t where
  station := by simpa [TestStation, hstart] using h.station
  spans := by rw [loadCapacity_of_start hstart, h.spans]
  attempt := fun b hb => by
    rcases htare with hn | hs
    · simp [hn] at hb
    · exact h.attempt b (hs ▸ hb)
  offset := by rw [hoff]; exact h.offset

theorem takeGripsLow_tare (s : State) :
    TareEndsOrStays s (Machine.takeGripsLow s) ∧ (Machine.takeGripsLow s).load.tareOffset = s.load.tareOffset := by
  constructor
  · rcases takeGripsLow_cases s with he | ⟨-, hnone⟩
    · exact .inr (by rw [he])
    · exact .inl hnone
  · unfold Machine.takeGripsLow
    split <;> simp

theorem TareSettles.judged {a : Tare} {k : Int} {capacity : Nat} {s : State} (h : TareSettles a k capacity s) :
    TareSettles a k capacity (tareJudged s) := by
  cases hj : judgmentDue s with
  | false => rwa [tareJudged_of_not_due hj]
  | true =>
    obtain ⟨hq, b, ht, hl⟩ := (judgmentDue_iff s).1 hj
    obtain rfl : b = a := (h.attempt b ht).resolve_right fun h0 => by simp [h0] at hl
    rw [tareJudged_due hq ht hl]
    refine TareSettles.of_tare (s := judgeTare b s) ?_ (by simp) (takeGripsLow_tare _).1 (takeGripsLow_tare _).2
    cases hst : tareStable s.loadCapacity b.loads with
    | true =>
      rw [judgeTare_succeeds hst]
      obtain ⟨hoff, hnone, -⟩ := tareSucceeded_holds (b.loads.sum.tdiv 16) h.station
      refine ⟨by simpa [TestStation] using h.station, ?_, fun c hc => by simp [hnone] at hc, .inr ⟨h.spans ▸ hst, hoff⟩⟩
      rw [loadCapacity_of_start (s := s) (by simp), h.spans]
    | false =>
      by_cases ha : b.attempt < 4
      · rw [judgeTare_retries hst ha]
        exact ⟨h.station, h.spans, fun c hc => .inr (by
          obtain rfl : { attempt := b.attempt + 1, loads := [] } = c := Option.some.inj hc
          rfl), h.offset⟩
      · rw [judgeTare_fails hst (Nat.not_lt.1 ha)]
        exact h.of_tare (by simp) (report_tare _ _) (by simp)

theorem TareSettles.step {a : Tare} {k : Int} {capacity : Nat} {s t : State} (hst : ReportStep s t)
    (h : TareSettles a k capacity s) : TareSettles a k capacity t := by
  have hstart := hst.start
  cases hst with
  | reported c => exact h.of_tare hstart (report_tare c s) (by simp)
  | judged => exact h.judged
  | measured => exact h.of_tare hstart (.inr (by simp)) (by simp)
  | entered => exact h.of_tare hstart (.inr (by simp)) (by simp)
  | remembered => exact h.of_tare hstart (.inr (by simp)) (by simp)
  | drawn n => exact h.of_tare hstart (.inr rfl) rfl
  | regulated q r => exact h.of_tare hstart (.inr (by simp)) (by simp)

/-- R84: on a sample with another fault the tare ends with the test, whatever its judgment. -/
theorem moveSample_ends_tare {checked overload : Bool} {r : SampleRec} {s : State} {a : Tare} (hs : TestStation s)
    (hlatch : s.stop.latch = false) (hj : judgmentDue s = true) (ht : s.load.tare = some a)
    (hf : sampleFaults checked overload s (demandRequest s) r ++ overloadFault overload ≠ []) :
    (moveSample checked overload r s).load.tare = none
      ∧ ((moveSample checked overload r s).seq.state = .faulted
          ∨ (moveSample checked overload r s).seq.state = .stopped)
      ∧ ((moveSample checked overload r s).load.tareOffset = s.load.tareOffset
          ∨ (tareStable s.loadCapacity a.loads = true
            ∧ (moveSample checked overload r s).load.tareOffset = a.loads.sum.tdiv 16)) := by
  obtain ⟨c, hc⟩ := List.exists_mem_of_ne_nil _ hf
  have hc' : c ∈ sampleFaults checked overload s (demandRequest s) r ∨ (overload = true ∧ c = .overload) := by
    rcases List.mem_append.1 hc with hc | hc
    · exact .inl hc
    · exact .inr (by cases overload <;> simp_all [overloadFault])
  have hne : c ≠ .tareUnstable := by
    rcases hc' with hc | ⟨-, rfl⟩
    · exact (sampleFaults_excludes hc).2
    · simp
  have htest : s.seq.state.isTest = true := by rw [((judgmentDue_iff s).1 hj).1]; rfl
  obtain ⟨hq, hnone⟩ := (reportedWithin_moveSample (mem_sampleReports hc') hne).halts ⟨hs, .inr ⟨hlatch, htest⟩⟩
  have hsettles := (reportRun_moveSample checked overload r s).keeps
    (P := TareSettles a s.load.tareOffset s.loadCapacity) (fun hst => TareSettles.step hst)
    ⟨hs, rfl, fun b hb => .inl (Option.some.inj (hb.symm.trans ht)), .inl rfl⟩
  exact ⟨hnone, hq.symm, hsettles.offset⟩
end Sys2Proof.Proofs
end

section
namespace Sys2Proof.Proofs
open Sys2Proof.Machine Sys2Proof.Safety Sys2Proof.Laws

/-! ## Causes reported together -/

theorem reportFound_eq (cs : List FaultCause) (s : State) :
    ∃ n, reportFound cs s = (drawOrder cs s).1.foldl (fun t c => report c t) (s.setFree n) := by
  obtain ⟨n, hn⟩ := drawOrder_draws cs s
  exact ⟨n, by unfold reportFound; rw [hn]⟩

/-- R152: the record that the first of these reports locks. -/
theorem foldl_locks {c : FaultCause} {s : State} (cs : List FaultCause) (hs : s.start.strapFault = false)
    (hr : s.stop.record = none) :
    ((c :: cs).foldl (fun t c => report c t) s).stop.record = some (s.lockedPart c) := by
  obtain ⟨hrec, -⟩ := report_record c s hs
  exact (reportRun_foldl cs (report c s)).stopGrows.1 _ (by simp [hrec, hr])

/-- R152, R154: causes reported together lock the record once, in the state in which they were found. -/
theorem reportFound_locks {cs : List FaultCause} {s : State} (hs : s.start.strapFault = false) (hne : cs ≠ [])
    (hr : s.stop.record = none) :
    (reportFound cs s).stop.further = min 255 (cs.length - 1)
      ∧ ∃ k, (reportFound cs s).stop.record = some k ∧ k.cause ∈ cs ∧ k.state = s.ownState := by
  obtain ⟨n, he⟩ := reportFound_eq cs s
  have hperm := drawOrder_perm cs s
  have htally : Tally ([] ++ (drawOrder cs s).1) (reportFound cs s) := by
    rw [he]
    exact Tally.foldl _ (by simpa) (by simpa [Tally])
  cases hd : (drawOrder cs s).1 with
  | nil => exact absurd (hd ▸ hperm).nil_eq.symm hne
  | cons d ds =>
    rw [hd] at htally hperm he
    have hlen : cs.length = ds.length + 1 := hperm.length_eq.symm
    refine ⟨by rw [htally.1, hlen, Nat.add_sub_cancel], (s.setFree n).lockedPart d, ?_,
      hperm.mem_iff.1 List.mem_cons_self, rfl⟩
    rw [he]
    exact foldl_locks ds (by simpa) (by simpa)

theorem reportFound_halts {cs : List FaultCause} {s : State} (hne : cs ≠ []) (h : Haltable s) :
    TareHalted (reportFound cs s) := by
  obtain ⟨n, he⟩ := reportFound_eq cs s
  rw [he]
  cases hd : (drawOrder cs s).1 with
  | nil => exact absurd (hd ▸ drawOrder_perm cs s).nil_eq.symm hne
  | cons d ds => exact TareHalted.run (reportRun_foldl ds _) (Haltable.report (s := s.setFree n) d h)

theorem reportFound_records {cs : List FaultCause} {s : State} (hs : s.start.strapFault = false) (hne : cs ≠ []) :
    (reportFound cs s).stop.record.isSome = true := by
  cases hr : s.stop.record with
  | none =>
    obtain ⟨-, k, hk, -⟩ := reportFound_locks hs hne hr
    simp [hk]
  | some k => simp [(reportRun_reportFound cs s).stopGrows.1 k hr]

/-! ## The faults of the sample on which CLAIMING is entered -/

theorem claimDue_iff (s : State) :
    claimDue s = true ↔ (s.seq.state = .attaching ∧ s.ext.state = .settling ∧ 16 ≤ s.ext.strainCount)
      ∨ (s.seq.state = .taring ∧ s.extPlan = none ∧ ∃ a, s.load.tare = some a ∧ a.loads.length = 16
          ∧ tareStable s.loadCapacity a.loads = true) := by
  have hcount : decide (settleReadings ≤ s.ext.strainCount) = true ↔ 16 ≤ s.ext.strainCount := decide_eq_true_iff
  have hholds : judgmentDue s = true ∧ tareHolds s = true ↔ s.seq.state = .taring
      ∧ ∃ a, s.load.tare = some a ∧ a.loads.length = 16 ∧ tareStable s.loadCapacity a.loads = true := by
    rw [judgmentDue_iff]
    unfold tareHolds
    cases s.load.tare <;> simp [and_assoc]
  simp only [claimDue, settlingDue, Bool.or_eq_true, Bool.and_eq_true, beq_iff_eq, hcount,
    Option.isNone_iff_eq_none]
  refine or_congr Iff.rfl ⟨fun ⟨⟨hj, hp⟩, hh⟩ => ?_, fun ⟨hq, hp, ha⟩ => ?_⟩
  · obtain ⟨hq, ha⟩ := hholds.1 ⟨hj, hh⟩
    exact ⟨hq, hp, ha⟩
  · obtain ⟨hj, hh⟩ := hholds.2 ⟨hq, ha⟩
    exact ⟨⟨hj, hp⟩, hh⟩

theorem moveKind_setClaiming {s : State} (hs : TestStation s) :
    (s.setSeq { s.seq with state := .claiming }).moveKind = .test :=
  moveKind_of_claiming (isFollow_of_testStation hs) rfl

theorem mem_claimFaults_claiming {s : State} (c : FaultCause) (hs : TestStation s) :
    c ∈ claimFaults (s.setSeq { s.seq with state := .claiming })
      ↔ (c = .skewLimit ∧ s.start.role = .lead ∧ s.pair.skewKnown = true ∧ s.pair.overLimit = false
          ∧ s.skewLimit < s.pair.skew.natAbs)
        ∨ (c = .zoneForbidden ∧ ∃ z, zoneInForce s.zones s.lastPosition = some z ∧ z.permitsTest = false) := by
  have hkind := moveKind_setClaiming hs
  have hskew : skewFires (s.setSeq { s.seq with state := .claiming }) = true
      ↔ s.start.role = .lead ∧ s.pair.skewKnown = true ∧ s.pair.overLimit = false
          ∧ s.skewLimit < s.pair.skew.natAbs := by
    have hrole : s.start.role ≠ .solo ↔ s.start.role = .lead := by
      have := hs.2
      cases h : s.start.role <;> simp_all
    rw [skewFires_iff, hkind]
    show s.start.strapFault = false ∧ s.start.role ≠ .solo ∧ s.pair.skewKnown = true ∧ _
      ∧ s.skewLimit < s.pair.skew.natAbs ∧ s.pair.overLimit = false ↔ _
    rw [hrole]
    simp [hs.1, and_comm]
  have hzone : zoneForbids (s.setSeq { s.seq with state := .claiming })
      (s.setSeq { s.seq with state := .claiming }).lastPosition = true
        ↔ ∃ z, zoneInForce s.zones s.lastPosition = some z ∧ z.permitsTest = false := by
    rw [zoneForbids_iff, hkind]
    rfl
  rw [claimFaults, List.mem_append, mem_skewFault, hskew]
  refine or_congr Iff.rfl ?_
  rw [← hzone]
  split <;> simp_all

theorem mem_entryFaults {s : State} (c : FaultCause) (hs : TestStation s) :
    c ∈ entryFaults s ↔
      ((s.seq.state = .attaching ∧ s.ext.state = .settling ∧ 16 ≤ s.ext.strainCount)
          ∨ (s.seq.state = .taring ∧ s.extPlan = none ∧ ∃ a, s.load.tare = some a ∧ a.loads.length = 16
              ∧ tareStable s.loadCapacity a.loads = true))
        ∧ ((c = .skewLimit ∧ s.start.role = .lead ∧ s.pair.skewKnown = true ∧ s.pair.overLimit = false
              ∧ s.skewLimit < s.pair.skew.natAbs)
            ∨ (c = .zoneForbidden ∧ ∃ z, zoneInForce s.zones s.lastPosition = some z ∧ z.permitsTest = false)) := by
  rw [← claimDue_iff, ← mem_claimFaults_claiming c hs]
  unfold entryFaults
  split <;> simp_all

theorem claimFaults_length (s : State) : (claimFaults s).length ≤ 2 := by
  unfold claimFaults skewFault
  split_ifs <;> simp

/-- R35, R60: `w` has reported the faults that the claim of the sample gives, which was taken in `s`. -/
structure ClaimFaulted (s w : State) : Prop where
  halted : TareHalted w
  recorded : w.stop.record.isSome = true
  locked : s.stop.record = none → w.stop.further = (entryFaults s).length - 1
    ∧ ∃ k, w.stop.record = some k ∧ k.cause ∈ entryFaults s ∧ k.state = .claiming

theorem ClaimFaulted.of_same {s v w : State} (h : ClaimFaulted s v) (hseq : w.seq = v.seq) (hload : w.load = v.load)
    (hstop : w.stop = v.stop) : ClaimFaulted s w where
  halted := by simpa only [TareHalted, hseq, hload] using h.halted
  recorded := by rw [hstop]; exact h.recorded
  locked := by rw [hstop]; exact h.locked

/-- R35, R60: a report that takes the sequencer to CLAIMING on a sample with faults for it. -/
theorem claimFaulted_of_claims {act : State → State} {s t : State} (hs : TestStation s) (hl : s.stop.latch = false)
    (hne : entryFaults s ≠ []) (hq : t.seq.state ≠ .claiming) (hclaims : (act t).seq.state = .claiming)
    (hstart : (act t).start = s.start) (hstop : (act t).stop = s.stop) (hpair : (act t).pair = s.pair)
    (hlast : (act t).load.last = s.load.last) : ClaimFaulted s (claimChecked act t) := by
  have hu : TestStation (act t) := by simpa [TestStation, hstart] using hs
  have hdue : claimDue s = true := by
    by_contra hno
    exact hne (if_neg hno)
  have hfaults : claimFaults (act t) = entryFaults s := by
    rw [entryFaults, if_pos hdue]
    exact claimFaults_congr hstart hpair hlast ((moveKind_of_claiming (isFollow_of_testStation hu) hclaims).trans
      (moveKind_setClaiming hs).symm)
  have he : claimChecked act t = reportFound (entryFaults s) (rememberSkew (act t)) := by
    rw [← hfaults]
    simp [claimChecked, hq, hclaims]
  have hstrap : (rememberSkew (act t)).start.strapFault = false := by simpa using hu.1
  have hhalt : Haltable (rememberSkew (act t)) :=
    .of_test (s := s) (by simpa) (by simpa) hs hl (by simp [hclaims, SeqState.isTest])
  have hown : (rememberSkew (act t)).ownState = .claiming := by
    have hf : (rememberSkew (act t)).isFollow = false := by simpa [State.isFollow] using isFollow_of_testStation hu
    simp [State.ownState, hf, hclaims]
  rw [he]
  refine ⟨reportFound_halts hne hhalt, reportFound_records hstrap hne, fun hr => ?_⟩
  obtain ⟨hfur, k, hk, hcause, hstate⟩ := reportFound_locks hstrap hne (by simpa [hstop] using hr)
  have hlen : (entryFaults s).length ≤ 2 := hfaults ▸ claimFaults_length _
  exact ⟨by rw [hfur]; omega, k, hk, hcause, by rw [hstate, hown]⟩

/-- R9, R99: the claim after the settling. -/
theorem claimFaulted_measured {s t : State} (hs : TestStation s) (hl : s.stop.latch = false) (hne : entryFaults s ≠ [])
    (hq : t.seq.state = .attaching) (hstart : t.start = s.start) (hstop : t.stop = s.stop) (hpair : t.pair = s.pair)
    (hlast : t.load.last = s.load.last) : ClaimFaulted s (claimChecked reportMeasuring t) :=
  have he : reportMeasuring t = enterClaiming t := by simp [reportMeasuring, hq]
  claimFaulted_of_claims hs hl hne (by simp [hq]) (by simp [he, enterClaiming]) (by simpa) (by simpa) (by simpa)
    (by simpa [he])

/-- R8, R83: the claim after a stable attempt. -/
theorem claimFaulted_judged {s t : State} (hs : TestStation s) (hl : s.stop.latch = false) (hne : entryFaults s ≠ [])
    (hq : t.seq.state = .taring) (hp : t.extPlan = none) (hstart : t.start = s.start) (hstop : t.stop = s.stop)
    (hpair : t.pair = s.pair) (hlast : t.load.last = s.load.last) {a : Tare} (ht : t.load.tare = some a)
    (hlen : a.loads.length = 16) (hst : tareStable t.loadCapacity a.loads = true) :
    ClaimFaulted s (claimChecked tareJudged t) := by
  have he : tareJudged t = enterClaiming (tareTaken (a.loads.sum.tdiv 16) t) := by
    rw [tareJudged_due hq ht hlen, judgeTare_succeeds hst, tareSucceeded_claims _ hp]
    exact takeGripsLow_stays (.inl (by simp [enterClaiming]))
  exact claimFaulted_of_claims hs hl hne (by simp [hq]) (by simp [he, enterClaiming]) (by simp [hstart])
    (by simp [he, hstop]) (by simp [hpair]) (by simp [he, hlast])

/-- R84, R99: on a sample without other faults the claim that it leads to reports its own before the regulator acts. -/
theorem reportedEarly_claimFaulted {checked : Bool} {r : SampleRec} {s : State} (hs : TestStation s)
    (hl : s.stop.latch = false) (hf : sampleFaults checked false s (demandRequest s) r = [])
    (hne : entryFaults s ≠ []) : ClaimFaulted s (reportedEarly checked false r s) := by
  have hdue : claimDue s = true := by
    by_contra hno
    exact hne (if_neg hno)
  have hreports : sampleReports checked false s (demandRequest s) r
      = (if judgmentDue s then [.tareUnstable] else [], s) := by
    cases hj : judgmentDue s <;> simp [sampleReports, hf, hj, hne, drawOrder, overloadFault, drawPlace]
  have hfaulty : sampleFaulty checked false r s = true := by simp [sampleFaulty, hne]
  have hkind : s.moveKind = .none := by
    rcases (claimDue_iff s).1 hdue with ⟨hq, -⟩ | ⟨hq, -⟩ <;>
      simp [State.moveKind, isFollow_of_testStation hs, hq]
  rw [reportedEarly, hfaulty, earlyReports, hreports, rememberSkew_of_unmoved hkind]
  rcases (claimDue_iff s).1 hdue with ⟨hq, hset, hcount⟩ | ⟨hq, hp, a, ht, hlen, hst⟩
  · have hj : judgmentDue s = false := by simp [judgmentDue, hq]
    have hset' : settlingDue s = true := by simp [settlingDue, hset, settleReadings, hcount]
    rw [hj, reportEarly, hset']
    exact claimFaulted_measured (t := enterMeasuring s) hs hl hne (by simpa) (by simp) (by simp) (by simp) (by simp)
  · have hj : judgmentDue s = true := (judgmentDue_iff s).2 ⟨hq, a, ht, hlen⟩
    have htake : ∀ (failed : Bool) (t : State), t.seq = s.seq → t.load = s.load → t.start = s.start → t.stop = s.stop →
        t.pair = s.pair → ClaimFaulted s (reportAll failed [.tareUnstable] t) := by
      intro failed t hseq hload hstart hstop hpair
      have hjt : judgmentDue t = true := by simpa only [judgmentDue, hseq, hload] using hj
      have hone : reportAll failed [.tareUnstable] t = claimChecked tareJudged t := by
        simp [reportAll, takeReport, hjt]
      rw [hone]
      exact claimFaulted_judged hs hl hne (by rw [hseq, hq]) (by simpa only [State.extPlan, hseq] using hp) hstart hstop
        hpair (by rw [hload]) (by rw [hload, ht]) hlen (by rw [loadCapacity_of_start hstart, hst])
    have hsettled : ∀ t : State, t.seq = s.seq → t.load = s.load → t.start = s.start → t.stop = s.stop →
        t.pair = s.pair → ClaimFaulted s (reportSettled (tareFails s) [.tareUnstable] t) := by
      intro t hseq hload hstart hstop hpair
      have hdrawn := htake (tareFails s) t.draw.2 hseq hload hstart hstop hpair
      unfold reportSettled
      split_ifs with h0
      · simp at h0
      · rw [claimChecked_measured_idle (s := t.draw.2) (by simp [State.draw, hseq, hq])]
        exact hdrawn
      · rw [claimChecked_measured_idle (by rcases hdrawn.halted.1 with h | h <;> simp [h])]
        exact hdrawn
    rw [hj, reportEarly]
    split
    · exact hsettled (enterMeasuring s) (by simp) (by simp) (by simp) (by simp) (by simp)
    · exact htake _ s rfl rfl rfl rfl rfl

/-- R35, R45, R60: the claim that a sample without other faults leads to is faulted, and the port stands still. -/
theorem moveSample_claimFaulted {checked : Bool} {r : SampleRec} {s : State} (hs : TestStation s)
    (hl : s.stop.latch = false) (hf : sampleFaults checked false s (demandRequest s) r = [])
    (hne : entryFaults s ≠ []) :
    ClaimFaulted s (moveSample checked false r s) ∧ (moveSample checked false r s).travel.applied = 0 := by
  have hearly := reportedEarly_claimFaulted (checked := checked) (r := r) hs hl hf hne
  refine ⟨?_, moveSample_applied_of_recorded hearly.recorded⟩
  have hlate : lateReports checked false r s = [] := by
    rcases (reports_halves checked false r s).2 with h | ⟨h, -⟩
    · exact h
    · simp at h
  rw [moveSample_eq, hlate]
  exact hearly.of_same (by simp [reportAll]) (by simp [reportAll]) (by simp [reportAll])
end Sys2Proof.Proofs
end

section
namespace Sys2Proof.Proofs
open Sys2Proof.Machine Sys2Proof.Safety Sys2Proof.Laws

/-! ## No phase begins -/

/-- R11: no notice of a phase begun is new. -/
def BeginsNoPhase (s t : State) : Prop :=
  ∀ n k, n ∈ t.link.notices → n.kind = .phaseBegun k → n ∈ s.link.notices

namespace BeginsNoPhase

variable {s t u : State}

theorem trans (h1 : BeginsNoPhase s t) (h2 : BeginsNoPhase t u) : BeginsNoPhase s u :=
  fun n k hn hk => h1 n k (h2 n k hn hk) hk

theorem of_notices (h : t.link.notices = s.link.notices) : BeginsNoPhase s t := fun _ _ hn _ => h ▸ hn

theorem pushNotice {kind : NoticeKind} (h : ∀ k, kind ≠ .phaseBegun k) :
    BeginsNoPhase s (Machine.pushNotice kind s) := by
  intro n k hn hk
  rcases mem_pushNotice hn with hn | hn
  · exact hn
  · exact absurd (hn.symm.trans hk) (h k)

theorem switchover (c : SwitchCause) : BeginsNoPhase s (Machine.switchover c s) := by
  unfold Machine.switchover
  split
  · exact of_notices rfl
  · unfold switchNotice
    split
    · exact of_notices rfl
    · exact trans (of_notices rfl) (pushNotice (by simp))

theorem openArm (c : SwitchCause) : BeginsNoPhase s (Machine.openArm c s) := by
  unfold Machine.openArm
  dsimp only
  split
  · exact trans (of_notices rfl) (switchover c)
  all_goals exact of_notices rfl

theorem endTest (o : TestOutcome) : BeginsNoPhase s (Machine.endTest o s) := by
  have hwrite : ∀ f, BeginsNoPhase s (writeRecord f s) := fun f => of_notices rfl
  have hclose : ∀ w : State, BeginsNoPhase w (closeSpan (closeCollection w)) := fun w =>
    of_notices (by simp [closeSpan])
  have hpush : ∀ w : State, BeginsNoPhase w (Machine.pushNotice (.testEnded o) w) := fun w => pushNotice (by simp)
  exact (hwrite _).trans ((hpush _).trans (hclose _))

theorem haltSequencer (q : SeqState) (o : TestOutcome) : BeginsNoPhase s (Machine.haltSequencer q o s) := by
  have harm : BeginsNoPhase s (Machine.openArm .stop (abandonTare s)) := trans (of_notices rfl) (openArm .stop)
  have hbase : BeginsNoPhase s (requestUnits 0 .release (gotoState q (Machine.openArm .stop (abandonTare s)))) :=
    harm.trans (of_notices (by simp))
  unfold Machine.haltSequencer
  dsimp only
  split
  · exact hbase.trans (endTest o)
  · exact hbase

theorem stopOwn : BeginsNoPhase s (Machine.stopOwn s) := by
  unfold Machine.stopOwn
  split
  · exact of_notices (by simp)
  · by_cases h : s.seq.state = .unconfigured ∨ s.seq.state = .idle ∨ s.seq.state = .stopped
    · exact of_notices (by rw [stopSequencer_stays s h])
    · rw [stopSequencer_halts s (by simpa using h)]
      exact haltSequencer _ _

theorem faultOwn : BeginsNoPhase s (Machine.faultOwn s) := by
  unfold Machine.faultOwn
  split
  · exact of_notices (by simp)
  · by_cases h : s.seq.state = .unconfigured ∨ s.seq.state = .idle ∨ s.seq.state = .stopped ∨ s.seq.state = .faulted
    · exact of_notices (by rw [faultSequencer_stays s h])
    · rw [faultSequencer_halts s (by simpa using h)]
      exact haltSequencer _ _

theorem report (c : FaultCause) : BeginsNoPhase s (Machine.report c s) := by
  cases hs : s.start.strapFault with
  | true => exact of_notices (by rw [report_strapFault c hs])
  | false =>
    obtain ⟨u, hu, hcase⟩ := report_answered c hs
    have htaken : BeginsNoPhase s u := fun n k hn hk =>
      (hu.notices n hn).resolve_right fun ⟨l, hl⟩ => by simp [hl] at hk
    rcases hcase with ⟨he, -⟩ | ⟨he, -⟩ | ⟨he, -⟩ <;> rw [he]
    · exact htaken
    · exact htaken.trans stopOwn
    · exact htaken.trans faultOwn

theorem examineSample (x : ExtView) (r : SampleRec) : BeginsNoPhase s (Machine.examineSample x r s) := by
  unfold Machine.examineSample
  split
  · split
    · exact switchover _
    · unfold joinSlip
      split <;> exact of_notices rfl
  · exact of_notices rfl

theorem completeLoad (v : LoadView) : BeginsNoPhase s (Machine.completeLoad v s) := by
  have hdetect : ∀ (r : SampleRec) (w : State), BeginsNoPhase w (detectorNotices r w) := by
    intro r w
    unfold detectorNotices
    dsimp only
    split_ifs
    · exact trans (pushNotice (by simp)) (pushNotice (by simp))
    · exact pushNotice (by simp)
    · exact pushNotice (by simp)
    · exact of_notices rfl
  unfold Machine.completeLoad
  refine trans (of_notices ?_) (hdetect _ _)
  split <;> simp [writeRecord]

theorem pairSample (r : SampleRec) : BeginsNoPhase s (Machine.pairSample r s) := by
  have hskew : BeginsNoPhase s (computeSkew r s) := by
    unfold computeSkew
    split <;> exact of_notices rfl
  have halarm : ∀ w : State, BeginsNoPhase w (judgeAlarm w) := by
    intro w
    unfold judgeAlarm
    split_ifs
    · exact of_notices rfl
    · exact trans (of_notices rfl) (pushNotice (by simp))
    · exact of_notices rfl
    · exact of_notices rfl
  have hcount : ∀ w : State, BeginsNoPhase w (countRunning w) := by
    intro w
    unfold countRunning
    split <;> exact of_notices rfl
  unfold Machine.pairSample
  split
  · exact hskew.trans ((halarm _).trans (hcount _))
  · exact of_notices rfl

end BeginsNoPhase
end Sys2Proof.Proofs
end

section
namespace Sys2Proof.Proofs
open Sys2Proof.Machine Sys2Proof.Safety Sys2Proof.Laws

/-! ## A CLAIMING test in a zone without TEST -/

/-- R10, R35: what the sample of a CLAIMING test leaves alone until the test faults. -/
structure ClaimHolds (s t : State) : Prop where
  station : TestStation t
  phase : t.seq.phase = s.seq.phase
  runBegun : t.recorder.runBegun = s.recorder.runBegun
  notices : BeginsNoPhase s t

/-- R35: the test has ended before it ran. -/
structure ClaimEnded (s t : State) : Prop extends ClaimHolds s t where
  halted : t.seq.state = .stopped ∨ t.seq.state = .faulted

theorem ClaimHolds.of_same {s t u : State} (h : ClaimHolds s t) (hstart : u.start = t.start)
    (hphase : u.seq.phase = t.seq.phase) (hrun : u.recorder.runBegun = t.recorder.runBegun)
    (hn : BeginsNoPhase t u) : ClaimHolds s u where
  station := by simpa [TestStation, hstart] using h.station
  phase := hphase.trans h.phase
  runBegun := hrun.trans h.runBegun
  notices := h.notices.trans hn

theorem ClaimHolds.report {s t : State} (c : FaultCause) (h : ClaimHolds s t) : ClaimHolds s (Machine.report c t) :=
  h.of_same (by simp) (by simp) (by simp) (.report c)

theorem ClaimHolds.rememberSkew {s t : State} (h : ClaimHolds s t) : ClaimHolds s (Machine.rememberSkew t) :=
  h.of_same (by simp) (by simp) (by simp) (.of_notices (by simp))

theorem ClaimHolds.foldl {s t : State} (cs : List FaultCause) (h : ClaimHolds s t) :
    ClaimHolds s (cs.foldl (fun t c => Machine.report c t) t) := by
  induction cs generalizing t with
  | nil => exact h
  | cons c cs ih => exact ih (h.report c)

theorem ClaimHolds.reportFound {s t : State} (cs : List FaultCause) (h : ClaimHolds s t) :
    ClaimHolds s (Machine.reportFound cs t) := by
  obtain ⟨n, he⟩ := reportFound_eq cs t
  rw [he]
  exact ClaimHolds.foldl _ (h.of_same rfl rfl rfl (.of_notices rfl))

theorem report_keepsHalted {s : State} (c : FaultCause) (h : s.seq.state = .stopped ∨ s.seq.state = .faulted) :
    (report c s).seq.state = .stopped ∨ (report c s).seq.state = .faulted :=
  (report_state c s).elim (fun he => by rwa [he]) id

theorem foldl_keepsHalted {s : State} (cs : List FaultCause) (h : s.seq.state = .stopped ∨ s.seq.state = .faulted) :
    (cs.foldl (fun t c => report c t) s).seq.state = .stopped
      ∨ (cs.foldl (fun t c => report c t) s).seq.state = .faulted := by
  induction cs generalizing s with
  | nil => exact h
  | cons c cs ih => exact ih (report_keepsHalted c h)

/-- R24: a local fault halts a CLAIMING test, whatever the latch, and whatever is reported with it. -/
theorem foldl_halts_claim {cs : List FaultCause} {t : State} (hs : TestStation t) (hq : t.seq.state = .claiming)
    (hc : .zoneForbidden ∈ cs) :
    (cs.foldl (fun t c => report c t) t).seq.state = .stopped
      ∨ (cs.foldl (fun t c => report c t) t).seq.state = .faulted := by
  induction cs generalizing t with
  | nil => simp at hc
  | cons c cs ih =>
    rcases report_state c t with he | he
    · have hne : c ≠ .zoneForbidden := by
        rintro rfl
        rw [report_local hs (by rw [hq]; rfl) rfl] at he
        have := congrArg Seq.state he
        simp [hq] at this
      exact ih (by simpa [TestStation] using hs) (by rw [he, hq]) ((List.mem_cons.1 hc).resolve_left hne.symm)
    · exact foldl_keepsHalted cs he

theorem reportFound_halts_claim {cs : List FaultCause} {t : State} (hs : TestStation t) (hq : t.seq.state = .claiming)
    (hc : .zoneForbidden ∈ cs) :
    (reportFound cs t).seq.state = .stopped ∨ (reportFound cs t).seq.state = .faulted := by
  obtain ⟨n, he⟩ := reportFound_eq cs t
  rw [he]
  exact foldl_halts_claim (t := t.setFree n) hs hq ((drawOrder_perm cs t).mem_iff.2 hc)

/-- R35: the sample lies in a zone that does not permit TEST. -/
theorem claimForbidden_of_zone {r : SampleRec} {s : State} (hs : TestStation s) (hq : s.seq.state = .claiming)
    (hz : ∃ z, zoneInForce s.zones r.position = some z ∧ z.permitsTest = false) : claimForbidden s r = true := by
  have hf := isFollow_of_testStation hs
  have hforbids : zoneForbids s r.position = true := by
    rw [zoneForbids_iff, moveKind_of_claiming hf hq]
    exact hz
  simp [claimForbidden, hf, hq, hforbids]

/-- R35: the check before the handling ends a CLAIMING test in a forbidden zone. -/
theorem checkFirst_ends_claim {checked : Bool} {r : SampleRec} {s t : State} (ht : ClaimHolds s t)
    (hq : t.seq.state = .claiming) (hz : ∃ z, zoneInForce t.zones r.position = some z ∧ z.permitsTest = false) :
    ClaimEnded s (checkFirst checked r t)
      ∧ (checkFirst checked r t).stop.record.isSome = true
      ∧ (t.stop.record = none → ∃ k, (checkFirst checked r t).stop.record = some k ∧ k.state = .claiming) := by
  have hfirst : firstFaults checked t r = .zoneForbidden :: (partnerCause t).toList :=
    if_pos (claimForbidden_of_zone ht.station hq hz)
  have he : checkFirst checked r t = reportFound (firstFaults checked t r ++ skewFault t) (rememberSkew t) :=
    if_neg (by simp [hfirst])
  have hmem : FaultCause.zoneForbidden ∈ firstFaults checked t r ++ skewFault t := by simp [hfirst]
  have hr := ht.rememberSkew
  have hown : (rememberSkew t).ownState = .claiming := by
    simp [State.ownState, isFollow_of_testStation hr.station, hq]
  rw [he]
  refine ⟨⟨hr.reportFound _, reportFound_halts_claim hr.station (by simpa) hmem⟩,
    reportFound_records hr.station.1 (List.ne_nil_of_mem hmem), fun hn => ?_⟩
  obtain ⟨-, k, hk, -, hstate⟩ := reportFound_locks hr.station.1 (List.ne_nil_of_mem hmem) (by simpa using hn)
  exact ⟨k, hk, hstate.trans hown⟩

theorem ClaimEnded.step {s t u : State} (hst : ReportStep t u) (h : ClaimEnded s t) : ClaimEnded s u := by
  have hq := h.halted
  have hidle : tareJudged t = t := tareJudged_idle (by rcases hq with hq | hq <;> simp [hq])
  have hrest : reportMeasuring t = t := reportMeasuring_idle (by rcases hq with hq | hq <;> simp [hq])
  cases hst with
  | reported c => exact ⟨h.report c, (report_state c t).elim (fun he => by rwa [he]) id⟩
  | judged => rwa [hidle]
  | measured => rwa [hrest]
  | entered => exact ⟨h.of_same (by simp) (by simp) (by simp) (.of_notices (by simp)), by simpa using hq⟩
  | remembered => exact ⟨h.rememberSkew, by simpa using hq⟩
  | drawn n => exact ⟨h.of_same rfl rfl rfl (.of_notices rfl), hq⟩
  | regulated q r => exact ⟨h.of_same (by simp) (by simp) (by simp) (.of_notices (by simp)), by simpa using hq⟩

theorem ClaimEnded.examined {s t : State} (x : ExtView) (r : SampleRec) (h : ClaimEnded s t) :
    ClaimEnded s (examineSample x r t) :=
  ⟨h.of_same (by simp) (by simp) (by simp) (.examineSample x r), by simpa using h.halted⟩

theorem ClaimEnded.handled {s t : State} (r : SampleRec) (ended : Bool) (h : ClaimEnded s t) :
    ClaimEnded s (handleSample r ended t) := by
  have hno : t.seq.state.actsOnSample = false := by rcases h.halted with hq | hq <;> simp [hq, SeqState.actsOnSample]
  rw [handleSample_waiting r ended hno]
  exact ⟨h.of_same (by simp) (by simp) (by simp) (.of_notices (by simp)), by simpa using h.halted⟩
theorem handledIn_endsClaim {checked ended : Bool} {x : ExtView} {r : SampleRec} {s u h : State}
    (hh : HandledIn checked ended x r u h) (hu : ClaimHolds s u) (hq : u.seq.state = .claiming)
    (hz : ∃ z, zoneInForce u.zones r.position = some z ∧ z.permitsTest = false) :
    ClaimEnded s h ∧ h.stop.record.isSome = true
      ∧ (u.stop.record = none → ∃ k, h.stop.record = some k ∧ k.state = .claiming) := by
  obtain ⟨n, m, hh⟩ := hh
  obtain ⟨hend, hrec, hlock⟩ := checkFirst_ends_claim (checked := checked) (t := u.setFree n)
    (hu.of_same rfl rfl rfl (.of_notices rfl)) hq hz
  have hdrawn : ClaimEnded s ((checkFirst checked r (u.setFree n)).setFree m) := hend.step (.drawn m _)
  have hstop : h.stop = (checkFirst checked r (u.setFree n)).stop := by
    rcases hh with ⟨-, rfl⟩ | ⟨-, rfl | rfl⟩ <;> simp
  rw [hstop]
  refine ⟨?_, hrec, hlock⟩
  rcases hh with ⟨-, rfl⟩ | ⟨-, rfl | rfl⟩
  · exact hend.handled r ended
  · exact (hdrawn.examined x r).handled r ended
  · exact (hdrawn.handled r ended).examined x r

/-- R10, R74: the blocks that take a sample before the sequencer leave the claim alone. -/
theorem takenSample_claimHolds {v : LoadView} {s : State} (hs : TestStation s) : ClaimHolds s (takenSample v s) where
  station := by simpa [TestStation, takenSample] using hs
  phase := by simp [takenSample]
  runBegun := by simp [takenSample]
  notices := by
    have hload := BeginsNoPhase.completeLoad (s := s) v
    have hmeasured : BeginsNoPhase (completeLoad v s)
        (offerSample v.record (takeMeasured v.record (completeLoad v s))) := .of_notices (by simp)
    exact hload.trans (hmeasured.trans (.pairSample v.record))

/-- R35, R45: the CLAIMING test that completes a sample in a forbidden zone. -/
theorem completeSample_endsClaim {reading : Int} {strain : Option Int} {s : State} (hs : TestStation s)
    (hq : s.seq.state = .claiming)
    (hz : ∃ z, zoneInForce s.zones s.travel.latched = some z ∧ z.permitsTest = false) :
    ClaimEnded s (completeSample reading strain s) ∧ (completeSample reading strain s).stop.record.isSome = true
      ∧ (s.stop.record = none → ∃ k, (completeSample reading strain s).stop.record = some k ∧ k.state = .claiming) := by
  obtain ⟨checked, h, hh, -, he⟩ := completeSample_handles reading strain (isFollow_of_testStation hs)
  have hseq : (takenSample (loadView reading strain s) s).seq = s.seq := by simp [takenSample]
  have hzones : (takenSample (loadView reading strain s) s).zones = s.zones := by
    have hstart : (takenSample (loadView reading strain s) s).start = s.start := by simp [takenSample]
    unfold State.zones
    rw [hstart]
  have hpos : (loadView reading strain s).record.position = s.travel.latched := by
    simp [loadView, sampleRecord, isFollow_of_testStation hs]
  have hgrips : takeGripsUnreported (takenSample (loadView reading strain s) s)
      = takenSample (loadView reading strain s) s := by
    rw [takeGripsUnreported, takeGripsLow_stays (.inl (by simp [hseq, hq])), ite_self]
  rw [hgrips] at hh
  obtain ⟨hend, hrec, hlock⟩ := handledIn_endsClaim hh (takenSample_claimHolds hs)
    (by rw [hseq, hq]) (by rwa [hzones, hpos])
  rw [he]
  have hrun := reportRun_moveSample checked (overloadFires s (loadView reading strain s).gross
    (loadView reading strain s).reading) (loadView reading strain s).record h
  refine ⟨hrun.keeps (P := ClaimEnded s) (fun hst => ClaimEnded.step hst) hend, ?_, fun hn => ?_⟩
  · obtain ⟨k, hk⟩ := Option.isSome_iff_exists.1 hrec
    simp [hrun.stopGrows.1 k hk]
  · obtain ⟨k, hk, hstate⟩ := hlock (by simpa [takenSample] using hn)
    exact ⟨k, hrun.stopGrows.1 k hk, hstate⟩

/-- R70, R73, R100: a conversion end that completes a sample is the completion, once a reading in SETTLING is
counted. -/
theorem exec_completes {c : Instr} {s : State} (hc : CompletesSample c s) :
    ∃ (reading : Int) (strain : Option Int) (u : State), (u = s ∨ ∃ y, u = countSettling y s)
      ∧ exec c s = .next (finish s (completeSample reading strain u)) := by
  rcases hc with ⟨hl, reading, rfl⟩ | ⟨hl, reading, rfl⟩
  · refine ⟨reading, none, s, .inl rfl, ?_⟩
    rw [← loadConversionEnd_completes reading hl]
    rfl
  · obtain ⟨l, hr⟩ := Option.isSome_iff_exists.1 hl.2
    refine ⟨l, some (clampReading reading), countSettling (clampReading reading) s, .inr ⟨_, rfl⟩, ?_⟩
    rw [← strainConversionEnd_completes reading hl hr]
    rfl

theorem claimingSample_ends {c : Instr} {s : State} (hc : CompletesSample c s) (hs : TestStation s)
    (hq : s.seq.state = .claiming)
    (hz : ∃ z, zoneInForce s.zones s.travel.latched = some z ∧ z.permitsTest = false) :
    Next (exec c s) fun t => (t.seq.state = .faulted ∨ t.seq.state = .stopped) ∧ t.seq.phase = s.seq.phase
      ∧ t.recorder.runBegun = s.recorder.runBegun ∧ t.travel.applied = 0
      ∧ (s.stop.record = none → ∃ k, t.stop.record = some k ∧ k.state = .claiming)
      ∧ ∀ n k, n ∈ t.link.notices → n.kind = .phaseBegun k → n ∈ s.link.notices := by
  obtain ⟨reading, strain, u, hu, he⟩ := exec_completes hc
  have hsame : u.start = s.start ∧ u.seq = s.seq ∧ u.travel = s.travel ∧ u.recorder = s.recorder ∧ u.stop = s.stop
      ∧ u.link = s.link := by
    rcases hu with rfl | ⟨y, rfl⟩ <;> simp
  obtain ⟨hstart, hseq, htravel, hrecorder, hstop, hlink⟩ := hsame
  have hzones : u.zones = s.zones := by unfold State.zones; rw [hstart]
  obtain ⟨hend, hrec, hlock⟩ := completeSample_endsClaim (reading := reading) (strain := strain) (s := u)
    (by simpa [TestStation, hstart] using hs) (by rw [hseq, hq]) (by rwa [hzones, htravel])
  rw [he, next_iff]
  refine ⟨by simpa using hend.halted.symm, by simpa [hseq] using hend.phase, by simpa [hrecorder] using hend.runBegun,
    ?_, fun hn => by simpa using hlock (by rw [hstop, hn]), fun n k hn hk => ?_⟩
  · rw [applied_finish, if_pos (forced_of_recorded hrec)]
  · have hn' : n ∈ (completeSample reading strain u).link.notices := by simpa using hn
    exact hlink ▸ hend.notices n k hn' hk

/-! ## The record after the sample -/

theorem moveSample_locks {checked overload : Bool} {r : SampleRec} {s : State} {c : FaultCause} {cs : List FaultCause}
    (hs : s.start.strapFault = false) (hr : s.stop.record = none) (hj : judgmentDue s = false)
    (he : entryFaults s = [])
    (hcs : sampleFaults checked overload s (demandRequest s) r ++ overloadFault overload = c :: cs) :
    (moveSample checked overload r s).stop.further = min 255 cs.length
      ∧ ∃ k, (moveSample checked overload r s).stop.record = some k ∧ k.cause ∈ c :: cs
          ∧ (sampleFaults checked overload s (demandRequest s) r ≠ [] →
              k.cause ∈ sampleFaults checked overload s (demandRequest s) r) := by
  have htally := moveSample_tally (checked := checked) (overload := overload) (r := r) hs hr hj he
  have horder := drawOrder_perm (sampleFaults checked overload s (demandRequest s) r) s
  obtain ⟨hfur, k, hk, hcause⟩ := htally.of_perm (hcs ▸ horder.append_right _)
  refine ⟨hfur, k, hk, hcause, fun hne => ?_⟩
  cases hd : (drawOrder (sampleFaults checked overload s (demandRequest s) r) s).1 with
  | nil => exact absurd (hd ▸ horder).nil_eq.symm hne
  | cons d ds =>
    rw [hd] at htally horder
    obtain ⟨-, k', hk', rfl⟩ := htally
    obtain rfl : k' = k := Option.some.inj (hk'.symm.trans hk)
    exact horder.mem_iff.1 List.mem_cons_self

theorem moveSample_locks_failing {checked overload : Bool} {r : SampleRec} {s : State} {c : FaultCause}
    {cs : List FaultCause} (hs : s.start.strapFault = false) (hr : s.stop.record = none) (hj : judgmentDue s = true)
    (hf : tareFails s = true)
    (hcs : sampleFaults checked overload s (demandRequest s) r ++ overloadFault overload = c :: cs) :
    (moveSample checked overload r s).stop.further = min 255 (cs.length + 1)
      ∧ ∃ k, (moveSample checked overload r s).stop.record = some k ∧ k.cause ∈ .tareUnstable :: c :: cs := by
  have hany : (overload || !(sampleFaults checked overload s (demandRequest s) r).isEmpty) = true := by
    cases hfaults : sampleFaults checked overload s (demandRequest s) r with
    | nil => cases overload <;> simp_all [overloadFault]
    | cons d ds => simp
  have hperm := sampleReports_perm checked overload s (demandRequest s) r
  rw [hj, hany, hcs] at hperm
  exact (moveSample_tally_failing (checked := checked) (overload := overload) (r := r) hs hr hj hf).of_perm hperm

/-! ## The obligation -/

/-- Settles O36: the zone in force is the first that covers; what a report does to the record and the sequencer is
followed along the reports of the sample (`ReportRun`, `Tally`); a claim is faulted where it is entered
(`ClaimFaulted`), and in CLAIMING before the handling (`ClaimEnded`). -/
theorem movementFaultsOfSample : Obligations.MovementFaultsOfSample := by
  unfold Obligations.MovementFaultsOfSample
  refine ⟨fun zs pos => ⟨zoneInForce_some_iff zs pos, zoneInForce_none_iff zs pos⟩,
    fun q r s => ⟨fun z => zoneFault_of_zone, fun h => ?_⟩, skewFires_iff, fun checked overload r s hs => ?_,
    fun c s hc hs hq hz => claimingSample_ends hc hs hq hz⟩
  · rw [zoneFault_unmapped h, ← movesUnmapped_iff]
    cases movesUnmapped s q r <;> simp
  · refine ⟨fun c => mem_movementFaults c s _ r, fun c => mem_laterFaults checked c s _ r,
      fun c => mem_sampleFaults checked overload c s _ r, dueCause_hold, dueCause_budget,
      fun c hc => moveSample_reports hs hc, moveSample_faults_applied hs, fun c cs hr hj he hcs => ?_,
      fun c cs hr hj hf hcs => ?_, fun a hfollow hl hj ht hf => ?_, fun hf ho he => ?_, fun hf ho hne hfollow hl => ?_,
      fun hfollow c => mem_entryFaults c ⟨hs, by simpa [State.isFollow] using hfollow⟩⟩
    · exact moveSample_locks hs hr hj he hcs
    · exact moveSample_locks_failing hs hr hj hf hcs
    · exact moveSample_ends_tare ⟨hs, by simpa [State.isFollow] using hfollow⟩ hl hj ht hf
    · subst ho
      simp [moveSample_of_no_faults hf he]
    · subst ho
      obtain ⟨hfaulted, hstill⟩ :=
        moveSample_claimFaulted ⟨hs, by simpa [State.isFollow] using hfollow⟩ hl hf hne
      exact ⟨hfaulted.halted.1.symm, hstill, hfaulted.locked⟩
end Sys2Proof.Proofs
end

section
namespace Sys2Proof.Proofs
open Sys2Proof.Machine Sys2Proof.Safety Sys2Proof.Laws

/-! ## The overload mark and the TARING state on the way of a sample -/

/-- R85: the mark of the last conversion stays, and TARING is not entered. -/
def KeepsOverload (s t : State) : Prop :=
  t.load.overPrev = s.load.overPrev ∧ (t.seq.state = .taring → s.seq.state = .taring)

namespace KeepsOverload

variable {s t u : State}

theorem trans (h1 : KeepsOverload s t) (h2 : KeepsOverload t u) : KeepsOverload s u :=
  ⟨h2.1.trans h1.1, fun h => h1.2 (h2.2 h)⟩

theorem of_same (hload : t.load.overPrev = s.load.overPrev) (hstate : t.seq.state = s.seq.state) : KeepsOverload s t :=
  ⟨hload, fun h => hstate ▸ h⟩

theorem of_entry (hload : t.load.overPrev = s.load.overPrev) (hstate : t.seq.state ≠ .taring) : KeepsOverload s t :=
  ⟨hload, fun h => absurd h hstate⟩

theorem report (c : FaultCause) : KeepsOverload s (Machine.report c s) := by
  rcases report_state c s with he | he
  · exact of_same (by simp) (by rw [he])
  · exact of_entry (by simp) (by rcases he with he | he <;> simp [he])

theorem takeGripsLow : KeepsOverload s (Machine.takeGripsLow s) := by
  unfold Machine.takeGripsLow
  split
  · exact of_entry (by simp) (by simp [dropGrips_sets])
  · exact of_same rfl rfl

theorem judged : KeepsOverload s (tareJudged s) := by
  have hload : (tareJudged s).load.overPrev = s.load.overPrev := by
    unfold tareJudged judgeTare tareSucceeded Machine.takeGripsLow
    (repeat' split) <;> simp [enterClaiming]
  refine ⟨hload, fun h => ?_⟩
  by_contra hno
  rw [tareJudged_idle hno] at h
  exact hno h

theorem step (hst : ReportStep s t) : KeepsOverload s t := by
  cases hst with
  | reported c => exact report c
  | judged => exact judged
  | measured => exact ⟨by simp, (reportMeasuring_state s).1⟩
  | entered => exact of_same (by simp) (by simp)
  | remembered => exact of_same (by simp) (by simp)
  | drawn n => exact of_same rfl rfl
  | regulated q r => exact of_same (by simp) (by simp)

theorem run (h : ReportRun s t) : KeepsOverload s t :=
  h.keeps (P := KeepsOverload s) (fun hst hs => hs.trans (step hst)) (of_same rfl rfl)

/-! ### The handling of the sample -/

theorem beginPhase (r : SampleRec) : KeepsOverload s (Machine.beginPhase r s) := by
  obtain ⟨-, -, hq | hq⟩ := beginPhase_seq r s
  · exact of_same (by simp) hq
  · exact of_entry (by simp) (by simp [hq])

theorem enterRunning : KeepsOverload s (Machine.enterRunning s) :=
  of_entry (by simp) (by simp)

theorem enterHeld (c : HoldCauses) : KeepsOverload s (Machine.enterHeld c s) :=
  of_entry (by simp) (by simp)

theorem enterEnding (o : TestOutcome) (c : SwitchCause) : KeepsOverload s (Machine.enterEnding o c s) :=
  of_entry (by simp) (by simp)

theorem holdOrAdvance : KeepsOverload s (Machine.holdOrAdvance s) := by
  unfold Machine.holdOrAdvance
  split
  · exact enterHeld _
  · exact of_same (by simp [advancePhase]) (by simp)

theorem startPhaseOne (r : SampleRec) : KeepsOverload s (Machine.startPhaseOne r s) := by
  have hopen : KeepsOverload s (openSpan ((Machine.enterRunning s).setSeq
      { (Machine.enterRunning s).seq with phase := 1, testZero := r.position })) :=
    of_entry (by simp [openSpan]) (by simp)
  exact hopen.trans (beginPhase r)

theorem nextPhase (r : SampleRec) : KeepsOverload s (Machine.nextPhase r s) := by
  unfold Machine.nextPhase
  dsimp only
  split
  · exact enterEnding _ _
  · split
    · exact trans (of_same (by simp) (by simp [makeCurrent])) (enterRunning.trans (beginPhase r))
    · exact of_entry (by simp) (by simp)

theorem returnStep (r : SampleRec) : KeepsOverload s (Machine.returnStep r s) := by
  unfold Machine.returnStep
  split
  · exact of_same rfl rfl
  · split_ifs
    · exact of_entry (by simp) (by simp)
    · exact of_same rfl rfl
    · exact of_same rfl rfl
    · exact of_same rfl rfl

theorem endingStep (r : SampleRec) : KeepsOverload s (Machine.endingStep r s) := by
  unfold Machine.endingStep
  split_ifs
  · exact trans (of_entry (by simp) (by simp)) (returnStep r)
  · exact of_entry (by simp) (by simp)
  · exact of_same rfl rfl
  · exact of_same rfl rfl

theorem endOnSample (o : TestOutcome) (r : SampleRec) : KeepsOverload s (Machine.endOnSample o r s) := by
  unfold Machine.endOnSample
  dsimp only
  split
  · exact (enterEnding _ _).trans (endingStep r)
  · exact enterEnding _ _

theorem endPhase (r : SampleRec) : KeepsOverload s (Machine.endPhase r s) := by
  have hnext : KeepsOverload s (Machine.nextPhase r (removalMade s)) := by
    refine trans (of_same ?_ ?_) (nextPhase r) <;> unfold removalMade <;> split <;> simp
  rw [endPhase_eq]
  split_ifs
  · exact hnext.trans (endingStep r)
  · exact hnext
  · exact hnext

theorem claimingSample (r : SampleRec) : KeepsOverload s (Machine.claimingSample r s) := by
  unfold Machine.claimingSample
  split_ifs
  · exact startPhaseOne r
  · exact of_same rfl rfl
  · exact of_same rfl rfl

theorem runningSample (r : SampleRec) (ended : Bool) : KeepsOverload s (Machine.runningSample r ended s) := by
  unfold Machine.runningSample
  split_ifs
  · exact endOnSample _ r
  · exact endPhase r
  · exact holdOrAdvance

theorem heldSample (r : SampleRec) : KeepsOverload s (Machine.heldSample r s) := by
  have hresume : KeepsOverload s (resume r s) := by
    have hrun : KeepsOverload s (Machine.enterRunning (pushNotice .holdEnded s)) := of_entry (by simp) (by simp)
    unfold resume
    dsimp only
    split
    · exact hrun
    · exact hrun.trans (beginPhase r)
  unfold Machine.heldSample
  split_ifs
  · exact endOnSample _ r
  · exact hresume
  · exact of_same rfl rfl
  · exact of_same rfl rfl

theorem handleSample (r : SampleRec) (ended : Bool) : KeepsOverload s (Machine.handleSample r ended s) := by
  have hcount : KeepsOverload s (countSample s) := of_same rfl rfl
  unfold Machine.handleSample
  dsimp only
  split
  · exact hcount.trans (claimingSample r)
  · exact hcount.trans (runningSample r ended)
  · exact hcount.trans (heldSample r)
  · exact hcount.trans (endingStep r)
  · exact hcount.trans (returnStep r)
  · exact hcount

theorem handledIn {checked ended : Bool} {x : ExtView} {r : SampleRec} {h : State}
    (hh : HandledIn checked ended x r s h) : KeepsOverload s h := by
  obtain ⟨n, m, hh⟩ := hh
  have hfirst : KeepsOverload s (checkFirst checked r (s.setFree n)) :=
    trans (t := s.setFree n) (of_same rfl rfl) (run (reportRun_checkFirst checked r _))
  have hexamined : ∀ w : State, KeepsOverload w (examineSample x r w) := fun w => of_same (by simp) (by simp)
  have hdrawn : KeepsOverload s ((checkFirst checked r (s.setFree n)).setFree m) := hfirst.trans (of_same rfl rfl)
  rcases hh with ⟨-, rfl⟩ | ⟨-, rfl | rfl⟩
  · exact hfirst.trans (handleSample r ended)
  · exact hdrawn.trans ((hexamined _).trans (handleSample r ended))
  · exact hdrawn.trans ((handleSample r ended).trans (hexamined _))

end KeepsOverload
end Sys2Proof.Proofs
end

section
namespace Sys2Proof.Proofs
open Sys2Proof.Machine Sys2Proof.Safety Sys2Proof.Laws

/-! ## The drive port at a tick -/

theorem gateClose_tripped (s : State) : (gateClose s).travel.tripped = s.travel.tripped := by
  unfold gateClose Travel.closeGate
  (repeat' split) <;> simp

theorem forceZero_tripped (s : State) : (forceZero s).travel.tripped = s.travel.tripped := by
  unfold forceZero
  split <;> simp

theorem followLossExpired_tripped (s : State) : (followLossExpired s).travel.tripped = s.travel.tripped := by
  unfold followLossExpired idleFollow restFollow restRegulator
  split <;> simp

theorem settleAll_tripped (s : State) : (settleAll s).travel.tripped = s.travel.tripped := by
  refine settleAll_proj (fun t => t.travel.tripped) forceZero_tripped ?_ ?_ ?_ ?_ gateClose_tripped ?_ ?_ ?_ ?_ ?_ ?_ ?_
    ?_ ?_ ?_ ?_ ?_ followLossExpired_tripped ?_ ?_ ?_ ?_ ?_ s <;> intro t <;> simp

/-- R173, R174: of the overdue steps the end of the start interval alone acts on the start-up unit. -/
theorem settleAll_start (s : State) :
    (settleAll s).start
      = (takeStep (overdue s.start.intervalTimer startIntervalBits) (fun t => startIntervalEnd t.lines t) s).start := by
  have hstep : ∀ (due : Bool) (act : State → State), (∀ t, (act t).start = t.start) →
      ∀ t, (takeStep due act t).start = t.start :=
    fun due act => takeStep_proj (·.start) (by simp) due act
  have htimers : ∀ t, (settleTimers t).start
      = (takeStep (overdue t.start.intervalTimer startIntervalBits) (fun t => startIntervalEnd t.lines t) t).start := by
    intro t
    dsimp only [settleTimers]
    rw [hstep _ _ (by simp), hstep _ _ (by simp), hstep _ _ (by simp)]
  have hcounts : ∀ t, (settleCounts t).start = t.start := hstep _ _ (by simp)
  have hsample : ∀ t, (settleSample t).start = t.start := hstep _ _ (by simp)
  have htimeouts : ∀ t, (settleTimeouts t).start = t.start := hstep _ _ (by simp)
  have hlines : ∀ t, (settleLines t).start = t.start := by
    intro t
    dsimp only [settleLines]
    rw [hstep _ _ (by simp), hstep _ _ (by simp), hstep _ _ (by simp)]
  unfold settleAll
  simp [hlines, htimeouts, hsample, hcounts, htimers]

/-- R174: once the start interval has ended it stays ended. -/
theorem settleAll_intervalEnded {s : State} (h : s.start.intervalEnded = true) :
    (settleAll s).start.intervalEnded = true := by
  have hend : (startIntervalEnd s.lines s).start.intervalEnded = true := by
    unfold startIntervalEnd
    dsimp only
    split <;> simp [h]
  rw [settleAll_start, takeStep]
  split
  · simpa using hend
  · exact h

theorem tickGate_tripped (t : Travel) (n : Nat) : (t.tickGate n).tripped = t.tripped := by
  unfold Travel.tickGate
  (repeat' split) <;> rfl

theorem tickCore_tripped (s : State) : (tickCore s).travel.tripped = s.travel.tripped := by
  rw [tickCore_travel]
  exact tickGate_tripped _ _

theorem setLines_travel (l : Lines) (s : State) : (s.setLines l).travel = s.travel := rfl

theorem tickGrips_travel (s : State) : (tickGrips s).travel = s.travel := by simp

theorem tickAges_travel (s : State) : (tickAges s).travel = s.travel := by simp

/-- R50: an active fault line trips an ACTIVE port, which stops the cell. -/
theorem examineAmplifier_trips {s : State} (hs : s.start.strapFault = false) (hi : s.start.intervalEnded = true)
    (ht : s.travel.tripped = false) (ha : s.lines.ampFault = true) :
    examineAmplifier s = report .driveFault (s.setTravel { s.travel with tripped := true, applied := 0 }) := by
  simp [examineAmplifier, hs, hi, ht, ha]

theorem sampleTick_trips {lines : Lines} {s : State} (hs : s.start.strapFault = false)
    (hi : s.start.intervalEnded = true) (ht : s.travel.tripped = false) (ha : lines.ampFault = true) :
    ∃ u : State, u.start.strapFault = false
      ∧ sampleTick lines s = report .driveFault (u.setTravel { u.travel with tripped := true, applied := 0 }) := by
  have hstart : (forceZero (tickGrips (tickAges (tickCore ((settleAll s).setLines lines))))).start
      = (settleAll s).start := by simp
  have hlines : (forceZero (tickGrips (tickAges (tickCore ((settleAll s).setLines lines))))).lines = lines := by simp
  have htripped :
      (forceZero (tickGrips (tickAges (tickCore ((settleAll s).setLines lines))))).travel.tripped = false := by
    rw [forceZero_tripped, tickGrips_travel, tickAges_travel, tickCore_tripped, setLines_travel, settleAll_tripped, ht]
  have hstrap : (settleAll s).start.strapFault = false := by simpa using hs
  refine ⟨forceZero (tickGrips (tickAges (tickCore ((settleAll s).setLines lines)))), by rw [hstart, hstrap], ?_⟩
  rw [sampleTick]
  dsimp only
  rw [if_neg (by simp [hs])]
  exact examineAmplifier_trips (by rw [hstart, hstrap]) (by rw [hstart, settleAll_intervalEnded hi]) htripped
    (by rw [hlines, ha])

/-- R45, R50: the fault of the drive port at a tick. -/
theorem driveFault_stops {lines : Lines} {s : State} (hs : s.start.strapFault = false)
    (hi : s.start.intervalEnded = true) (ht : s.travel.tripped = false) (ha : lines.ampFault = true) :
    Next (exec (.sampleTick lines) s) fun t =>
      t.travel.tripped = true ∧ t.travel.applied = 0 ∧ t.stop.latch = true ∧ t.stop.driving = true
        ∧ t.stop.record.isSome = true ∧ t.link.stop = some .driveFault := by
  obtain ⟨u, hu, he⟩ := sampleTick_trips (lines := lines) hs hi ht ha
  have hrun : exec (.sampleTick lines) s = .next (finish s (sampleTick lines s)) := rfl
  obtain ⟨hlatch, hdriving, hline⟩ :=
    report_stops (c := .driveFault) (s := u.setTravel { u.travel with tripped := true, applied := 0 }) hu rfl
  have hrec := (report_record .driveFault (u.setTravel { u.travel with tripped := true, applied := 0 }) hu).1
  rw [hrun, he, next_iff]
  exact ⟨by simp, applied_finish_of_zero _ (by simp), by simpa using hlatch, by simpa using hdriving, by simp [hrec],
    by simpa using hline⟩

/-! ## OVERLOAD on the sample of a conversion -/

/-- R151, R153: a cell-stop fault, and at most the judgment of the tare after it, leave its STOP frame pending. -/
theorem overload_stays_pending {failed : Bool} {s : State} (hs : s.start.strapFault = false)
    (hnot : judgmentDue (report .overload s) = false) :
    (takeReport failed (report .overload s) .tareUnstable).link.stop = some .overload := by
  obtain ⟨-, -, hstop⟩ := report_stops (c := .overload) hs rfl
  have hlocal : (report .tareUnstable (report .overload s)).link.stop = (report .overload s).link.stop := by
    rw [report_eq .tareUnstable (s := report .overload s) (by simpa using hs), if_neg (by decide)]
    simp
  cases failed <;> simp [takeReport, hnot, hlocal, hstop]

/-- R84, R85: the judgment of a tare is reported with a sample only where it is due. -/
theorem tareUnstable_reported {checked overload : Bool} {r : SampleRec} {s : State}
    (h : FaultCause.tareUnstable ∈ (sampleReports checked overload s (demandRequest s) r).1) :
    judgmentDue s = true := by
  by_contra hno
  have hperm := (sampleReports_perm checked overload s (demandRequest s) r).mem_iff.1 h
  rw [Bool.not_eq_true] at hno
  rw [hno] at hperm
  rcases List.mem_append.1 (by simpa using hperm) with hf | ho
  · exact (sampleFaults_excludes hf).2 rfl
  · cases overload <;> simp [overloadFault] at ho

/-- R85, R151: OVERLOAD is the last cell stop of its sample, unless the station tares beside a latch that no run leaves
unanswered. -/
theorem moveSample_overload_pending {checked : Bool} {r : SampleRec} {s : State} (hs : s.start.strapFault = false)
    (hq : s.seq.state = .taring → Haltable s) :
    (moveSample checked true r s).link.stop = some .overload := by
  have hrun : ReportRun s (regulateSample (demandRequest s) r (reportedEarly checked true r s)) :=
    (reportRun_reportedEarly checked true r s).tail (.regulated _ r _)
  have hstrap : (regulateSample (demandRequest s) r (reportedEarly checked true r s)).start.strapFault = false := by
    rw [hrun.start, hs]
  rw [moveSample_eq]
  rcases (reports_halves checked true r s).2 with hlate | ⟨-, hlate⟩
  · rw [hlate]
    exact (report_stops (c := .overload) hstrap rfl).2.2
  · have hdue : judgmentDue s = true := by
      refine tareUnstable_reported (checked := checked) (overload := true) (r := r) ?_
      rw [← early_append_late, hlate]
      simp
    have hhalt := (hrun.keeps (P := Haltable) (fun hst => Haltable.step hst)
      (hq ((judgmentDue_iff s).1 hdue).1)).report .overload
    rw [hlate]
    exact overload_stays_pending hstrap (by rcases hhalt.1 with h | h <;> simp [judgmentDue, h])

/-- R23, R24: a sequencer that waits, or has been halted, while the sample is handled. -/
def HaltableWaiting (s : State) : Prop := Haltable s ∧ s.seq.state.actsOnSample = false

theorem haltableWaiting_kept : KeptByReports HaltableWaiting where
  reads := by
    intro s t hstart hseq hload hlatch h
    simpa only [HaltableWaiting, Haltable, TestStation, TareHalted, hstart, hseq, hload, hlatch] using h
  report := by
    rintro s c ⟨h, -⟩
    have hhalt := h.report c
    exact ⟨⟨by simpa [TestStation] using h.1, .inl hhalt⟩,
      by rcases hhalt.1 with hq | hq <;> simp [hq, SeqState.actsOnSample]⟩

theorem HaltableWaiting.counted {s : State} (h : HaltableWaiting s) :
    s.seq.state.actsOnSample = false ∧ HaltableWaiting (countSample s) :=
  ⟨h.2, by simpa [HaltableWaiting, Haltable, TestStation, TareHalted, countSample] using h⟩

theorem completeLoad_load (v : LoadView) (s : State) : (completeLoad v s).load = LoadCh.completed s v := by
  unfold completeLoad
  dsimp only
  split <;> simp [writeRecord]

theorem completed_overPrev (v : LoadView) (s : State) :
    (LoadCh.completed s v).overPrev = (s.load.overCheck && inOverload s v.gross v.reading) := by
  unfold LoadCh.completed
  dsimp only
  split <;> rfl

theorem takenSample_overPrev (v : LoadView) (s : State) :
    (takenSample v s).load.overPrev = (s.load.overCheck && inOverload s v.gross v.reading) := by
  have hload : (takenSample v s).load = (completeLoad v s).load := by simp [takenSample]
  rw [hload, completeLoad_load, completed_overPrev]

/-- R85: the states between the completion of a sample and its reports: the station, the overload mark, and a
sequencer that tares. -/
structure HandedSample (v : LoadView) (s h : State) : Prop where
  start : h.start = s.start
  overPrev : h.load.overPrev = (s.load.overCheck && inOverload s v.gross v.reading)
  taring : h.seq.state = .taring → s.seq.state = .taring
  haltable : s.seq.state = .taring → s.stop.latch = false → TestStation s → Haltable h

theorem handedSample_follow {v : LoadView} {s : State} (n : Nat) (hf : s.isFollow = true) :
    HandedSample v s (followSample ((takenSample v s).setFree n)) where
  start := by simp [takenSample]
  overPrev := by
    rw [← takenSample_overPrev]
    simp
  taring := by simp [takenSample]
  haltable := fun _ _ hs => by simp [isFollow_of_testStation hs] at hf

theorem handedSample_test {checked ended : Bool} {x : ExtView} {v : LoadView} {s h : State}
    (hh : HandledIn checked ended x v.record (takeGripsUnreported (takenSample v s)) h) : HandedSample v s h where
  start := by
    obtain ⟨n, m, ⟨-, rfl⟩ | ⟨-, rfl | rfl⟩⟩ := hh <;> simp [takenSample]
  overPrev := by
    rw [← takenSample_overPrev, (KeepsOverload.handledIn hh).1]
    unfold takeGripsUnreported
    split
    · rfl
    · exact KeepsOverload.takeGripsLow.1
  taring := fun hq => by
    have hgrips : KeepsOverload (takenSample v s) (takeGripsUnreported (takenSample v s)) := by
      unfold takeGripsUnreported
      split
      · exact .of_same rfl rfl
      · exact .takeGripsLow
    simpa [takenSample] using (hgrips.trans (KeepsOverload.handledIn hh)).2 hq
  haltable := fun hq hl hs => by
    have htaken : HaltableWaiting (takenSample v s) :=
      ⟨.of_test (s := s) (by simp [takenSample]) (by simp [takenSample]) hs hl
        (by simp [takenSample, hq, SeqState.isTest]),
        by simp [takenSample, hq, SeqState.actsOnSample]⟩
    have hgrips : HaltableWaiting (takeGripsUnreported (takenSample v s)) := by
      unfold takeGripsUnreported
      split
      · exact htaken
      · refine ⟨htaken.1.takeGripsLow, ?_⟩
        rcases takeGripsLow_cases (takenSample v s) with he | ⟨harmed, -⟩
        · rw [he]
          exact htaken.2
        · rw [harmed]
          rfl
    exact (haltableWaiting_kept.handledIn HaltableWaiting.counted hgrips hh).1

/-- R74: the sample completed goes to the sequencer of the station's role, and its faults are reported. -/
theorem completeSample_hands (reading : Int) (strain : Option Int) (s : State) :
    ∃ (checked : Bool) (h : State), HandedSample (loadView reading strain s) s h
      ∧ completeSample reading strain s = moveSample checked
          (overloadFires s (loadView reading strain s).gross (loadView reading strain s).reading)
          (loadView reading strain s).record h := by
  cases hf : s.isFollow with
  | false =>
    obtain ⟨checked, h, hh, -, he⟩ := completeSample_handles reading strain hf
    exact ⟨checked, h, handedSample_test hh, he⟩
  | true =>
    obtain ⟨n, hn⟩ := drawCheck_draws (takenSample (loadView reading strain s) s)
    have hf' : (drawCheck (takenSample (loadView reading strain s) s)).2.isFollow = true := by
      rw [hn]
      simpa [State.isFollow, takenSample] using hf
    have hhand : ∀ c x r e t, t.isFollow = true → handSample c x r e t = followSample t := fun c x r e t ht => if_pos ht
    refine ⟨(drawCheck (takenSample (loadView reading strain s) s)).1, _, handedSample_follow n hf, ?_⟩
    rw [← hn, ← hhand (drawCheck (takenSample (loadView reading strain s) s)).1
      { reading := strain.getD 0, peak := s.load.peak, inSpan := s.load.spanOpen } (loadView reading strain s).record
      ((loadView reading strain s).yieldStep == .limit) _ hf']
    rfl

/-- R85, R151: what a conversion newly in overload leaves. -/
structure Overloaded (s t : State) : Prop where
  latch : t.stop.latch = true
  driving : t.stop.driving = true
  recorded : t.stop.record.isSome = true
  mark : t.load.overPrev = true
  pending : s.seq.state ≠ .taring ∨ (s.stop.latch = false ∧ s.isFollow = false) → t.link.stop = some .overload

theorem completeSample_overloads {reading : Int} {strain : Option Int} {s : State} (hs : s.start.strapFault = false)
    (ho : overloadFires s (loadView reading strain s).gross (loadView reading strain s).reading = true) :
    Overloaded s (completeSample reading strain s) := by
  obtain ⟨checked, h, hh, he⟩ := completeSample_hands reading strain s
  rw [he, ho]
  have hs' : h.start.strapFault = false := by rw [hh.start, hs]
  obtain ⟨hrec, hstops⟩ := moveSample_reports (checked := checked) (overload := true) (c := .overload)
    (r := (loadView reading strain s).record) hs' (.inr ⟨rfl, rfl⟩)
  obtain ⟨hlatch, hdriving⟩ := hstops (by decide)
  refine ⟨hlatch, hdriving, hrec, ?_, fun hq => moveSample_overload_pending hs' fun ht => ?_⟩
  · have hin : (s.load.overCheck && inOverload s (loadView reading strain s).gross
        (loadView reading strain s).reading) = true := by
      simp only [overloadFires, Bool.and_eq_true] at ho
      simp [ho]
    rw [(KeepsOverload.run (reportRun_moveSample checked true _ h)).1, hh.overPrev, hin]
  · have hst := hh.taring ht
    obtain ⟨hl, hf⟩ := hq.resolve_left fun hne => hne hst
    exact hh.haltable hst hl ⟨hs, by simpa [State.isFollow] using hf⟩

/-- R73: a reading within the converter's span is taken as it is. -/
theorem clampReading_of_span {reading : Int} (h : reading.natAbs ≤ 1100000) : clampReading reading = reading := by
  have hlimit : clampReading reading = max (-1100000) (min 1100000 reading) := rfl
  omega

/-- R85: the conditions under which a conversion is newly in overload. -/
theorem overloadFires_of {reading : Int} {strain : Option Int} {s : State} (hc : s.load.overCheck = true)
    (hp : s.load.overPrev = false) (hr : reading.natAbs ≤ 1100000)
    (h : (s.start.config ≠ none
            ∧ 105 * s.loadCapacity
              < 100 * ((reading * (s.loadCapacity * s.load.range.percent)).tdiv 100000000).natAbs)
          ∨ (s.load.range = .r1 ∧ reading.natAbs = 1100000)) :
    overloadFires s (loadView reading strain s).gross (loadView reading strain s).reading = true := by
  have hread : (loadView reading strain s).reading = reading := clampReading_of_span hr
  have hgross : (loadView reading strain s).gross
      = (reading * (s.loadCapacity * s.load.range.percent)).tdiv 100000000 := by
    show grossLoad s.loadCapacity s.load.range (clampReading reading) = _
    rw [clampReading_of_span hr]
    rfl
  rw [overloadFires, hc, hp, hread, hgross]
  have hin : inOverload s ((reading * (s.loadCapacity * s.load.range.percent)).tdiv 100000000) reading = true := by
    rw [inOverload, Bool.or_eq_true, Bool.and_eq_true, decide_eq_true_eq]
    rcases h with ⟨hk, hb⟩ | ⟨h1, hn⟩
    · exact .inl ⟨Option.isSome_iff_ne_none.2 hk, hb⟩
    · exact .inr (by simp [h1, saturated, hn, readingLimit])
  simp [hin]

theorem overload_stops {c : Instr} {reading : Int} {s : State}
    (hc : (LoadEnds s ∧ c = .loadConversionEnd reading)
      ∨ (StrainEnds s ∧ s.load.reading = some reading ∧ ∃ strain, c = .strainConversionEnd strain))
    (hs : s.start.strapFault = false) (hcheck : s.load.overCheck = true) (hp : s.load.overPrev = false)
    (hr : reading.natAbs ≤ 1100000)
    (h : (s.start.config ≠ none
            ∧ 105 * s.loadCapacity
              < 100 * ((reading * (s.loadCapacity * s.load.range.percent)).tdiv 100000000).natAbs)
          ∨ (s.load.range = .r1 ∧ reading.natAbs = 1100000)) :
    ∃ t, exec c s = .next (finish s t) ∧ Overloaded s t := by
  rcases hc with ⟨hl, rfl⟩ | ⟨hl, hread, strain, rfl⟩
  · refine ⟨completeSample reading none s, ?_, completeSample_overloads hs (overloadFires_of hcheck hp hr h)⟩
    rw [← loadConversionEnd_completes reading hl]
    rfl
  · have hload : (countSettling (clampReading strain) s).load = s.load := by simp
    have hstart : (countSettling (clampReading strain) s).start = s.start := by simp
    have hcap := loadCapacity_of_start hstart
    have hover := completeSample_overloads (reading := reading) (strain := some (clampReading strain))
      (s := countSettling (clampReading strain) s) (by rw [hstart, hs])
      (overloadFires_of (by rw [hload, hcheck]) (by rw [hload, hp]) hr (by rwa [hload, hstart, hcap]))
    refine ⟨completeSample reading (some (clampReading strain)) (countSettling (clampReading strain) s), ?_,
      hover.latch, hover.driving, hover.recorded, hover.mark, by simpa [State.isFollow] using hover.pending⟩
    rw [← strainConversionEnd_completes strain hl hread]
    rfl

/-- Settles O25: the fault line trips the port at the tick (`sampleTick_trips`), and OVERLOAD is the last cell stop that
the sample of its conversion reports (`moveSample_overload_pending`). -/
theorem driveFaultAndOverloadStopCell : Obligations.DriveFaultAndOverloadStopCell := by
  unfold Obligations.DriveFaultAndOverloadStopCell
  refine ⟨fun lines s hs hi ht ha => driveFault_stops hs hi ht ha, fun c reading s hc hs hcheck hp hr h => ?_⟩
  obtain ⟨t, he, hover⟩ := overload_stops hc hs hcheck hp hr h
  rw [he, next_iff]
  exact ⟨by simpa using hover.latch, by simpa using hover.driving, by simpa using hover.recorded,
    by rw [applied_finish, if_pos (forced_of_recorded hover.recorded)], by simpa using hover.mark,
    fun hq => by simpa using hover.pending hq⟩
end Sys2Proof.Proofs
end

section
namespace Sys2Proof.Proofs
open Sys2Proof.Machine Sys2Proof.Safety Sys2Proof.Laws

/-! ## The follow sequencer -/

theorem lost_of_mirror {p : Pair} {m : Level} (h : p.mirror = some m) : p.lost = true ↔ 12 < p.age := by
  simp [lost_iff, h]

/-- R61: a mirror that is heard is not lost. -/
theorem not_lost_of_fresh {p : Pair} {m : Level} (h : p.mirror = some m) (ha : p.age ≤ 12) : p.lost = false := by
  rw [← Bool.not_eq_true, lost_of_mirror h]
  omega

theorem isFollowActive_iff (q : SeqState) :
    q.isFollowActive = true ↔ q = .followClaim ∨ q = .following ∨ q = .held := by
  cases q <;> simp [SeqState.isFollowActive]

/-! ### The loss of the partner -/

/-- R67: IDLE as the loss and a resting lead bring it about. -/
@[simp] theorem idleFollow_sets (s : State) :
    (idleFollow s).budget.requested = 0 ∧ (idleFollow s).budget.reason = .release := by
  simp [idleFollow]

/-- R136, R139: the own units go back in a GRANT that waits for no other. -/
theorem idleFollow_grant {s : State} (hg : s.link.grantInFlight = none) (hown : s.ownEntry ≠ 0)
    (hc : s.start.config ≠ none) :
    (idleFollow s).link.grant = some { units := 0, reason := .release, raise := false } := by
  have hflight : ((restFollow s).setBudget
      { (restFollow s).budget with requested := 0, reason := .release }).link.grantInFlight = none := by
    simpa [Link.grantInFlight] using hg
  have hentry : ((restFollow s).setBudget
      { (restFollow s).budget with requested := 0, reason := .release }).ownEntry = s.ownEntry := by
    simp [State.ownEntry, Budget.entry]
  rw [idleFollow, requestUnits, judgeRequest_grant _ hflight, hentry]
  simp [State.configured, Option.isSome_iff_ne_none.2 hc, hown.symm, Nat.pos_of_ne_zero hown]

/-- R61: a lost partner holds an active follow. -/
theorem partnerLost_holds {s : State} (hf : s.isFollow = true) (hl : s.pair.lost = true)
    (hq : s.follow.state.isFollowActive = true) : partnerLost s = s.setFollow { s.follow with state := .held } := by
  simp [partnerLost, hf, hl, hq]

theorem exec_partnerLoss {s : State} (hp : PortSafe s) (hf : s.isFollow = true) (hl : s.pair.lost = true)
    (hq : s.follow.state.isFollowActive = true) :
    exec .partnerLoss s = .next (s.setFollow { s.follow with state := .held }) := by
  have hforced : forced s = true := by simp [forced, hf, hl]
  show Host.Outcome.next (finish s (partnerLost s)) = _
  rw [partnerLost_holds hf hl hq]
  exact congrArg _ (finish_eq s (s.setFollow { s.follow with state := .held }) rfl fun _ => hp hforced)

theorem followLossExpired_idles {s : State} (hf : s.isFollow = true) (hq : s.follow.state = .held)
    (hl : 600000 ≤ s.follow.lossSamples * s.period) : followLossExpired s = idleFollow s := by
  have hlimit : lossLimit ≤ s.follow.lossSamples * s.period := hl
  simp [followLossExpired, hf, hq, hlimit]

/-- Settles O33: the port of a follow whose partner is lost is at zero already, and 60 s of loss are an entry to
IDLE. -/
theorem followLosesItsPartner : Obligations.FollowLosesItsPartner := by
  unfold Obligations.FollowLosesItsPartner
  refine ⟨fun s hp hf hl hq => exec_partnerLoss hp hf hl ((isFollowActive_iff _).2 hq), fun s hf hq hl => ?_⟩
  have he : exec .followLossTimeout s = .next (finish s (idleFollow s)) := by
    rw [← followLossExpired_idles hf hq hl]
    rfl
  rw [he, next_iff]
  exact ⟨by simp, by simp, by simp, by simp [idleFollow], by simp [idleFollow], by simp, by simp, by simp,
    fun hg hown hc => by simpa using idleFollow_grant hg hown hc⟩

/-! ### The sample by the lead's state -/

/-- R65: a lead that claims gives the share, and a share that is new is asked for. -/
theorem updateShare_claims {m : Level} {s : State} (h : m.state.claims = true) :
    (updateShare m s).follow = { s.follow with share := m.share, asked := m.share }
      ∧ (m.share ≠ s.follow.asked → (updateShare m s).budget.requested = m.share
          ∧ (updateShare m s).budget.reason = .follow) := by
  rw [updateShare, if_pos h]
  split
  · rename_i he
    exact ⟨by simp [he], fun hne => absurd he hne⟩
  · exact ⟨by simp, fun _ => requestUnits_sets _ _ _⟩

theorem updateShare_waits {m : Level} {s : State} (h : m.state.claims = false) : updateShare m s = s := by
  simp [updateShare, h]

theorem updateShare_ownEntry (m : Level) (s : State) : (updateShare m s).ownEntry = s.ownEntry := by
  unfold updateShare
  (repeat' split) <;> simp [State.ownEntry, Budget.entry]

@[simp] theorem followTo_sets (q : SeqState) (s : State) :
    (followTo q s).follow = { s.follow with state := q, lossSamples := 0 } := by
  simp [followTo]

/-- R66: the states of a lead that moves nothing, before a claim and after its test. -/
theorem followLead_rests {m : Level} (s : State)
    (h : m.state.code ≤ 4 ∨ (10 ≤ m.state.code ∧ m.state.code ≤ 12)) :
    followLead m s = idleFollow s := by
  unfold followLead
  cases hq : m.state <;> simp_all [SeqState.code]

theorem followLead_holds {m : Level} (s : State) (h : m.state = .held ∨ m.state = .ending) :
    followLead m s = followTo .held s := by
  rcases h with h | h <;> simp [followLead, h]

theorem followLead_claims {m : Level} (s : State) (h : m.state = .claiming) :
    followLead m s = followTo .followClaim s := by
  simp [followLead, h]

theorem followLead_moves {m : Level} (s : State) (h : m.state = .running ∨ m.state = .returning) :
    followLead m s = followTo (if s.follow.share ≤ s.ownEntry then .following else .followClaim) s := by
  rcases h with h | h <;> simp only [followLead, h] <;> split <;> rfl

theorem claims_iff (q : SeqState) :
    q.claims = true ↔ q = .claiming ∨ q = .held ∨ q = .running ∨ q = .returning := by
  cases q <;> simp [SeqState.claims]

/-- R64: a lead at rest does not claim. -/
theorem claims_of_rest {q : SeqState} (h : q.code ≤ 4 ∨ (10 ≤ q.code ∧ q.code ≤ 12)) : q.claims = false := by
  cases q <;> simp_all [SeqState.code, SeqState.claims]

/-- R66: a follow acts on a lead that claims from one of its own states, which it enters with no loss. -/
theorem followLead_of_claims {m : Level} (s : State) (h : m.state.claims = true) :
    ∃ q, followLead m s = followTo q s := by
  rcases (claims_iff _).1 h with h | h | h
  · exact ⟨_, followLead_claims s h⟩
  · exact ⟨_, followLead_holds s (.inl h)⟩
  · exact ⟨_, followLead_moves s h⟩

/-- R65, R66: what a mirror of this content, heard in time, makes of an active follow. -/
structure FollowsLead (m : Level) (s t : State) : Prop where
  rests : m.state.code ≤ 4 ∨ (10 ≤ m.state.code ∧ m.state.code ≤ 12) → t = idleFollow s
  holds : m.state = .held ∨ m.state = .ending → t.follow.state = .held ∧ t.follow.lossSamples = 0
  waits : m.state = .claiming → t.follow.state = .followClaim
  moves : m.state = .running ∨ m.state = .returning →
    t.follow.state = if m.share ≤ s.ownEntry then .following else .followClaim
  shares : m.state.claims = true → t.follow.share = m.share ∧ t.follow.asked = m.share
    ∧ (m.share ≠ s.follow.asked → t.budget.requested = m.share ∧ t.budget.reason = .follow)

theorem followActive_heard {m : Level} {s : State} (hm : s.pair.mirror = some m) (ha : s.pair.age ≤ 12) :
    followActive s = followLead m (updateShare m s) := by
  simp [followActive, not_lost_of_fresh hm ha, hm]

theorem followActive_follows {m : Level} {s : State} (hm : s.pair.mirror = some m) (ha : s.pair.age ≤ 12) :
    FollowsLead m s (followActive s) := by
  rw [followActive_heard hm ha]
  refine ⟨fun h => ?_, fun h => ?_, fun h => ?_, fun h => ?_, fun h => ?_⟩
  · rw [updateShare_waits (claims_of_rest h), followLead_rests s h]
  · simp [followLead_holds _ h]
  · simp [followLead_claims _ h]
  · obtain ⟨hshare, -⟩ := updateShare_claims (m := m) (s := s) ((claims_iff _).2 (.inr (.inr h)))
    rw [followLead_moves _ h, updateShare_ownEntry m s, hshare, followTo_sets]
  · obtain ⟨hshare, hasked⟩ := updateShare_claims (s := s) h
    obtain ⟨q, he⟩ := followLead_of_claims (updateShare m s) h
    rw [he]
    exact ⟨by simp [hshare], by simp [hshare], by simpa using hasked⟩

theorem followActive_lost {s : State} (h : s.pair.lost = true) :
    (followActive s).follow = { s.follow with state := .held, lossSamples := s.follow.lossSamples + 1 } := by
  simp [followActive, h, followLost]

theorem followSample_active {s : State} (h : s.follow.state.isFollowActive = true) :
    followSample s = followActive s := by
  rcases (isFollowActive_iff _).1 h with h | h | h <;> simp [followSample, h]

/-- R64: what lets an IDLE follow claim. -/
theorem followMayClaim_iff (s : State) : followMayClaim s = true ↔ s.pair.age ≤ 12 ∧ s.stop.latch = false
    ∧ s.stop.record = none ∧ s.start.intervalEnded = true
    ∧ ∃ m, s.pair.mirror = some m ∧ m.state.claims = true := by
  have hfresh : decide (mirrorFresh < s.pair.age) = false ↔ s.pair.age ≤ 12 := by
    rw [decide_eq_false_iff_not, Nat.not_lt]
    rfl
  unfold followMayClaim
  cases hm : s.pair.mirror <;> simp [Pair.lost, StopFault.locked, hm, hfresh, and_assoc]

theorem followSample_claims {s : State} (hq : s.follow.state = .idle) (h : followMayClaim s = true) :
    followSample s = followActive (followTo .followClaim s) := by
  simp [followSample, hq, h]

theorem followSample_idles {s : State} (hq : s.follow.state = .idle) (h : followMayClaim s = false) :
    followSample s = s := by
  simp [followSample, hq, h]

theorem followSample_rests {s : State}
    (h : s.follow.state = .unconfigured ∨ s.follow.state = .stopped ∨ s.follow.state = .faulted) :
    followSample s = s := by
  rcases h with h | h | h <;> simp [followSample, h]

/-- R64 to R66: the claim of an IDLE follow answers the lead that it hears. -/
theorem followSample_claims_follows {m : Level} {s : State} (hq : s.follow.state = .idle)
    (hm : s.pair.mirror = some m) (ha : s.pair.age ≤ 12) (hc : m.state.claims = true) (hl : s.stop.latch = false)
    (hr : s.stop.record = none) (hi : s.start.intervalEnded = true) :
    FollowsLead m (followTo .followClaim s) (followSample s) := by
  rw [followSample_claims hq ((followMayClaim_iff s).2 ⟨ha, hl, hr, hi, m, hm, hc⟩)]
  exact followActive_follows (by simpa using hm) (by simpa using ha)

/-- R70, R74: the sample that a FOLLOW station completes goes to the follow sequencer. -/
theorem exec_loadConversionEnd_follow {reading : Int} {s : State} (hf : s.isFollow = true) (hl : LoadEnds s) :
    exec (.loadConversionEnd reading) s = .next (finish s (moveSample false
      (overloadFires s (loadView reading none s).gross (loadView reading none s).reading)
      (loadView reading none s).record (followSample (takenSample (loadView reading none s) s)))) := by
  have hrole : (takenSample (loadView reading none s) s).start.role = .follow := by
    simpa [State.isFollow, takenSample] using hf
  have hcheck : drawCheck (takenSample (loadView reading none s) s)
      = (false, takenSample (loadView reading none s) s) := by
    simp [drawCheck, partnerSuspect, hrole]
  have hhand : ∀ c x r e t, t.start.role = .follow → handSample c x r e t = followSample t := by
    intro c x r e t ht
    simp [handSample, State.isFollow, ht]
  show Host.Outcome.next (finish s (loadConversionEnd reading s)) = _
  rw [loadConversionEnd_completes reading hl, ← hhand false
    { reading := 0, peak := s.load.peak, inSpan := s.load.spanOpen } (loadView reading none s).record
    ((loadView reading none s).yieldStep == .limit) _ hrole]
  unfold takenSample at hcheck ⊢
  simp only [completeSample, hcheck, Option.getD_none]

/-- Settles O34: the sample of an active follow by the lead's state (`FollowsLead`), which the claim from IDLE meets as
FOLLOW_CLAIM does. -/
theorem followTracksLead : Obligations.FollowTracksLead := by
  unfold Obligations.FollowTracksLead
  refine ⟨fun m s hm hq => ?_, fun s hq => ⟨fun m hm ha hc hl hr hi => ?_, fun h => ?_⟩, fun s hm hq => ?_,
    fun s h => followSample_rests h, fun reading s hf hl => exec_loadConversionEnd_follow hf hl⟩
  · rw [followSample_active ((isFollowActive_iff _).2 hq)]
    have hfollows : s.pair.age ≤ 12 → FollowsLead m s (followActive s) := followActive_follows hm
    refine ⟨fun ha => followActive_lost ((lost_of_mirror hm).2 ha), fun ha h => ?_, fun ha => (hfollows ha).holds,
      fun ha => (hfollows ha).waits, fun ha => (hfollows ha).moves, fun ha => (hfollows ha).shares⟩
    simp [(hfollows ha).rests h]
  · have hfollows := followSample_claims_follows hq hm ha hc hl hr hi
    have hown : (followTo .followClaim s).ownEntry = s.ownEntry := by simp [State.ownEntry]
    obtain ⟨hshare, hasked, hreq⟩ := hfollows.shares hc
    exact ⟨hshare, hasked, by simpa using hreq, hfollows.waits, fun h => (hfollows.holds (.inl h)).1,
      fun h => by rw [hfollows.moves h, hown]⟩
  · refine followSample_idles hq (Bool.eq_false_iff.2 fun hmay => ?_)
    obtain ⟨ha, hl, hr, hi, m, hm, hc⟩ := (followMayClaim_iff s).1 hmay
    rcases h with h | h | ⟨m', hm', hc'⟩ | h | h | h
    · simp [h] at hm
    · omega
    · obtain rfl : m' = m := Option.some.inj (hm'.symm.trans hm)
      simp [hc] at hc'
    · simp [h] at hl
    · exact h hr
    · simp [h] at hi
  · rw [followSample_active ((isFollowActive_iff _).2 hq)]
    exact followActive_lost ((lost_iff _).2 (.inl hm))

end Sys2Proof.Proofs
end


section
namespace Sys2Proof.Proofs
open Sys2Proof.Machine Sys2Proof.Safety Sys2Proof.Laws

/-! ## Skew, trim and the alarm -/

/-- R63: the running count is the last that a sample changes in the pair unit. -/
@[simp] theorem countRunning_fields (s : State) :
    (countRunning s).pair.mirror = s.pair.mirror ∧ (countRunning s).pair.age = s.pair.age
      ∧ (countRunning s).pair.skew = s.pair.skew ∧ (countRunning s).pair.skewKnown = s.pair.skewKnown
      ∧ (countRunning s).pair.trim = s.pair.trim ∧ (countRunning s).pair.alarmed = s.pair.alarmed := by
  unfold countRunning
  split <;> simp

/-- R57: the mirror gives a skew where it is fresh enough and neither side is UNCONFIGURED. -/
theorem skewSource_some {s : State} {m : Level} (hm : s.pair.mirror = some m) (ha : s.pair.age ≤ 8)
    (hown : s.ownState ≠ .unconfigured) (hother : m.state ≠ .unconfigured) : skewSource s = some m := by
  rw [skewSource, hm]
  exact if_pos ⟨ha, hown, hother⟩

theorem skewSource_none {s : State} {m : Level} (hm : s.pair.mirror = some m)
    (h : 8 < s.pair.age ∨ s.ownState = .unconfigured ∨ m.state = .unconfigured) : skewSource s = none := by
  rw [skewSource, hm]
  refine if_neg fun ⟨ha, hown, hother⟩ => ?_
  rcases h with h | h | h
  · exact absurd ha (Nat.not_le.2 h)
  · exact hown h
  · exact hother h

/-- R57, R58: the pair unit with the skew of this value. -/
def skewTaken (v : Int) (s : State) : State :=
  s.setPair { s.pair with skew := v, skewKnown := true, trim := trimOf s v }

@[simp] theorem skewTaken_fields (v : Int) (s : State) :
    (skewTaken v s).pair.skew = v ∧ (skewTaken v s).pair.skewKnown = true ∧ (skewTaken v s).pair.trim = trimOf s v
      ∧ (skewTaken v s).pair.alarmed = s.pair.alarmed ∧ (skewTaken v s).link = s.link
      ∧ (skewTaken v s).skewAlarm = s.skewAlarm :=
  ⟨rfl, rfl, rfl, rfl, rfl, rfl⟩

theorem computeSkew_known {s : State} {m : Level} (r : SampleRec) (h : skewSource s = some m) :
    computeSkew r s = skewTaken (clamp32 (m.position - r.position)) s := by
  simp [computeSkew, h, skewTaken]

theorem computeSkew_unknown {s : State} (r : SampleRec) (h : skewSource s = none) :
    computeSkew r s = s.setPair { s.pair with skewKnown := false, trim := 0 } := by
  simp [computeSkew, h]

/-- R59: the alarm follows a known skew. -/
theorem judgeAlarm_sets {s : State} (h : s.pair.skewKnown = true) :
    (judgeAlarm s).pair = { s.pair with alarmed := decide (s.skewAlarm < s.pair.skew.natAbs) } := by
  unfold judgeAlarm
  rw [if_pos h]
  by_cases hb : s.skewAlarm < s.pair.skew.natAbs
  · rw [if_pos hb]
    cases ha : s.pair.alarmed
    · simp [hb]
    · simp [← ha, hb]
  · simp [hb]

theorem judgeAlarm_stays {s : State} (h : s.pair.skewKnown = false) : judgeAlarm s = s := by
  simp [judgeAlarm, h]

/-- R59: the skew that begins to be beyond the alarm is a notice. -/
theorem judgeAlarm_begins {s : State} (h : s.pair.skewKnown = true) (ha : s.pair.alarmed = false)
    (hb : s.skewAlarm < s.pair.skew.natAbs) :
    judgeAlarm s = pushNotice (.skewAlarm s.pair.skew) (s.setPair { s.pair with alarmed := true }) := by
  simp [judgeAlarm, h, hb, ha]

theorem judgeAlarm_link {s : State} (h : s.pair.alarmed = true ∨ ¬s.skewAlarm < s.pair.skew.natAbs) :
    (judgeAlarm s).link = s.link := by
  unfold judgeAlarm
  split_ifs <;> simp_all

theorem pairSample_of_paired {s : State} (r : SampleRec) (h : s.paired = true) :
    pairSample r s = countRunning (judgeAlarm (computeSkew r s)) := by
  simp [pairSample, h]

/-- R57 to R59: a sample of a known skew. -/
theorem pairSample_known {s : State} {m : Level} (r : SampleRec) (hp : s.paired = true) (h : skewSource s = some m) :
    let v := clamp32 (m.position - r.position)
    let t := pairSample r s
    (t.pair.skewKnown = true ∧ t.pair.skew = v ∧ t.pair.trim = trimOf s v
        ∧ t.pair.alarmed = decide (s.skewAlarm < v.natAbs))
      ∧ (s.link.notices.length < 8 → s.pair.alarmed = false → s.skewAlarm < v.natAbs →
          t.link.notices = s.link.notices ++ [{ kind := .skewAlarm v, index := s.lastIndex }])
      ∧ (s.pair.alarmed = true ∨ ¬s.skewAlarm < v.natAbs → t.link = s.link) := by
  intro v t
  have ht : t = countRunning (judgeAlarm (skewTaken v s)) := by
    rw [show t = pairSample r s from rfl, pairSample_of_paired r hp, computeSkew_known r h]
  have hpair := judgeAlarm_sets (s := skewTaken v s) (by simp)
  rw [ht]
  refine ⟨⟨by simp [hpair], by simp [hpair], by simp [hpair], by simp [hpair]⟩, fun hlen ha hb => ?_, fun hq => ?_⟩
  · have hstep := judgeAlarm_begins (s := skewTaken v s) (by simp) (by simpa using ha) (by simpa using hb)
    have hcount : ∀ u : State, (countRunning u).link = u.link := by simp
    rw [hcount, hstep]
    exact pushNotice_notices (s := (skewTaken v s).setPair { (skewTaken v s).pair with alarmed := true }) _ hlen
  · simpa using judgeAlarm_link (s := skewTaken v s) (by simpa using hq)

/-- R57, R58: a sample without a skew has no trim, and the alarm stays. -/
theorem pairSample_unknown {s : State} (r : SampleRec) (hp : s.paired = true) (h : skewSource s = none) :
    let t := pairSample r s
    t.pair.skewKnown = false ∧ t.pair.trim = 0 ∧ t.pair.skew = s.pair.skew ∧ t.pair.alarmed = s.pair.alarmed
      ∧ t.link = s.link := by
  rw [pairSample_of_paired r hp, computeSkew_unknown r h, judgeAlarm_stays (by simp)]
  simp

/-- Settles O35: the mirror gives a skew (`pairSample_known`) or none (`pairSample_unknown`). -/
theorem skewTrimAndAlarm : Obligations.SkewTrimAndAlarm := by
  unfold Obligations.SkewTrimAndAlarm
  intro r m s hp hm
  refine ⟨fun ha hown hother => ?_, fun h => pairSample_unknown r hp (skewSource_none hm h)⟩
  obtain ⟨⟨hknown, hskew, htrim, halarm⟩, hnotices, hlink⟩ :=
    pairSample_known r hp (skewSource_some hm ha hown hother)
  rw [hskew, htrim, halarm]
  refine ⟨hknown, rfl, rfl, rfl, fun hlen hoff hon => ?_, fun h => hlink ?_⟩
  · exact hnotices hlen hoff (of_decide_eq_true hon)
  · exact h.imp_right of_decide_eq_false

end Sys2Proof.Proofs
end


section
namespace Sys2Proof.Proofs
open Sys2Proof.Machine Sys2Proof.Safety Sys2Proof.Laws

/-! ## The bytes of a LEVEL -/

theorem role_ofCode_iff (n : Nat) (r : Role) : Role.ofCode n = some r ↔ n = r.code := by
  refine ⟨fun h => ?_, ?_⟩
  · unfold Role.ofCode at h
    split at h <;> simp at h <;> subst h <;> rfl
  · rintro rfl
    cases r <;> rfl

theorem seqState_ofCode_iff (n : Nat) (q : SeqState) : SeqState.ofCode n = some q ↔ n = q.code := by
  refine ⟨fun h => ?_, ?_⟩
  · unfold SeqState.ofCode at h
    split at h <;> simp at h <;> subst h <;> rfl
  · rintro rfl
    cases q <;> rfl

theorem moveKind_ofCode_iff (n : Nat) (k : MoveKind) : MoveKind.ofCode n = some k ↔ n = k.code := by
  refine ⟨fun h => ?_, ?_⟩
  · unfold MoveKind.ofCode at h
    split at h <;> simp at h <;> subst h <;> rfl
  · rintro rfl
    cases k <;> rfl

/-- R180: the 17 bytes of a lead's LEVEL are read as this. -/
structure LeadLevelRead (bs : List Byte) (m : Level) : Prop where
  length : bs.length = 17
  role : m.role = .lead
  roleCode : beNat (slice bs 0 1) = Role.lead.code
  position : m.position = beInt (slice bs 1 4)
  demand : m.demand = beInt (slice bs 5 4)
  stateCode : beNat (slice bs 9 1) = m.state.code
  phase : m.phase = beNat (slice bs 10 1)
  kindCode : beNat (slice bs 11 1) = m.kind.code
  share : m.share = beNat (slice bs 12 1)
  index : m.index = BitVec.ofNat 32 (beNat (slice bs 13 4))

/-- R180: the 6 bytes of a follow's LEVEL are read as this. -/
structure FollowLevelRead (bs : List Byte) (m : Level) : Prop where
  length : bs.length = 6
  roleCode : beNat (slice bs 0 1) = Role.follow.code
  stateCode : beNat (slice bs 5 1) = m.state.code
  content : m = { role := .follow, position := beInt (slice bs 1 4), demand := 0, state := m.state, phase := 0,
                  kind := .none, share := 0, index := 0 }

theorem parseLevel_of_leadRead {bs : List Byte} {m : Level} (h : LeadLevelRead bs m) : parseLevel bs = some m := by
  obtain ⟨role, position, demand, state, phase, kind, share, index⟩ := m
  obtain ⟨hlen, hrole, hcode, hpos, hdem, hstate, hphase, hkind, hshare, hindex⟩ := h
  simp only [parseLevel, (role_ofCode_iff _ _).2 hcode, (seqState_ofCode_iff _ _).2 hstate,
    (moveKind_ofCode_iff _ _).2 hkind, if_pos hlen]
  simp_all

theorem parseLevel_of_followRead {bs : List Byte} {m : Level} (h : FollowLevelRead bs m) : parseLevel bs = some m := by
  simp only [parseLevel, (role_ofCode_iff _ _).2 h.roleCode, (seqState_ofCode_iff _ _).2 h.stateCode, if_pos h.length]
  exact congrArg some h.content.symm

/-- R180: a payload is read as a lead's LEVEL or as a follow's. -/
theorem parseLevel_reads {bs : List Byte} {m : Level} (h : parseLevel bs = some m) :
    LeadLevelRead bs m ∨ FollowLevelRead bs m := by
  unfold parseLevel at h
  split at h
  next hrole =>
    split at h
    next hlen =>
      split at h
      next hstate hkind =>
        simp only [Option.some.injEq] at h
        subst h
        exact .inl ⟨hlen, rfl, (role_ofCode_iff _ _).1 hrole, rfl, rfl, (seqState_ofCode_iff _ _).1 hstate, rfl,
          (moveKind_ofCode_iff _ _).1 hkind, rfl, rfl⟩
      next => simp at h
    next => simp at h
  next hrole =>
    split at h
    next hlen =>
      split at h
      next hstate =>
        simp only [Option.some.injEq] at h
        subst h
        exact .inr ⟨hlen, (role_ofCode_iff _ _).1 hrole, (seqState_ofCode_iff _ _).1 hstate, rfl⟩
      next => simp at h
    next => simp at h
  next => simp at h

theorem levelLayout_lead {m : Level} (h : m.role = .lead) : levelLayout m
    = natBytes 1 2 ++ intBytes m.position ++ intBytes m.demand ++ natBytes 1 m.state.code ++ natBytes 1 m.phase
      ++ natBytes 1 m.kind.code ++ natBytes 1 m.share ++ wordBytes m.index := if_pos h

theorem levelLayout_follow {m : Level} (h : m.role = .follow) :
    levelLayout m = natBytes 1 3 ++ intBytes m.position ++ natBytes 1 m.state.code := if_neg (by simp [h])

/-- R54, R180: what a station sends as its LEVEL. -/
theorem level_payload {m : Level} (h : LevelFits m) : (OutFrame.level m).payload = levelLayout m := by
  obtain ⟨-, ⟨hrole, -⟩ | ⟨hrole, -⟩⟩ := h
  · simp [levelLayout_lead hrole, OutFrame.payload, Level.payload, hrole, Role.code]
  · simp [levelLayout_follow hrole, OutFrame.payload, Level.payload, hrole, Role.code]

theorem leadRead_levelLayout {m : Level} (hrole : m.role = .lead) (hpos : Signed32 m.position)
    (hdem : Signed32 m.demand) (hphase : m.phase < 256) (hshare : m.share < 256) :
    LeadLevelRead (levelLayout m) m := by
  rw [levelLayout_lead hrole]
  exact ⟨by simp [natBytes_length, intBytes, wordBytes], hrole, beNat_natBytes 1 (by decide),
    (beInt_intBytes hpos).symm, (beInt_intBytes hdem).symm, beNat_natBytes 1 (by cases m.state <;> decide),
    (beNat_natBytes 1 hphase).symm, beNat_natBytes 1 (by cases m.kind <;> decide), (beNat_natBytes 1 hshare).symm,
    (beNat_wordBytes m.index).symm⟩

theorem followRead_levelLayout {m : Level} (hrole : m.role = .follow) (hpos : Signed32 m.position)
    (hrest : m.demand = 0 ∧ m.phase = 0 ∧ m.kind = .none ∧ m.share = 0 ∧ m.index = 0) :
    FollowLevelRead (levelLayout m) m := by
  obtain ⟨hdem, hphase, hkind, hshare, hindex⟩ := hrest
  rw [levelLayout_follow hrole]
  refine ⟨by simp [natBytes_length, intBytes], beNat_natBytes 1 (by decide),
    beNat_natBytes 1 (by cases m.state <;> decide), ?_⟩
  have hread : beInt (slice (natBytes 1 3 ++ intBytes m.position ++ natBytes 1 m.state.code) 1 4) = m.position :=
    beInt_intBytes hpos
  rw [hread, ← hrole, ← hdem]
  obtain ⟨role, position, demand, state, phase, kind, share, index⟩ := m
  simp_all

/-- R54, R180: a LEVEL that fits is read as it was sent. -/
theorem parseLevel_levelLayout {m : Level} (h : LevelFits m) : parseLevel (levelLayout m) = some m := by
  obtain ⟨hpos, ⟨hrole, hdem, hphase, hshare⟩ | ⟨hrole, hrest⟩⟩ := h
  · exact parseLevel_of_leadRead (leadRead_levelLayout hrole hpos hdem hphase hshare)
  · exact parseLevel_of_followRead (followRead_levelLayout hrole hpos hrest)

theorem LeadLevelRead.layout {bs : List Byte} {m : Level} (h : LeadLevelRead bs m) : bs = levelLayout m := by
  have hlen := h.length
  have hlast : slice bs 13 4 = bs.drop 13 := List.take_of_length_le (by simp [hlen])
  have hrole : beNat (slice bs 0 1) = 2 := h.roleCode
  rw [levelLayout_lead h.role, ← hrole, h.position, h.demand, ← h.stateCode, h.phase, ← h.kindCode, h.share, h.index]
  rw [natBytes_slice (by omega), intBytes_slice (by omega), intBytes_slice (by omega), natBytes_slice (by omega),
    natBytes_slice (by omega), natBytes_slice (by omega), natBytes_slice (by omega),
    wordBytes_beNat (slice_length (by omega))]
  simp only [List.append_assoc]
  simp only [hlast, slice_append_drop, List.drop_zero]

theorem FollowLevelRead.layout {bs : List Byte} {m : Level} (h : FollowLevelRead bs m) : bs = levelLayout m := by
  have hlen := h.length
  have hlast : slice bs 5 1 = bs.drop 5 := List.take_of_length_le (by simp [hlen])
  have hrole : beNat (slice bs 0 1) = 3 := h.roleCode
  have hpos : m.position = beInt (slice bs 1 4) := congrArg Level.position h.content
  rw [levelLayout_follow (congrArg Level.role h.content), ← hrole, hpos, ← h.stateCode]
  rw [natBytes_slice (by omega), intBytes_slice (by omega), natBytes_slice (by omega)]
  simp only [List.append_assoc, hlast, slice_append_drop, List.drop_zero]

theorem LeadLevelRead.fits {bs : List Byte} {m : Level} (h : LeadLevelRead bs m) : LevelFits m :=
  ⟨h.position ▸ signed32_beInt _, .inl ⟨h.role, h.demand ▸ signed32_beInt _, h.phase ▸ beNat_slice_lt bs 10 1,
    h.share ▸ beNat_slice_lt bs 12 1⟩⟩

theorem FollowLevelRead.fits {bs : List Byte} {m : Level} (h : FollowLevelRead bs m) : LevelFits m := by
  rw [h.content]
  exact ⟨signed32_beInt _, .inr ⟨rfl, rfl, rfl, rfl, rfl, rfl⟩⟩

/-- R180: no other bytes are a LEVEL. -/
theorem levelLayout_of_parseLevel {bs : List Byte} {m : Level} (h : parseLevel bs = some m) :
    bs = levelLayout m ∧ LevelFits m :=
  (parseLevel_reads h).elim (fun hl => ⟨hl.layout, hl.fits⟩) fun hf => ⟨hf.layout, hf.fits⟩

/-! ## A LEVEL that is heard -/

/-- R55: the LEVEL is that of the partner in the other role. -/
def FromPartner (f : RxFrame) (m : Level) (s : State) : Prop :=
  f.sender.toNat = s.start.partner ∧ f.sender ≠ 0
    ∧ ((s.start.role = .lead ∧ m.role = .follow) ∨ (s.start.role = .follow ∧ m.role = .lead))

theorem levelAct_takes {f : RxFrame} {m : Level} {s : State} (hm : parseLevel f.payload = some m)
    (h : FromPartner f m s) : levelAct f s = takeLevel m s := by
  obtain ⟨hpartner, hstation, hrole⟩ := h
  have hsent : fromStation f = true := by simpa [fromStation] using hstation
  have hother : otherRole s m = true := by simpa [otherRole] using hrole
  simp [levelAct, hm, hsent, hpartner, hother]

theorem levelAct_leaves {f : RxFrame} {s : State} (h : ∀ m, parseLevel f.payload = some m → ¬FromPartner f m s) :
    levelAct f s = s := by
  unfold levelAct
  split
  · rfl
  next m hm =>
    refine if_neg fun hc => h m hm ?_
    simpa [FromPartner, fromStation, otherRole, and_assoc, and_comm, and_left_comm] using hc

/-- R55, R63: the mirror, its age, and what makes the partner one that has joined. -/
theorem takeLevel_pair (m : Level) (s : State) :
    (takeLevel m s).pair = { s.pair with mirror := some m, age := 0, joined := (takeLevel m s).pair.joined }
      ∧ ((takeLevel m s).pair.joined = true ↔ s.pair.joined = true
          ∨ (s.start.role = .lead ∧ s.seq.state.isTest = true
              ∧ (m.state = .followClaim ∨ m.state = .following ∨ m.state = .held))) := by
  simp [takeLevel, and_assoc, or_assoc]

theorem execLevelFrame_takes {f : RxFrame} {s : State} (h : Takes f s) :
    exec (.levelFrame f) s = .next (finish s (levelAct f (heard f s))) := by
  show Host.Outcome.next (finish s (receive f (levelAct f) s)) = _
  rw [receive_takes _ h]

/-- Settles O52: a LEVEL is the layout of what is read from it (`parseLevel_levelLayout`,
`levelLayout_of_parseLevel`), and `levelAct` takes that of the partner alone. -/
theorem levelFrameBecomesMirror : Obligations.LevelFrameBecomesMirror := by
  unfold Obligations.LevelFrameBecomesMirror
  refine ⟨fun m h => ⟨level_payload h, parseLevel_levelLayout h⟩, fun bs m => levelLayout_of_parseLevel,
    fun f s ht => ⟨fun m hm hpartner hstation hrole => ?_, fun h => ?_⟩⟩
  · have hfrom : FromPartner f m (heard f s) := by simpa [FromPartner] using ⟨hpartner, hstation, hrole⟩
    obtain ⟨hpair, hjoined⟩ := takeLevel_pair m (heard f s)
    rw [execLevelFrame_takes ht, levelAct_takes hm hfrom, next_iff]
    exact ⟨by simpa using hpair, by simpa using hjoined, by simp, by simp, by simp⟩
  · have hleaves : levelAct f (heard f s) = heard f s :=
      levelAct_leaves fun m hm hfrom => h m hm (by simpa [FromPartner] using hfrom)
    rw [execLevelFrame_takes ht, hleaves, next_iff]
    exact ⟨by simpa using headerOnly_heard f s.lines s, by simp, by simp⟩

end Sys2Proof.Proofs
end


section
namespace Sys2Proof.Proofs
open Sys2Proof.Machine Sys2Proof.Safety Sys2Proof.Laws

/-! ## What the partner checks find -/

theorem not_lost_of_mirror {p : Pair} {m : Level} (hm : p.mirror = some m) : p.lost = false ↔ p.age ≤ 12 := by
  rw [← Bool.not_eq_true, lost_of_mirror hm, Nat.not_lt]

theorem partnerFaulted_iff (s : State) : partnerFaulted s = true ↔ s.start.role = .lead
    ∧ s.seq.state.isTest = true ∧ s.pair.age ≤ 12
    ∧ ∃ m, s.pair.mirror = some m ∧ (m.state = .stopped ∨ m.state = .faulted) := by
  unfold partnerFaulted
  cases hm : s.pair.mirror with
  | none => simp
  | some m =>
    simp [not_lost_of_mirror hm, and_assoc]

theorem partnerRestarted_iff (s : State) : partnerRestarted s = true ↔ s.start.role = .lead
    ∧ (s.seq.state = .running ∨ s.seq.state = .held) ∧ s.pair.age ≤ 12
    ∧ (s.pair.joined = true ∨ 12 < s.pair.runCount)
    ∧ ∃ m, s.pair.mirror = some m ∧ (m.state = .idle ∨ m.state = .unconfigured) := by
  have hcount : decide (partnerAllowance < s.pair.runCount) = true ↔ 12 < s.pair.runCount := decide_eq_true_iff
  unfold partnerRestarted
  cases hm : s.pair.mirror with
  | none => simp
  | some m =>
    simp only [Bool.and_eq_true, Bool.or_eq_true, beq_iff_eq, Bool.not_eq_true', not_lost_of_mirror hm, hcount,
      and_assoc]
    simp

/-- R62, R63: a partner does not show both. -/
theorem not_partnerFaulted_of_restarted {s : State} (h : partnerRestarted s = true) : partnerFaulted s = false := by
  obtain ⟨-, -, -, -, m, hm, hq⟩ := (partnerRestarted_iff s).1 h
  refine Bool.eq_false_iff.2 fun hf => ?_
  obtain ⟨-, -, -, m', hm', hq'⟩ := (partnerFaulted_iff s).1 hf
  obtain rfl : m' = m := Option.some.inj (hm'.symm.trans hm)
  rcases hq with hq | hq <;> simp [hq] at hq'

theorem partnerCause_fault_iff (s : State) : partnerCause s = some .partnerFault ↔ partnerFaulted s = true := by
  unfold partnerCause
  split_ifs <;> simp_all

theorem partnerCause_restarted_iff (s : State) :
    partnerCause s = some .partnerRestarted ↔ partnerRestarted s = true := by
  refine ⟨fun h => ?_, fun h => by simp [partnerCause, h, not_partnerFaulted_of_restarted h]⟩
  unfold partnerCause at h
  split_ifs at h <;> simp_all

/-- R62, R63: the partner checks find a local fault, of a lead in a test state. -/
theorem partnerCause_local {s : State} {c : FaultCause} (h : partnerCause s = some c) :
    c.isCellStop = false ∧ s.start.role = .lead ∧ s.seq.state.isTest = true := by
  rcases partnerCause_cases s with h0 | h0 | h0
  · simp [h0] at h
  · obtain rfl : FaultCause.partnerFault = c := Option.some.inj (h0.symm.trans h)
    obtain ⟨hr, ht, -⟩ := (partnerFaulted_iff s).1 ((partnerCause_fault_iff s).1 h0)
    exact ⟨rfl, hr, ht⟩
  · obtain rfl : FaultCause.partnerRestarted = c := Option.some.inj (h0.symm.trans h)
    obtain ⟨hr, ht, -⟩ := (partnerRestarted_iff s).1 ((partnerCause_restarted_iff s).1 h0)
    exact ⟨rfl, hr, by rcases ht with ht | ht <;> rw [ht] <;> rfl⟩

theorem partnerFaulted_congr {s t : State} (hstart : t.start = s.start) (hstate : t.seq.state = s.seq.state)
    (hmirror : t.pair.mirror = s.pair.mirror) (hage : t.pair.age = s.pair.age) :
    partnerFaulted t = partnerFaulted s := by
  simp only [partnerFaulted, Pair.lost, hstart, hstate, hmirror, hage]

/-! ## The checks before the handling -/

theorem claimForbidden_iff (s : State) (r : SampleRec) : claimForbidden s r = true ↔ s.isFollow = false
    ∧ s.seq.state = .claiming ∧ ∃ z, zoneInForce s.zones r.position = some z ∧ z.permitsTest = false := by
  have hzone : s.isFollow = false → s.seq.state = .claiming →
      (zoneForbids s r.position = true ↔ ∃ z, zoneInForce s.zones r.position = some z ∧ z.permitsTest = false) := by
    intro hf hq
    rw [zoneForbids_iff, moveKind_of_claiming hf hq]
    rfl
  simp only [claimForbidden, Bool.and_eq_true, Bool.not_eq_true', beq_iff_eq, and_assoc]
  exact and_congr_right fun hf => and_congr_right fun hq => hzone hf hq

theorem mem_firstFaults (checked : Bool) (c : FaultCause) (s : State) (r : SampleRec) :
    c ∈ firstFaults checked s r ↔ (c = .zoneForbidden ∧ claimForbidden s r = true)
      ∨ (partnerCause s = some c ∧ (checked = true ∨ claimForbidden s r = true)) := by
  unfold firstFaults
  split_ifs <;> simp_all

theorem firstFaults_length (checked : Bool) (s : State) (r : SampleRec) : (firstFaults checked s r).length ≤ 2 := by
  unfold firstFaults
  split_ifs <;> cases partnerCause s <;> simp

theorem skewFault_length (s : State) : (skewFault s).length ≤ 1 := by
  unfold skewFault
  split <;> simp

/-- R35, R62, R63: what is found before the handling is a local fault of a test in progress. -/
theorem firstFaults_local {checked : Bool} {c : FaultCause} {s : State} {r : SampleRec}
    (hc : c ∈ firstFaults checked s r) :
    c.isCellStop = false ∧ s.start.role ≠ .follow ∧ s.seq.state.isTest = true := by
  rcases (mem_firstFaults _ _ _ _).1 hc with ⟨rfl, hz⟩ | ⟨hp, -⟩
  · obtain ⟨hf, hq, -⟩ := (claimForbidden_iff s r).1 hz
    exact ⟨rfl, by simpa [State.isFollow] using hf, by rw [hq]; rfl⟩
  · obtain ⟨hlocal, hrole, ht⟩ := partnerCause_local hp
    exact ⟨hlocal, by simp [hrole], ht⟩

/-! ## A halted test and its outcome -/

/-- R23, R24, R26: the test sequencer is halted, and the test record, if there is one, has this outcome. -/
def EndedAs (o : TestOutcome) (s : State) : Prop :=
  (s.seq.state = .stopped ∨ s.seq.state = .faulted) ∧ Outcome o s

/-- R23, R24: a report has ended the test. -/
def TestHalted (s : State) : Prop := EndedAs .faulted s ∨ EndedAs .stopped s

theorem EndedAs.of_same {o : TestOutcome} {s t : State} (h : EndedAs o s) (hseq : t.seq.state = s.seq.state)
    (hrec : t.testRec = s.testRec) : EndedAs o t := by
  simpa only [EndedAs, Outcome, hseq, hrec] using h

theorem outcome_recordFault {o : TestOutcome} {s : State} (c : FaultCause) (h : Outcome o s) :
    Outcome o (recordFault c s) := by
  unfold recordFault
  split
  · exact h
  · dsimp only
    split
    · intro r hr
      obtain ⟨w, hw, rfl⟩ := Option.map_eq_some_iff.1 hr
      exact h w hw
    · exact h

/-- R23: a sequencer that is halted again keeps the outcome of its test. -/
theorem outcome_haltSequencer {o : TestOutcome} {s : State} (q : SeqState) (k : TestOutcome)
    (ht : s.seq.state.isTest = false) (h : Outcome o s) : Outcome o (haltSequencer q k s) := by
  have hopen : Outcome o (openArm .stop (abandonTare s)) := outcome_openArm _ (by simpa [Outcome] using h)
  simpa [haltSequencer, ht, Outcome] using hopen

theorem EndedAs.stopOwn {o : TestOutcome} {s : State} (h : EndedAs o s) : EndedAs o (Machine.stopOwn s) := by
  unfold Machine.stopOwn
  split
  · exact h.of_same (by simp) (by simp)
  · rcases h.1 with hq | hq
    · rwa [stopSequencer_stays s (by simp [hq])]
    · rw [stopSequencer_halts s (by simp [hq])]
      exact ⟨.inl (by simp), outcome_haltSequencer _ _ (by rw [hq]; rfl) h.2⟩

theorem EndedAs.faultOwn {o : TestOutcome} {s : State} (h : EndedAs o s) : EndedAs o (Machine.faultOwn s) := by
  unfold Machine.faultOwn
  split
  · exact h.of_same (by simp) (by simp)
  · rwa [faultSequencer_stays s (by rcases h.1 with hq | hq <;> simp [hq])]

theorem EndedAs.report {o : TestOutcome} {s : State} (c : FaultCause) (h : EndedAs o s) :
    EndedAs o (Machine.report c s) := by
  have htaken : EndedAs o (pushNotice (faultNotice c s) (recordFault c s)) :=
    ⟨by simpa using h.1, by simpa [Outcome] using outcome_recordFault c h.2⟩
  cases hs : s.start.strapFault with
  | true => rwa [report_strapFault c hs]
  | false =>
    rw [report_eq c hs]
    split
    · rw [stopCell_eq]
      unfold setLatch
      split
      · exact htaken.of_same rfl rfl
      · exact EndedAs.stopOwn (htaken.of_same rfl rfl)
    · exact htaken.faultOwn

theorem EndedAs.step {o : TestOutcome} {s t : State} (hst : ReportStep s t) (h : EndedAs o s) : EndedAs o t := by
  have hq := h.1
  cases hst with
  | reported c => exact h.report c
  | judged => rwa [tareJudged_idle (by rcases hq with hq | hq <;> simp [hq])]
  | measured => rwa [reportMeasuring_idle (by rcases hq with hq | hq <;> simp [hq])]
  | entered => exact h.of_same (by simp) (by simp)
  | remembered => exact h.of_same (by simp) (by simp)
  | drawn n => exact h
  | regulated q r => exact h.of_same (by simp) (by simp)

theorem EndedAs.run {o : TestOutcome} {s t : State} (hr : ReportRun s t) (h : EndedAs o s) : EndedAs o t :=
  hr.keeps (P := EndedAs o) (fun hst => EndedAs.step hst) h

theorem TestHalted.run {s t : State} (hr : ReportRun s t) (h : TestHalted s) : TestHalted t :=
  h.imp (EndedAs.run hr) (EndedAs.run hr)

/-! ### One report -/

/-- R24, R26: a local fault ends a test as FAULTED. -/
theorem report_local_ends {c : FaultCause} {s : State} (hs : TestStation s) (ht : s.seq.state.isTest = true)
    (hc : c.isCellStop = false) : EndedAs .faulted (report c s) := by
  rw [report_local hs ht hc]
  exact ⟨.inr (by simp), haltSequencer_outcome _ _ _ (by simpa using ht)⟩

theorem report_cell_eq {c : FaultCause} {s : State} (hs : TestStation s) (hc : c.isCellStop = true)
    (hl : s.stop.latch = false) :
    ∃ u, u.seq = s.seq ∧ report c s = stopSequencer u := by
  obtain ⟨u, hu, ⟨-, -, h⟩ | ⟨he, -⟩ | ⟨-, h⟩⟩ := report_answered c hs.1
  · simp [hl] at h
  · have hf : u.isFollow = false := by simpa [State.isFollow, hu.start] using hs.2
    exact ⟨u, hu.seq, by rw [he, stopOwn, if_neg (by simp [hf])]⟩
  · simp [hc] at h

/-- R23: a cell stop whose latch is new stops a test and a faulted sequencer. -/
theorem report_cell_stops {c : FaultCause} {s : State} (hs : TestStation s) (hc : c.isCellStop = true)
    (hl : s.stop.latch = false) (hq : s.seq.state.isTest = true ∨ s.seq.state = .faulted) :
    (report c s).seq.state = .stopped := by
  obtain ⟨u, hu, he⟩ := report_cell_eq hs hc hl
  have hhalts : s.seq.state ≠ .unconfigured ∧ s.seq.state ≠ .idle ∧ s.seq.state ≠ .stopped := by
    rcases hq with hq | hq
    · obtain ⟨h1, h2, h3, -⟩ := isTest_halts _ hq
      exact ⟨h1, h2, h3⟩
    · simp [hq]
  rw [he, stopSequencer_halts u (by rwa [hu])]
  simp

/-- R23, R26: it ends the test as STOPPED. -/
theorem report_cell_ends {c : FaultCause} {s : State} (hs : TestStation s) (hc : c.isCellStop = true)
    (hl : s.stop.latch = false) (ht : s.seq.state.isTest = true) : EndedAs .stopped (report c s) := by
  refine ⟨.inl (report_cell_stops hs hc hl (.inl ht)), ?_⟩
  obtain ⟨u, hu, he⟩ := report_cell_eq hs hc hl
  obtain ⟨h1, h2, h3, -⟩ := isTest_halts _ ht
  rw [he, stopSequencer_halts u (by simp [hu, h1, h2, h3])]
  exact haltSequencer_outcome _ _ _ (by rwa [hu])

/-- R150: a latch that is set has been answered. -/
theorem report_cell_latched {c : FaultCause} {s : State} (hs : s.start.strapFault = false)
    (hc : c.isCellStop = true) (hl : s.stop.latch = true) : (report c s).seq = s.seq := by
  obtain ⟨u, hu, ⟨he, -⟩ | ⟨-, -, h⟩ | ⟨-, h⟩⟩ := report_answered c hs
  · rw [he, hu.seq]
  · simp [hl] at h
  · simp [hc] at h

/-- R24: a local fault leaves a test, and a faulted sequencer, FAULTED. -/
theorem report_local_faults {c : FaultCause} {s : State} (hs : TestStation s) (hc : c.isCellStop = false)
    (hq : s.seq.state.isTest = true ∨ s.seq.state = .faulted) : (report c s).seq.state = .faulted := by
  rcases hq with ht | hq
  · rw [report_local hs ht hc]
    simp
  · obtain ⟨u, hu, ⟨-, h, -⟩ | ⟨-, h, -⟩ | ⟨he, -⟩⟩ := report_answered c hs.1
    · simp [hc] at h
    · simp [hc] at h
    · have hf : u.isFollow = false := by simpa [State.isFollow, hu.start] using hs.2
      rw [he, faultOwn, if_neg (by simp [hf]), faultSequencer_stays u (by simp [hu.seq, hq]), hu.seq, hq]

theorem report_local_latch {c : FaultCause} {s : State} (hs : s.start.strapFault = false)
    (hc : c.isCellStop = false) : (report c s).stop.latch = s.stop.latch := by
  rw [report_eq c hs, if_neg (by simp [hc])]
  simp

/-- R23: nothing takes a STOPPED sequencer further. -/
theorem report_keepsStopped {s : State} (c : FaultCause) (h : s.seq.state = .stopped) :
    (report c s).seq.state = .stopped := by
  have hstop : ∀ u : State, u.seq = s.seq → (stopOwn u).seq.state = .stopped := by
    intro u hu
    unfold stopOwn
    split
    · simp [hu, h]
    · rw [stopSequencer_stays u (by simp [hu, h]), hu, h]
  have hfault : ∀ u : State, u.seq = s.seq → (faultOwn u).seq.state = .stopped := by
    intro u hu
    unfold faultOwn
    split
    · simp [hu, h]
    · rw [faultSequencer_stays u (by simp [hu, h]), hu, h]
  cases hs : s.start.strapFault with
  | true => rwa [report_strapFault c hs]
  | false =>
    obtain ⟨u, hu, ⟨he, -⟩ | ⟨he, -⟩ | ⟨he, -⟩⟩ := report_answered c hs
    · rw [he, hu.seq, h]
    · rw [he]
      exact hstop u hu.seq
    · rw [he]
      exact hfault u hu.seq

/-! ### Reports one after the other -/

/-- R24, R26: a local fault among them ends the test, whatever the latch. -/
theorem foldl_ends {c : FaultCause} {cs : List FaultCause} {s : State} (hs : TestStation s)
    (ht : s.seq.state.isTest = true) (hc : c ∈ cs) (hlocal : c.isCellStop = false) :
    TestHalted (cs.foldl (fun t c => report c t) s) := by
  induction cs generalizing s with
  | nil => simp at hc
  | cons d ds ih =>
    have hrun := reportRun_foldl ds (report d s)
    cases hd : d.isCellStop with
    | false => exact .inl ((report_local_ends hs ht hd).run hrun)
    | true =>
      cases hl : s.stop.latch with
      | false => exact .inr ((report_cell_ends hs hd hl ht).run hrun)
      | true =>
        have hne : c ≠ d := by rintro rfl; simp [hd] at hlocal
        exact ih (by simpa [TestStation] using hs) (by rw [report_cell_latched hs.1 hd hl, ht])
          ((List.mem_cons.1 hc).resolve_left hne)

theorem foldl_keepsStopped {s : State} (cs : List FaultCause) (h : s.seq.state = .stopped) :
    (cs.foldl (fun t c => report c t) s).seq.state = .stopped := by
  induction cs generalizing s with
  | nil => exact h
  | cons c cs ih => exact ih (report_keepsStopped c h)

/-- R23: a cell stop among them leaves the sequencer STOPPED, before or after a local fault. -/
theorem foldl_stops {c : FaultCause} {cs : List FaultCause} {s : State} (hs : TestStation s)
    (hl : s.stop.latch = false) (hq : s.seq.state.isTest = true ∨ s.seq.state = .faulted) (hc : c ∈ cs)
    (hcell : c.isCellStop = true) : (cs.foldl (fun t c => report c t) s).seq.state = .stopped := by
  induction cs generalizing s with
  | nil => simp at hc
  | cons d ds ih =>
    cases hd : d.isCellStop with
    | true => exact foldl_keepsStopped ds (report_cell_stops hs hd hl hq)
    | false =>
      have hne : c ≠ d := by rintro rfl; simp [hd] at hcell
      exact ih (by simpa [TestStation] using hs) (by rw [report_local_latch hs.1 hd, hl])
        (.inr (report_local_faults hs hd hq)) ((List.mem_cons.1 hc).resolve_left hne)

theorem reportedWithin_foldl {c : FaultCause} {cs : List FaultCause} (s : State) (hc : c ∈ cs) :
    ReportedWithin c s (cs.foldl (fun t c => report c t) s) := by
  induction cs generalizing s with
  | nil => simp at hc
  | cons d ds ih =>
    rcases List.mem_cons.1 hc with rfl | hd
    · exact ⟨s, .refl, reportRun_foldl ds _⟩
    · exact (ih _ hd).of_before (.single (.reported d s))

/-! ## The reports of the checks before the handling -/

theorem checkFirst_of_some {checked : Bool} {r : SampleRec} {s : State} (h : firstFaults checked s r ≠ []) :
    checkFirst checked r s = reportFound (firstFaults checked s r ++ skewFault s) (rememberSkew s) :=
  if_neg (by simpa using h)

theorem recorded_rememberSkew (c : FaultCause) (s t : State) : Recorded c (rememberSkew s) t ↔ Recorded c s t := by
  unfold rememberSkew
  split <;> exact Iff.rfl

theorem phase_kept (n : Nat) : KeptByReports fun s => s.seq.phase = n where
  reads := fun _ hseq _ _ h => by rwa [hseq]
  report := fun c h => by simpa using h

/-- R23, R24, R35, R60, R62, R63: what the faults found before the handling leave, with the skew limit's among them. -/
structure CheckedFirst (cs : List FaultCause) (s t : State) : Prop where
  halted : TestHalted t
  phase : t.seq.phase = s.seq.phase
  latched : skewFires s = true → t.stop.latch = true
  stopped : skewFires s = true → s.stop.latch = false → t.seq.state = .stopped
  recorded : s.stop.record = none → t.stop.further = cs.length - 1 ∧ ∃ k, t.stop.record = some k ∧ k.cause ∈ cs

theorem checkFirst_reports {checked : Bool} {r : SampleRec} {s : State} (hs : s.start.strapFault = false)
    (hne : firstFaults checked s r ≠ []) :
    CheckedFirst (firstFaults checked s r ++ skewFault s) s (checkFirst checked r s) := by
  obtain ⟨c, hc⟩ := List.exists_mem_of_ne_nil _ hne
  obtain ⟨hlocal, hrole, ht⟩ := firstFaults_local hc
  have hmem : c ∈ firstFaults checked s r ++ skewFault s := List.mem_append_left _ hc
  have hperm := drawOrder_perm (firstFaults checked s r ++ skewFault s) (rememberSkew s)
  obtain ⟨n, he⟩ := reportFound_eq (firstFaults checked s r ++ skewFault s) (rememberSkew s)
  have hstation : TestStation ((rememberSkew s).setFree n) := by simpa [TestStation] using ⟨hs, hrole⟩
  have htest : ((rememberSkew s).setFree n).seq.state.isTest = true := by simpa using ht
  have hskew : skewFires s = true →
      FaultCause.skewLimit ∈ (drawOrder (firstFaults checked s r ++ skewFault s) (rememberSkew s)).1 :=
    fun hf => hperm.mem_iff.2 (List.mem_append_right _ ((mem_skewFault _ s).2 ⟨rfl, hf⟩))
  rw [checkFirst_of_some hne]
  refine ⟨?_, ?_, fun hf => ?_, fun hf hl => ?_, fun hn => ?_⟩
  · rw [he]
    exact foldl_ends hstation htest (hperm.mem_iff.2 hmem) hlocal
  · exact (phase_kept s.seq.phase).reportFound _ ((phase_kept s.seq.phase).rememberSkew rfl)
  · rw [he]
    exact ((reportedWithin_foldl _ (hskew hf)).stopped hstation.1 rfl).1
  · rw [he]
    exact foldl_stops hstation (by simpa using hl) (.inl htest) (hskew hf) rfl
  · obtain ⟨hfur, k, hk, hcause, -⟩ := reportFound_locks (s := rememberSkew s) (by simpa using hs)
      (List.ne_nil_of_mem hmem) (by simpa using hn)
    have hlen : (firstFaults checked s r ++ skewFault s).length ≤ 3 := by
      have h1 := firstFaults_length checked s r
      have h2 := skewFault_length s
      rw [List.length_append]
      omega
    exact ⟨by rw [hfur]; omega, k, hk, hcause⟩

/-- R62, R63: a single fault found before the handling, with the skew within its limit. -/
theorem checkFirst_reports_one {checked : Bool} {c : FaultCause} {r : SampleRec} {s : State}
    (hs : s.start.strapFault = false) (hc : firstFaults checked s r = [c]) (hf : skewFires s = false) :
    (checkFirst checked r s).seq.state = .faulted ∧ Recorded c s (checkFirst checked r s)
      ∧ Outcome .faulted (checkFirst checked r s) := by
  obtain ⟨hlocal, hrole, ht⟩ := firstFaults_local (checked := checked) (r := r) (s := s) (c := c) (by simp [hc])
  have he : checkFirst checked r s = report c (rememberSkew s) := by
    rw [checkFirst_of_some (by simp [hc]), hc, (skewFault_eq_nil s).2 hf]
    rfl
  have hstation : TestStation (rememberSkew s) := by simpa [TestStation] using ⟨hs, hrole⟩
  have htest : (rememberSkew s).seq.state.isTest = true := by simpa using ht
  rw [he]
  exact ⟨report_local_faults hstation hlocal (.inl htest),
    (recorded_rememberSkew c s _).1 (recorded_report c hstation.1), (report_local_ends hstation htest hlocal).2⟩

/-! ## The sample of an ARMED lead -/

/-- R5: a sequencer that does not act on the sample only counts it, where no check comes before. -/
theorem handledIn_waits {ended : Bool} {x : ExtView} {r : SampleRec} {s h : State}
    (hh : HandledIn false ended x r s h) (hq : s.seq.state.actsOnSample = false) :
    h.start = s.start ∧ h.seq.state = s.seq.state ∧ h.pair = s.pair ∧ h.travel = s.travel := by
  obtain ⟨n, m, hh⟩ := hh
  have hclaim : claimForbidden (s.setFree n) r = false := by
    refine Bool.eq_false_iff.2 fun hc => ?_
    obtain ⟨-, hclaiming, -⟩ := (claimForbidden_iff _ _).1 hc
    rw [show s.seq.state = .claiming from hclaiming] at hq
    simp [SeqState.actsOnSample] at hq
  have hfirst : checkFirst false r (s.setFree n) = s.setFree n :=
    checkFirst_of_none _ _ _ (by simp [firstFaults, hclaim])
  rw [hfirst] at hh
  have hwaits : ∀ t : State, t.seq = s.seq → handleSample r ended t = countSample t := fun t ht =>
    handleSample_waiting r ended (by rw [ht, hq])
  rcases hh with ⟨-, rfl⟩ | ⟨-, rfl | rfl⟩
  · rw [hwaits (s.setFree n) rfl]
    simp
  · rw [hwaits (examineSample x r ((s.setFree n).setFree m)) (by simp)]
    simp
  · rw [hwaits ((s.setFree n).setFree m) rfl]
    simp

/-- R35, R36: a waiting lead whose port has applied zero has no fault in the travel map or the skew. -/
theorem movementFaults_armed {r : SampleRec} {s : State} (hs : TestStation s) (hq : s.seq.state = .armed)
    (ha : s.travel.appliedAtTick = 0) : movementFaults s (demandRequest s) r = [] := by
  have hf := isFollow_of_testStation hs
  have hkind : s.moveKind = .none := by simp [State.moveKind, hf, hq]
  have hzero : demandRequest s = .zero := demandRequest_resting hf (by simp [hq]) (by simp [hq])
  have hskew : skewFires s = false := by
    refine Bool.eq_false_iff.2 fun hfires => ?_
    obtain ⟨-, -, -, hmoves, -⟩ := (skewFires_iff s).1 hfires
    exact hmoves hkind
  have hmoves : movesUnmapped s (demandRequest s) r = false := by
    simp [movesUnmapped, hzero, requestedValue, ha, hf, hq]
  have hzone : zoneFault s (demandRequest s) r = none := by
    cases hz : zoneInForce s.zones r.position with
    | none => rw [zoneFault_unmapped hz, hmoves]; rfl
    | some z => rw [zoneFault_of_zone hz, if_neg (by simp [hkind])]
  simp [movementFaults, (skewFault_eq_nil s).2 hskew, hzone]

/-- R62, R99: a local fault of an ARMED lead is reported first, whatever the extensometer unit settles. -/
theorem reportEarly_armed {failed faulty : Bool} {c : FaultCause} {s : State} (hs : TestStation s)
    (hq : s.seq.state = .armed) (hc : c.isCellStop = false) (hne : c ≠ .tareUnstable) :
    EndedAs .faulted (reportEarly failed faulty [c] s) := by
  have hall : ∀ t : State, t.start = s.start → t.seq = s.seq → EndedAs .faulted (reportAll failed [c] t) := by
    intro t hstart hseq
    rw [show reportAll failed [c] t = report c t from takeReport_of_fault failed t hne]
    exact report_local_ends (by simpa [TestStation, hstart] using hs) (by rw [hseq, hq]; rfl) hc
  have hdrawn : EndedAs .faulted (reportAll failed [c] (enterMeasuring s).draw.2) :=
    hall _ (by simp [State.draw]) (by simp [State.draw])
  unfold reportEarly
  split
  · unfold reportSettled
    split_ifs with h0
    · simp at h0
    · rwa [claimChecked_measured_idle (by simp [State.draw, hq])]
    · rwa [claimChecked_measured_idle (by rcases hdrawn.1 with h | h <;> simp [h])]
  · exact hall s rfl rfl

/-- R62, R154: a lead that waits in ARMED, or that a report has halted. -/
def ArmedOrHalted (s : State) : Prop := TestStation s ∧ (s.seq.state = .armed ∨ TestHalted s)

theorem ArmedOrHalted.report {s : State} (c : FaultCause) (h : ArmedOrHalted s) :
    ArmedOrHalted (Machine.report c s) := by
  obtain ⟨hs, hq | hq⟩ := h
  · have ht : s.seq.state.isTest = true := by rw [hq]; rfl
    refine ⟨by simpa [TestStation] using hs, ?_⟩
    cases hc : c.isCellStop with
    | false => exact .inr (.inl (report_local_ends hs ht hc))
    | true =>
      cases hl : s.stop.latch with
      | false => exact .inr (.inr (report_cell_ends hs hc hl ht))
      | true => exact .inl (by rw [report_cell_latched hs.1 hc hl, hq])
  · exact ⟨by simpa [TestStation] using hs, .inr (hq.imp (EndedAs.report c) (EndedAs.report c))⟩

theorem ArmedOrHalted.step {s t : State} (hst : ReportStep s t) (h : ArmedOrHalted s) : ArmedOrHalted t := by
  obtain ⟨hs, hq⟩ := id h
  have hs' : TestStation t := by simpa [TestStation, hst.start] using hs
  rcases hq with hq | hq
  · cases hst with
    | reported c => exact h.report c
    | judged => rwa [tareJudged_idle (by simp [hq])]
    | measured => rwa [reportMeasuring_idle (by simp [hq])]
    | entered => exact ⟨hs', .inl (by simpa using hq)⟩
    | remembered => exact ⟨hs', .inl (by simpa using hq)⟩
    | drawn n => exact h
    | regulated q r => exact ⟨hs', .inl (by simpa using hq)⟩
  · exact ⟨hs', .inr (hq.run (.single hst))⟩

/-- R62, R154: the sample of an ARMED lead beside a stopped or faulted partner. -/
theorem moveSample_armed_ends {overload : Bool} {r : SampleRec} {s : State} (hs : TestStation s)
    (hq : s.seq.state = .armed) (hp : partnerCause s = some .partnerFault) :
    (moveSample false overload r s).stop.record.isSome = true ∧ TestHalted (moveSample false overload r s) := by
  have hmem : FaultCause.partnerFault ∈ sampleFaults false overload s (demandRequest s) r :=
    (mem_sampleFaults _ _ _ _ _ _).2 (.inl ((mem_laterFaults _ _ _ _ _).2 (.inl ⟨rfl, hp⟩)))
  refine ⟨(moveSample_reports hs.1 (.inl hmem)).1, ?_⟩
  obtain ⟨m, hm, ht⟩ := reportedWithin_moveSample (checked := false) (overload := overload)
    (mem_sampleReports (.inl hmem)) (by simp)
  have harmed : ArmedOrHalted m := hm.keeps (P := ArmedOrHalted) (fun hst => ArmedOrHalted.step hst) ⟨hs, .inl hq⟩
  have hhalted : TestHalted (report .partnerFault m) := by
    obtain ⟨hs', hq' | hq'⟩ := harmed
    · exact .inl (report_local_ends hs' (by rw [hq']; rfl) rfl)
    · exact hq'.run (.single (.reported _ m))
  exact hhalted.run ht

/-- R62: where the port has applied zero the partner's fault is the first, and the test ends as FAULTED. -/
theorem moveSample_armed_faults {overload : Bool} {r : SampleRec} {s : State} (hs : TestStation s)
    (hq : s.seq.state = .armed) (hp : partnerCause s = some .partnerFault) (ha : s.travel.appliedAtTick = 0) :
    EndedAs .faulted (moveSample false overload r s) := by
  have hlater : laterFaults false s (demandRequest s) r = [.partnerFault] := by
    simp [laterFaults, hp, movementFaults_armed hs hq ha]
  have hfaults : sampleFaults false overload s (demandRequest s) r = [.partnerFault] := by
    simp [sampleFaults, hlater, dueCause, hq]
  have hjudged : judgmentDue s = false := by simp [judgmentDue, hq]
  have hreports : sampleReports false overload s (demandRequest s) r
      = (.partnerFault :: overloadFault overload, s) := by
    simp [sampleReports, hfaults, hjudged, drawOrder, drawPlace]
  have hearly : earlyReports false overload r s = [.partnerFault] := by
    rw [earlyReports, hreports]
    cases overload <;> simp [overloadFault]
  refine EndedAs.run (reportRun_regulated false overload r s) ?_
  rw [reportedEarly, hearly, hreports]
  exact reportEarly_armed (by simpa [TestStation] using hs) (by simpa using hq) rfl (by simp)

/-- R57 to R59: the pair unit's part of a sample leaves what the partner checks look at. -/
theorem pairSample_mirror (r : SampleRec) (s : State) :
    (pairSample r s).pair.mirror = s.pair.mirror ∧ (pairSample r s).pair.age = s.pair.age := by
  have hskew : ∀ t : State, (computeSkew r t).pair.mirror = t.pair.mirror ∧ (computeSkew r t).pair.age = t.pair.age := by
    intro t
    unfold computeSkew
    split <;> exact ⟨rfl, rfl⟩
  have halarm : ∀ t : State, (judgeAlarm t).pair.mirror = t.pair.mirror ∧ (judgeAlarm t).pair.age = t.pair.age := by
    intro t
    cases hk : t.pair.skewKnown with
    | false => simp [judgeAlarm_stays hk]
    | true => simp [judgeAlarm_sets hk]
  unfold pairSample
  split
  · simp [halarm, hskew]
  · exact ⟨rfl, rfl⟩

/-- R62, R74: the sample that an ARMED lead has taken is handled before any partner check, and only counted. -/
theorem handled_armed {checked ended : Bool} {x : ExtView} {v : LoadView} {s h : State} (hq : s.seq.state = .armed)
    (hh : HandledIn checked ended x v.record (takeGripsUnreported (takenSample v s)) h)
    (hchecked : partnerSuspect (takenSample v s) = false → checked = false) :
    checked = false ∧ h.start = s.start ∧ h.seq.state = .armed ∧ h.travel = s.travel
      ∧ partnerFaulted h = partnerFaulted s := by
  have hseq : (takenSample v s).seq = s.seq := by simp [takenSample]
  have hstart : (takenSample v s).start = s.start := by simp [takenSample]
  have htravel : (takenSample v s).travel = s.travel := by simp [takenSample]
  have hpair : (takenSample v s).pair.mirror = s.pair.mirror ∧ (takenSample v s).pair.age = s.pair.age := by
    simp [takenSample, pairSample_mirror]
  have hno : (takenSample v s).seq.state.actsOnSample = false := by rw [hseq, hq]; rfl
  obtain rfl : checked = false := hchecked (by simp [partnerSuspect, hno])
  rw [takeGripsUnreported, takeGripsLow_stays (.inl (by simp [hseq, hq])), ite_self] at hh
  obtain ⟨hstart', hstate', hpair', htravel'⟩ := handledIn_waits hh hno
  have hstate : h.seq.state = s.seq.state := by rw [hstate', hseq]
  refine ⟨rfl, hstart'.trans hstart, hstate.trans hq, htravel'.trans htravel, ?_⟩
  exact partnerFaulted_congr (hstart'.trans hstart) hstate (by rw [hpair', hpair.1]) (by rw [hpair', hpair.2])

/-- R62, R70, R74: the sample that an ARMED lead completes beside a stopped or faulted partner. -/
theorem completeSample_armed {reading : Int} {strain : Option Int} {s : State} (hs : TestStation s)
    (hq : s.seq.state = .armed) (hp : partnerFaulted s = true) :
    (completeSample reading strain s).stop.record.isSome = true ∧ TestHalted (completeSample reading strain s)
      ∧ (s.travel.appliedAtTick = 0 → EndedAs .faulted (completeSample reading strain s)) := by
  obtain ⟨checked, h, hh, hchecked, he⟩ := completeSample_handles reading strain (isFollow_of_testStation hs)
  obtain ⟨rfl, hstart, harmed, htravel, hfaulted⟩ := handled_armed hq hh hchecked
  have hs' : TestStation h := by simpa [TestStation, hstart] using hs
  have hp' : partnerCause h = some .partnerFault := (partnerCause_fault_iff h).2 (hfaulted.trans hp)
  rw [he]
  obtain ⟨hrec, hhalted⟩ := moveSample_armed_ends (overload := overloadFires s (loadView reading strain s).gross
    (loadView reading strain s).reading) (r := (loadView reading strain s).record) hs' harmed hp'
  exact ⟨hrec, hhalted, fun ha => moveSample_armed_faults hs' harmed hp' (by rwa [htravel])⟩

theorem exec_completes_armed {c : Instr} {s : State} (hc : CompletesSample c s) (hs : s.start.strapFault = false)
    (hq : s.seq.state = .armed) (hp : partnerCause s = some .partnerFault) :
    Next (exec c s) fun t => t.stop.record.isSome = true ∧ t.travel.applied = 0 ∧ TestHalted t
      ∧ (s.travel.appliedAtTick = 0 → Outcome .faulted t) := by
  obtain ⟨reading, strain, u, hu, he⟩ := exec_completes hc
  have hsame : u.start = s.start ∧ u.seq = s.seq ∧ u.travel = s.travel ∧ u.pair = s.pair := by
    rcases hu with rfl | ⟨y, rfl⟩ <;> simp
  obtain ⟨hstart, hseq, htravel, hpair⟩ := hsame
  have hstation : TestStation u := by
    have hrole : s.start.role = .lead := (partnerCause_local hp).2.1
    simp [TestStation, hstart, hs, hrole]
  have hfaulted : partnerFaulted u = true := by
    rw [partnerFaulted_congr hstart (by rw [hseq]) (by rw [hpair]) (by rw [hpair])]
    exact (partnerCause_fault_iff s).1 hp
  obtain ⟨hrec, hhalted, hends⟩ := completeSample_armed (reading := reading) (strain := strain) hstation
    (by rw [hseq, hq]) hfaulted
  have hfinished : ∀ {o w}, EndedAs o w → EndedAs o (finish s w) := fun h => h.of_same (by simp) (by simp)
  rw [he, next_iff]
  refine ⟨by simpa using hrec, ?_, hhalted.imp hfinished hfinished, fun ha => ?_⟩
  · rw [applied_finish, if_pos (forced_of_recorded hrec)]
  · exact (hfinished (hends (by rw [htravel, ha]))).2

theorem TestHalted.ended {s : State} (h : TestHalted s) :
    (s.seq.state = .faulted ∨ s.seq.state = .stopped) ∧ (Outcome .faulted s ∨ Outcome .stopped s) :=
  ⟨h.elim (fun h => h.1.symm) (fun h => h.1.symm), h.imp (·.2) (·.2)⟩

/-- Settles O37: the partner checks case by case, the checks before the handling (`checkFirst_reports`), and the sample
of an ARMED lead (`exec_completes_armed`). -/
theorem partnerChecksFaultLead : Obligations.PartnerChecksFaultLead := by
  unfold Obligations.PartnerChecksFaultLead
  refine ⟨fun s => ⟨(partnerCause_fault_iff s).trans (partnerFaulted_iff s),
    (partnerCause_restarted_iff s).trans (partnerRestarted_iff s), fun checked r hs => ⟨claimForbidden_iff s r,
      fun c => mem_firstFaults checked c s r, checkFirst_of_none checked r s, fun hne => ?_,
      fun c hc hf => checkFirst_reports_one hs hc hf⟩⟩, fun c s hc hs hq hp => ?_⟩
  · have h := checkFirst_reports hs hne
    obtain ⟨hstate, hout⟩ := h.halted.ended
    exact ⟨hstate, hout, h.phase, fun hf => ⟨h.latched hf, h.stopped hf⟩, h.recorded⟩
  · obtain ⟨t, he, hrec, happ, hhalted, hfaulted⟩ := exec_completes_armed hc hs hq hp
    obtain ⟨hstate, hout⟩ := hhalted.ended
    exact ⟨t, he, hrec, happ, hstate, hout, hfaulted⟩

end Sys2Proof.Proofs
end

section
namespace Sys2Proof.Proofs
open Sys2Proof.Machine Sys2Proof.Safety Sys2Proof.Laws

/-! ## The range -/

theorem saturatedNarrow_iff (l : LoadCh) (reading : Int) :
    saturatedNarrow l reading = true ↔ l.range ≠ .r1 ∧ reading.natAbs = 1100000 := by
  simp [saturatedNarrow, saturated, readingLimit]

theorem saturatedNarrow_false {l : LoadCh} {reading : Int} (h : l.range = .r1 ∨ reading.natAbs ≠ 1100000) :
    saturatedNarrow l reading = false := by
  rw [Bool.eq_false_iff, Ne, saturatedNarrow_iff]
  rintro ⟨hr, hn⟩
  exact h.elim hr (· hn)

/-- R78: a saturated reading on range 2, 3 or 4 decides range 1. -/
theorem decideRange_saturated {l : LoadCh} {reading : Int} (capacity : Nat) (gross : Int)
    (h : saturatedNarrow l reading = true) : l.decideRange capacity true gross reading
      = { l with pendingRange := some .r1, rangeMode := l.rangeMode.afterSaturation, downCount := 0 } := by
  simp [LoadCh.decideRange, h]

theorem decideRange_waits {l : LoadCh} {reading : Int} (capacity : Nat) (gross : Int)
    (h : saturatedNarrow l reading = false) (hw : l.settling = true ∨ l.rangeMode ≠ .auto) :
    l.decideRange capacity true gross reading = l := by
  simp [LoadCh.decideRange, h, hw]

/-- R77: in AUTO a sample that is not HELD may decide a wider range. -/
theorem decideRange_widens {l : LoadCh} {w : LoadRange} {capacity : Nat} {gross reading : Int}
    (h : saturatedNarrow l reading = false) (hs : l.settling = false) (ha : l.rangeMode = .auto)
    (hw : rangeUp capacity l gross = some w) :
    l.decideRange capacity true gross reading = { l with pendingRange := some w, downCount := 0 } := by
  simp [LoadCh.decideRange, h, hs, ha, hw]

/-- R79: where it decides none, it counts toward a narrower one. -/
theorem decideRange_counts {l : LoadCh} {capacity : Nat} {gross reading : Int}
    (h : saturatedNarrow l reading = false) (hs : l.settling = false) (ha : l.rangeMode = .auto)
    (hw : rangeUp capacity l gross = none) :
    l.decideRange capacity true gross reading = { l with downCount := downCountAfter capacity l gross } := by
  simp [LoadCh.decideRange, h, hs, ha, hw]

theorem rangeUp_above {l : LoadCh} {capacity : Nat} {gross : Int} (ha : l.rangeMode = .auto)
    (h : 95 * (capacity * l.range.percent) < 10000 * (gross.natAbs : Int)) :
    rangeUp capacity l gross = l.range.wider := by
  have habove : aboveRangeUp capacity l.range gross = true := decide_eq_true h
  simp [rangeUp, ha, habove]

theorem rangeUp_within {l : LoadCh} {capacity : Nat} {gross : Int}
    (h : ¬95 * (capacity * l.range.percent) < 10000 * (gross.natAbs : Int)) : rangeUp capacity l gross = none := by
  have hwithin : aboveRangeUp capacity l.range gross = false := decide_eq_false h
  simp [rangeUp, hwithin]

theorem percent_narrower_le {r n : LoadRange} (h : r.narrower = some n) : n.percent ≤ r.percent := by
  cases r <;> simp [LoadRange.narrower] at h <;> subst h <;> decide

/-- R77, R79: a load below 35 % of a narrower range is below 95 % of the range in force. -/
theorem not_above_of_below {r n : LoadRange} {capacity : Nat} {gross : Int} (hn : r.narrower = some n)
    (h : 10000 * (gross.natAbs : Int) < 35 * (capacity * n.percent)) :
    ¬95 * (capacity * r.percent) < 10000 * (gross.natAbs : Int) := by
  have hle : (capacity : Int) * n.percent ≤ capacity * r.percent :=
    mul_le_mul_of_nonneg_left (percent_narrower_le hn) (Int.natCast_nonneg capacity)
  omega

theorem downCountAfter_below {l : LoadCh} {n : LoadRange} {capacity : Nat} {gross : Int}
    (hn : l.range.narrower = some n) (h : 10000 * (gross.natAbs : Int) < 35 * (capacity * n.percent)) :
    downCountAfter capacity l gross = min 32 (l.downCount + 1) := by
  have hbelow : belowRangeDown capacity n gross = true := decide_eq_true h
  simp [downCountAfter, hn, hbelow, rangeDownCount]

theorem downCountAfter_reached {l : LoadCh} {n : LoadRange} {capacity : Nat} {gross : Int}
    (hn : l.range.narrower = some n) (h : 35 * (capacity * n.percent) ≤ 10000 * (gross.natAbs : Int)) :
    downCountAfter capacity l gross = 0 := by
  have hreached : belowRangeDown capacity n gross = false := decide_eq_false (not_lt.2 h)
  simp [downCountAfter, hn, hreached]

theorem rangeDown_narrows {s : State} {n : LoadRange} (ha : s.load.rangeMode = .auto) (hc : 32 ≤ s.load.downCount)
    (hn : s.load.range.narrower = some n) :
    rangeDown s = s.setLoad { s.load with pendingRange := some n, downCount := 0 } := by
  have h32 : rangeDownCount ≤ s.load.downCount := hc
  simp [rangeDown, ha, h32, hn]

theorem rangeSettled_ends {s : State} (hs : s.load.settling = true) (hc : s.load.settleCount = 0) :
    rangeSettled s = s.setLoad { s.load with settling := false } := by
  simp [rangeSettled, hs, hc]

/-- No forcing condition reads the load channel. -/
theorem finish_setLoad {s : State} (hp : PortSafe s) (l : LoadCh) : finish s (s.setLoad l) = s.setLoad l :=
  finish_of_same hp rfl rfl (forced_congr rfl rfl rfl rfl rfl rfl rfl rfl)

/-- Settles O26: the decision by its three branches (`decideRange_saturated`, `decideRange_waits`, and in AUTO
`decideRange_widens` or `decideRange_counts`), and two commands that write to the load channel alone. -/
theorem rangeDecisions : Obligations.RangeDecisions := by
  unfold Obligations.RangeDecisions
  refine ⟨fun l capacity gross reading => ⟨fun hr hsat => ?_, fun hns hw => ?_, fun hns hs ha => ?_⟩,
    fun s n hp ha hc hn => ?_, fun s hp hs hc => ?_⟩
  · rw [decideRange_saturated capacity gross ((saturatedNarrow_iff l reading).2 ⟨hr, hsat⟩)]
    exact ⟨rfl, fun r hm => by simp [hm, RangeMode.afterSaturation]⟩
  · exact decideRange_waits capacity gross (saturatedNarrow_false hns) hw
  · have hnarrow := saturatedNarrow_false hns
    refine ⟨fun w hw h => ?_, fun n hn h => ?_, fun n hn h => ?_⟩
    · rw [decideRange_widens hnarrow hs ha ((rangeUp_above ha h).trans hw)]
    · rw [decideRange_counts hnarrow hs ha (rangeUp_within (not_above_of_below hn h))]
      exact downCountAfter_below hn h
    · cases hup : rangeUp capacity l gross with
      | some w => rw [decideRange_widens hnarrow hs ha hup]
      | none =>
        rw [decideRange_counts hnarrow hs ha hup]
        exact downCountAfter_reached hn h
  · show Host.Outcome.next (finish s (rangeDown s)) = _
    rw [rangeDown_narrows ha hc hn, finish_setLoad hp]
  · show Host.Outcome.next (finish s (rangeSettled s)) = _
    rw [rangeSettled_ends hs hc, finish_setLoad hp]
end Sys2Proof.Proofs
end

section
namespace Sys2Proof.Proofs
open Sys2Proof.Machine Sys2Proof.Safety Sys2Proof.Laws

/-! ## What is written after the load channel has completed a sample -/

/-- R87, R89, R90, R109: what the detectors write into a test record; the rest stands blank. -/
def detectorPart (w : TestRecord) : TestRecord :=
  { w with outcome := none, endPhase := 0, switchPart := none, holdCount := 0, offered := 0, stored := 0, lost := 0
           faultCause := none }

/-- R99, R100: the arm has moved and the readings of the extensometer unit are as they were; SETTLING is not entered. -/
def SameReadings (e f : Ext) : Prop :=
  f.pair = e.pair ∧ f.zero = e.zero ∧ f.strainCount = e.strainCount ∧ f.lastReading = e.lastReading
    ∧ (f.state = .settling → e.state = .settling)

theorem sameReadings_opening (e : Ext) (k : Int) : SameReadings e { e.opening with offset := k } :=
  ⟨rfl, rfl, rfl, rfl, fun h => by simp at h⟩

/-- One write of the blocks that a completed sample goes on to. The test span opens, and the unit enters MEASURING,
only where `opens` and `measures` allow it. -/
inductive SampleWrite (opens measures : Prop) : State → State → Prop
  | sequenced (q : Seq) (s : State) : SampleWrite opens measures s (s.setSeq q)
  | followed (f : Follow) (s : State) : SampleWrite opens measures s (s.setFollow f)
  | paired (p : Pair) (s : State) : SampleWrite opens measures s (s.setPair p)
  | recorded (u : Recorder) (s : State) : SampleWrite opens measures s (s.setRecorder u)
  | stopped (f : StopFault) (s : State) : SampleWrite opens measures s (s.setStop f)
  | drawn (n : Nat) (s : State) : SampleWrite opens measures s (s.setFree n)
  | regulated (v : Int) (m : RegMode) (w : List (Int × Word32)) (h a : Int) (s : State) :
      SampleWrite opens measures s (s.setTravel
        { s.travel with regValue := v, regMode := m, window := w, holdPosition := h, applied := a })
  | requested (n : Nat) (reason : GrantReason) (s : State) : SampleWrite opens measures s (requestUnits n reason s)
  | withdrawn (s : State) : SampleWrite opens measures s (withdrawRaise s)
  | stopFramed (c : FaultCause) (s : State) : SampleWrite opens measures s (s.setLink { s.link with stop := some c })
  | noticed (k : NoticeKind) (s : State) : SampleWrite opens measures s (pushNotice k s)
  | noted (g : TestRecord → TestRecord) (hg : ∀ w, detectorPart (g w) = detectorPart w) (s : State) :
      SampleWrite opens measures s (writeRecord g s)
  | armed (e : Ext) (s : State) (he : SameReadings s.ext e) : SampleWrite opens measures s (s.setExt e)
  | measuring (s : State) (h : measures) : SampleWrite opens measures s (enterMeasuring s)
  | tared (offset : Int) (a : Option Tare) (s : State) :
      SampleWrite opens measures s (s.setLoad { s.load with tareOffset := offset, tare := a })
  | collected (s : State) : SampleWrite opens measures s (closeCollection s)
  | closed (s : State) : SampleWrite opens measures s (closeSpan s)
  | opened (s : State) (h : opens) : SampleWrite opens measures s (openSpan s)

/-- `t` comes from `s` by such writes. -/
abbrev SampleRun (opens measures : Prop) : State → State → Prop := Relation.ReflTransGen (SampleWrite opens measures)

namespace SampleRun

variable {opens measures : Prop} {s t : State}

theorem mono {opens' measures' : Prop} (ho : opens → opens') (hm : measures → measures')
    (h : SampleRun opens measures s t) : SampleRun opens' measures' s t := by
  refine Relation.ReflTransGen.mono (fun a b hab => ?_) s t h
  cases hab with
  | opened _ h => exact .opened _ (ho h)
  | measuring _ h => exact .measuring _ (hm h)
  | _ => constructor <;> assumption

/-! ### The arm, the end of a test and the reports -/

theorem gotoState (q : SeqState) : SampleRun opens measures s (Machine.gotoState q s) := .single (.sequenced _ s)

theorem switchover (c : SwitchCause) : SampleRun opens measures s (Machine.switchover c s) := by
  unfold Machine.switchover
  split
  · exact .single (.armed _ s (sameReadings_opening _ _))
  · rename_i e x hp
    have hswitched : SampleRun opens measures s ((s.setExt { s.ext.opening with offset := switchOffset s e x }).setTestRec
        (s.testRec.map fun w => { w with switchPart := some (c, e, x) })) :=
      .tail (.single (.armed { s.ext.opening with offset := switchOffset s e x } s (sameReadings_opening _ _)))
        (.noted (fun w => { w with switchPart := some (c, e, x) }) (fun _ => rfl) _)
    unfold switchNotice
    split
    · exact hswitched
    · exact hswitched.tail (.noticed _ _)

theorem removeArm : SampleRun opens measures s (Machine.removeArm s) := by
  unfold Machine.removeArm
  split
  · exact switchover _
  · exact .refl

theorem openArm (c : SwitchCause) : SampleRun opens measures s (Machine.openArm c s) := by
  have hwaits : SampleRun opens measures s (s.setExt { s.ext with attachWaits := false }) :=
    .single (.armed _ s ⟨rfl, rfl, rfl, rfl, id⟩)
  have hopening : SampleRun opens measures s ((s.setExt { s.ext with attachWaits := false }).setExt
      (s.setExt { s.ext with attachWaits := false }).ext.opening) := hwaits.tail (.armed _ _ (sameReadings_opening _ _))
  unfold Machine.openArm
  dsimp only
  split
  · exact hwaits.trans (switchover c)
  · exact hopening
  · exact hopening
  · exact hopening
  · exact hwaits

theorem examineSample (x : ExtView) (r : SampleRec) : SampleRun opens measures s (Machine.examineSample x r s) := by
  unfold Machine.examineSample joinSlip
  split_ifs
  · split
    · exact switchover _
    · exact .single (.armed _ s ⟨rfl, rfl, rfl, rfl, id⟩)
  · split
    · exact switchover _
    · exact .refl
  · exact .refl

theorem endTest (o : TestOutcome) : SampleRun opens measures s (Machine.endTest o s) :=
  .tail (.tail (.tail (.single (.noted (fun w => { w with outcome := some o, endPhase := s.seq.phase })
    (fun _ => rfl) s)) (.noticed _ _)) (.collected _)) (.closed _)

theorem haltSequencer (q : SeqState) (o : TestOutcome) : SampleRun opens measures s (Machine.haltSequencer q o s) := by
  have hbase : SampleRun opens measures s (requestUnits 0 .release (Machine.gotoState q (Machine.openArm .stop (abandonTare s)))) :=
    .tail (.trans (.head (.tared s.load.tareOffset none s) (openArm .stop)) (gotoState q)) (.requested _ _ _)
  unfold Machine.haltSequencer
  dsimp only
  split
  · exact hbase.trans (endTest o)
  · exact hbase

theorem haltFollow (q : SeqState) : SampleRun opens measures s (Machine.haltFollow q s) :=
  .tail (.single (.followed _ s)) (.requested _ _ _)

theorem stopOwn : SampleRun opens measures s (Machine.stopOwn s) := by
  unfold Machine.stopOwn stopFollow stopSequencer
  split_ifs
  · exact haltFollow _
  · exact .refl
  · split
    case h_4 => exact haltSequencer _ _
    all_goals exact .refl

theorem faultOwn : SampleRun opens measures s (Machine.faultOwn s) := by
  unfold Machine.faultOwn faultFollow faultSequencer
  split_ifs
  · exact haltFollow _
  · exact .refl
  · split
    case h_5 => exact haltSequencer _ _
    all_goals exact .refl

theorem setLatch : SampleRun opens measures s (Machine.setLatch s) := by
  unfold Machine.setLatch
  split
  · exact .refl
  · exact .head (.stopped _ s) stopOwn

theorem recordFault (c : FaultCause) : SampleRun opens measures s (Machine.recordFault c s) := by
  unfold Machine.recordFault
  split
  · exact .single (.stopped _ s)
  · dsimp only
    split
    · exact .tail (.single (.stopped _ s)) (.noted (fun w => { w with faultCause := some c }) (fun _ => rfl) _)
    · exact .single (.stopped _ s)

theorem report (c : FaultCause) : SampleRun opens measures s (Machine.report c s) := by
  cases hs : s.start.strapFault with
  | true => rw [report_strapFault c hs]
  | false =>
    have hnoticed : SampleRun opens measures s (pushNotice (faultNotice c s) (Machine.recordFault c s)) :=
      (recordFault c).tail (.noticed _ _)
    rw [report_eq c hs]
    split
    · exact hnoticed.trans (.head (.stopped _ _) (.head (.stopFramed c _) setLatch))
    · exact hnoticed.trans faultOwn

theorem enterClaiming : SampleRun opens measures s (Machine.enterClaiming s) := (gotoState .claiming).tail (.requested _ _ _)

theorem enterAttaching : SampleRun opens measures s (Machine.enterAttaching s) := by
  have hgoto : SampleRun opens measures s (Machine.gotoState .attaching s) := gotoState _
  unfold Machine.enterAttaching
  dsimp only
  split
  · exact hgoto.tail (.armed _ _ ⟨rfl, rfl, rfl, rfl, fun h => by simp at h⟩)
  · exact hgoto.tail (.armed _ _ ⟨rfl, rfl, rfl, rfl, id⟩)
  · exact hgoto.trans (report _)
  · exact hgoto

theorem takeGripsLow : SampleRun opens measures s (Machine.takeGripsLow s) := by
  unfold Machine.takeGripsLow
  split
  · exact .head (.tared s.load.tareOffset none s) (gotoState .armed)
  · exact .refl

theorem judgeTare (a : Tare) : SampleRun opens measures s (Machine.judgeTare a s) := by
  unfold Machine.judgeTare tareSucceeded
  dsimp only
  split_ifs
  · exact .head (.tared _ none s) enterAttaching
  · exact .head (.tared _ none s) enterClaiming
  · exact .single (.tared s.load.tareOffset _ s)
  · exact report _

theorem tareJudged : SampleRun opens measures s (Machine.tareJudged s) := by
  unfold Machine.tareJudged
  split
  · exact .refl
  · split
    · exact (judgeTare _).trans takeGripsLow
    · exact .refl

theorem reportMeasuring : SampleRun opens measures s (Machine.reportMeasuring s) := by
  unfold Machine.reportMeasuring
  split
  · exact enterClaiming
  · exact .refl

theorem rememberSkew : SampleRun opens measures s (Machine.rememberSkew s) := by
  unfold Machine.rememberSkew
  split
  · exact .single (.paired _ s)
  · exact .refl

theorem regulateSample (q : Request) (r : SampleRec) : SampleRun opens measures s (Machine.regulateSample q r s) := by
  unfold Machine.regulateSample
  split_ifs
  all_goals exact .single (.regulated _ _ _ _ _ s)

/-! ### The reports of a sample -/

theorem foldReport (cs : List FaultCause) : SampleRun opens measures s (cs.foldl (fun u c => Machine.report c u) s) := by
  induction cs generalizing s with
  | nil => exact .refl
  | cons c cs ih => exact (report c).trans ih

theorem reportFound (cs : List FaultCause) : SampleRun opens measures s (Machine.reportFound cs s) := by
  obtain ⟨n, hn⟩ := reportFound_eq cs s
  rw [hn]
  exact .head (.drawn n s) (foldReport _)

theorem checkFirst (checked : Bool) (r : SampleRec) : SampleRun opens measures s (Machine.checkFirst checked r s) := by
  unfold Machine.checkFirst
  split
  · exact .refl
  · exact rememberSkew.trans (reportFound _)

theorem claimChecked {act : State → State} (h : SampleRun opens measures s (act s)) :
    SampleRun opens measures s (Machine.claimChecked act s) := by
  unfold Machine.claimChecked
  dsimp only
  split
  · exact h.trans (rememberSkew.trans (reportFound _))
  · exact h

theorem takeReport (failed : Bool) (c : FaultCause) :
    SampleRun opens measures s (Machine.takeReport failed s c) := by
  unfold Machine.takeReport
  split_ifs
  · exact claimChecked tareJudged
  · exact report _
  · exact .refl
  · exact report _

theorem reportAll (failed : Bool) (cs : List FaultCause) :
    SampleRun opens measures s (Machine.reportAll failed cs s) := by
  unfold Machine.reportAll
  induction cs generalizing s with
  | nil => exact .refl
  | cons c cs ih => exact (takeReport failed c).trans ih

/-- R99: the unit enters MEASURING among the reports only on its 16th reading in SETTLING. -/
theorem reportEarly (failed faulty : Bool) (cs : List FaultCause) (h : settlingDue s = true → measures) :
    SampleRun opens measures s (Machine.reportEarly failed faulty cs s) := by
  unfold Machine.reportEarly
  split
  · rename_i hdue
    have hentered : SampleRun opens measures s (enterMeasuring s) := .single (.measuring s (h (by simp_all)))
    unfold reportSettled
    split_ifs
    · exact hentered.trans (claimChecked reportMeasuring)
    · exact (hentered.tail (.drawn _ _)).trans ((claimChecked reportMeasuring).trans (reportAll _ _))
    · exact (hentered.tail (.drawn _ _)).trans ((reportAll _ _).trans (claimChecked reportMeasuring))
  · exact reportAll _ _

theorem moveSample (checked overload : Bool) (r : SampleRec) :
    SampleRun opens (settlingDue s = true) s (Machine.moveSample checked overload r s) := by
  obtain ⟨n, hn⟩ := sampleReports_draws checked overload s (demandRequest s) r
  have hdue : settlingDue (Machine.rememberSkew (s.setFree n)) = settlingDue s := by simp [settlingDue]
  rw [moveSample_eq]
  refine .trans ?_ ((regulateSample _ r).trans (reportAll _ _))
  unfold reportedEarly
  rw [hn]
  exact .head (.drawn n s) (rememberSkew.trans (reportEarly _ _ _ fun h => hdue ▸ h))

/-! ### The handling of the sample -/

theorem enterHeld (c : HoldCauses) : SampleRun opens measures s (Machine.enterHeld c s) :=
  .tail (.tail ((gotoState .held).tail (.sequenced _ _))
    (.noted (fun w => { w with holdCount := s.seq.holdCount + 1 }) (fun _ => rfl) _)) (.noticed _ _)

theorem holdOrAdvance : SampleRun opens measures s (Machine.holdOrAdvance s) := by
  unfold Machine.holdOrAdvance
  split
  · exact enterHeld _
  · exact .single (.sequenced _ s)

theorem enterRunning : SampleRun opens measures s (Machine.enterRunning s) :=
  .tail (.tail ((gotoState .running).tail (.sequenced _ _)) (.recorded _ _)) (.paired _ _)

theorem beginPhase (r : SampleRec) : SampleRun opens measures s (Machine.beginPhase r s) := by
  cases hp : s.curPhase with
  | none => simpa [Machine.beginPhase, hp] using .refl
  | some p =>
    have hbegun : SampleRun opens measures s (beginRegulator p r (pushNotice (.phaseBegun s.seq.phase)
        (s.setSeq { s.seq with phaseTime := 0, refValue := endQuantity s p.endKind r, phaseBegun := true }))) :=
      .tail (.tail (.single (.sequenced _ s)) (.noticed _ _)) (.regulated _ _ _ _ _ _)
    rw [beginPhase_of_phase r hp]
    refine .trans ?_ holdOrAdvance
    dsimp only [phaseStarted]
    split
    · exact hbegun.trans removeArm
    · exact hbegun

/-- R10, R86: the span opens where phase 1 begins. -/
theorem startPhaseOne (r : SampleRec) (h : opens) : SampleRun opens measures s (Machine.startPhaseOne r s) :=
  .trans (.tail (enterRunning.tail (.sequenced _ _)) (.opened _ h)) (beginPhase r)

theorem enterEnding (o : TestOutcome) (c : SwitchCause) : SampleRun opens measures s (Machine.enterEnding o c s) :=
  .tail (.head (.noted (fun w => { w with outcome := some o, endPhase := s.seq.phase }) (fun _ => rfl) s)
    ((gotoState .ending).trans (openArm c))) (.withdrawn _)

theorem enterDone : SampleRun opens measures s (Machine.enterDone s) :=
  .trans (.tail ((gotoState .done).trans (openArm .testEnd)) (.requested _ _ _)) (endTest _)

theorem nextPhase (r : SampleRec) : SampleRun opens measures s (Machine.nextPhase r s) := by
  unfold Machine.nextPhase
  dsimp only
  split
  · exact enterEnding _ _
  · have hmade : ∀ k n, SampleRun opens measures s (requestUnits n .phase (makeCurrent k s)) := fun k n =>
      .tail (.single (.sequenced _ s)) (.requested _ _ _)
    split
    · exact (hmade _ _).trans (enterRunning.trans (beginPhase r))
    · exact (hmade _ _).trans (enterHeld _)

theorem returnStep (r : SampleRec) : SampleRun opens measures s (Machine.returnStep r s) := by
  unfold Machine.returnStep
  split
  · exact .refl
  · split_ifs
    · exact enterDone
    · exact .refl
    · exact .single (.sequenced _ s)
    · exact .refl

theorem endingStep (r : SampleRec) : SampleRun opens measures s (Machine.endingStep r s) := by
  unfold Machine.endingStep
  split_ifs
  · exact .trans (.tail ((gotoState .returning).trans (openArm .testEnd)) (.requested _ _ _)) (returnStep r)
  · exact enterDone
  · exact .single (.sequenced _ s)
  · exact .refl

theorem endOnSample (o : TestOutcome) (r : SampleRec) : SampleRun opens measures s (Machine.endOnSample o r s) := by
  unfold Machine.endOnSample
  dsimp only
  split
  · exact (enterEnding _ _).trans (endingStep r)
  · exact enterEnding _ _

theorem endPhase (r : SampleRec) : SampleRun opens measures s (Machine.endPhase r s) := by
  have hnext : SampleRun opens measures s (Machine.nextPhase r (removalMade s)) := by
    unfold removalMade
    split
    · exact removeArm.trans (nextPhase r)
    · exact nextPhase r
  rw [endPhase_eq]
  split_ifs
  · exact hnext.trans (endingStep r)
  · exact hnext
  · exact hnext

theorem claimingSample (r : SampleRec) (h : opens) : SampleRun opens measures s (Machine.claimingSample r s) := by
  unfold Machine.claimingSample
  split_ifs
  · exact startPhaseOne r h
  · exact .single (.sequenced _ s)
  · exact .refl

theorem runningSample (r : SampleRec) (ended : Bool) : SampleRun opens measures s (Machine.runningSample r ended s) := by
  unfold Machine.runningSample
  split_ifs
  · exact endOnSample _ r
  · exact endPhase r
  · exact holdOrAdvance

theorem heldSample (r : SampleRec) : SampleRun opens measures s (Machine.heldSample r s) := by
  have hresumed : SampleRun opens measures s (resume r s) := by
    unfold resume
    dsimp only
    split
    · exact .head (.noticed _ s) enterRunning
    · exact .head (.noticed _ s) (enterRunning.trans (beginPhase r))
  unfold Machine.heldSample
  split_ifs
  · exact endOnSample _ r
  · exact hresumed
  · exact .single (.sequenced _ s)
  · exact .refl

/-- R10: the span opens on no sample but one that finds the sequencer CLAIMING. -/
theorem handleSample (r : SampleRec) (ended : Bool) :
    SampleRun (s.seq.state = .claiming) measures s (Machine.handleSample r ended s) := by
  have hcount : SampleRun (s.seq.state = .claiming) measures s (countSample s) := .single (.sequenced _ s)
  unfold Machine.handleSample
  dsimp only
  split
  · rename_i hq
    exact hcount.trans (claimingSample r hq)
  · exact hcount.trans (runningSample r ended)
  · exact hcount.trans (heldSample r)
  · exact hcount.trans (endingStep r)
  · exact hcount.trans (returnStep r)
  · exact hcount

/-! ### The follow sequencer -/

theorem followTo (q : SeqState) : SampleRun opens measures s (Machine.followTo q s) := .single (.followed _ s)

theorem updateShare (m : Level) : SampleRun opens measures s (Machine.updateShare m s) := by
  unfold Machine.updateShare
  split_ifs
  · exact .single (.followed _ s)
  · exact .tail (.single (.followed _ s)) (.requested _ _ _)
  · exact .refl

theorem followLead (m : Level) : SampleRun opens measures s (Machine.followLead m s) := by
  have hidle : SampleRun opens measures s (idleFollow s) :=
    .tail (.tail (.single (.followed _ s)) (.regulated _ _ _ _ _ _)) (.requested _ _ _)
  unfold Machine.followLead
  split
  case h_9 | h_10 | h_11 | h_14 | h_15 => exact followTo _
  case h_12 | h_13 => split_ifs <;> exact followTo _
  all_goals exact hidle

theorem followActive : SampleRun opens measures s (Machine.followActive s) := by
  have hlost : SampleRun opens measures s (followLost s) := .single (.followed _ s)
  unfold Machine.followActive
  split
  · exact hlost
  · split
    · exact hlost
    · exact (updateShare _).trans (followLead _)

theorem followSample : SampleRun opens measures s (Machine.followSample s) := by
  unfold Machine.followSample
  split
  · split
    · exact (followTo _).trans followActive
    · exact .refl
  case h_5 => exact .refl
  all_goals exact followActive

/-! ### The whole sample -/

/-- R23, R24: a report does not take the sequencer to CLAIMING. -/
theorem notClaiming_kept : KeptByReports fun u => u.seq.state ≠ .claiming where
  reads := fun _ hseq _ _ h => hseq ▸ h
  report := fun {u} c h => by
    rcases report_state c u with he | he | he <;> simp_all

theorem handledIn {checked ended : Bool} {x : ExtView} {r : SampleRec} (h : HandledIn checked ended x r s t) :
    SampleRun (s.seq.state = .claiming) measures s t := by
  obtain ⟨n, m, h⟩ := h
  have hfirst : SampleRun (s.seq.state = .claiming) measures s (Machine.checkFirst checked r (s.setFree n)) :=
    .head (.drawn n s) (checkFirst checked r)
  have hclaim : (Machine.checkFirst checked r (s.setFree n)).seq.state = .claiming → s.seq.state = .claiming := fun hq => by
    by_contra hno
    exact notClaiming_kept.checkFirst checked r (s := s.setFree n) hno hq
  have hhandle : ∀ u : State, u.seq = (Machine.checkFirst checked r (s.setFree n)).seq →
      SampleRun (s.seq.state = .claiming) measures u (Machine.handleSample r ended u) := fun u hu =>
    (handleSample r ended).mono (fun hq => hclaim (by rwa [← hu])) id
  rcases h with ⟨-, rfl⟩ | ⟨-, rfl | rfl⟩
  · exact hfirst.trans (hhandle _ rfl)
  · exact (hfirst.tail (.drawn m _)).trans ((examineSample x r).trans (hhandle _ (by simp)))
  · exact (hfirst.tail (.drawn m _)).trans ((hhandle ((Machine.checkFirst checked r (s.setFree n)).setFree m) rfl).trans (examineSample x r))

theorem takeGripsUnreported : SampleRun opens measures s (Machine.takeGripsUnreported s) := by
  unfold Machine.takeGripsUnreported
  split
  · exact .refl
  · exact takeGripsLow

theorem takeGripsUnreported_claiming (hq : (Machine.takeGripsUnreported s).seq.state = .claiming) :
    s.seq.state = .claiming := by
  unfold Machine.takeGripsUnreported at hq
  split at hq
  · exact hq
  · rcases takeGripsLow_cases s with he | ⟨harmed, -⟩
    · rwa [he] at hq
    · simp [harmed] at hq

theorem handSample (checked ended : Bool) (x : ExtView) (r : SampleRec) :
    SampleRun (s.seq.state = .claiming) measures s (Machine.handSample checked x r ended s) := by
  unfold Machine.handSample
  split
  · exact followSample
  · exact takeGripsUnreported.trans ((handledIn (handledIn_testSample checked ended x r _ _)).mono
      takeGripsUnreported_claiming id)

end SampleRun
end Sys2Proof.Proofs
end

section
namespace Sys2Proof.Proofs
open Sys2Proof.Machine Sys2Proof.Safety Sys2Proof.Laws

/-! ## What stands after a sample is completed -/

/-- The load channel but for what the end of a test and the judgment of a tare write. -/
def withoutOffset (l : LoadCh) : LoadCh := { withoutTare l with tareOffset := 0 }

theorem fields_of_withoutOffset {l m : LoadCh} (h : withoutOffset l = withoutOffset m) :
    l.conv = m.conv ∧ l.reading = m.reading ∧ l.nextIndex = m.nextIndex ∧ l.last = m.last
      ∧ l.statusLoad = m.statusLoad ∧ l.range = m.range ∧ l.settleCount = m.settleCount ∧ l.peak = m.peak
      ∧ l.breakArmed = m.breakArmed ∧ l.breakFound = m.breakFound := by
  simp_all [withoutOffset, withoutTare]

theorem closeSpan_withoutOffset (s : State) : withoutOffset (closeSpan s).load = withoutOffset s.load := by
  simp [withoutOffset, withoutTare, closeSpan]

/-- R86, R91: the search is as it was, or a search in progress has been given up with the test. -/
def SearchStands (y z : YieldSearch) : Prop := z = y ∨ (y = .searching ∧ z = .inactive)

theorem closeSpan_search (s : State) : SearchStands s.load.yieldSearch (closeSpan s).load.yieldSearch := by
  unfold SearchStands closeSpan
  by_cases h : s.load.yieldSearch = .searching <;> simp [h]

theorem pushNotice_subset (k : NoticeKind) (s : State) : s.link.notices ⊆ (pushNotice k s).link.notices :=
  (noticesFollow_pushNotice k s).subset

theorem writeRecord_detectorPart {g : TestRecord → TestRecord} (hg : ∀ w, detectorPart (g w) = detectorPart w)
    (s : State) : (writeRecord g s).testRec.map detectorPart = s.testRec.map detectorPart := by
  cases h : s.testRec <;> simp [writeRecord, h, hg]

theorem closeCollection_detectorPart (s : State) :
    (closeCollection s).testRec.map detectorPart = s.testRec.map detectorPart := by
  cases h : s.testRec <;> simp [closeCollection, h, detectorPart, TestRecord.withCounts]

/-- R99, R100: the measured pair and the zero are as they were, or, where `measures` allows it, the reading of a tick
has become the zero. -/
def ZeroStands (measures : Prop) (s t : State) : Prop :=
  (t.ext.pair = s.ext.pair ∧ t.ext.zero = s.ext.zero)
    ∨ (measures ∧ t.ext.pair = some (0, s.travel.latched) ∧ t.ext.zero = some s.ext.lastReading)

/-- R73 to R91, R99, R100: what the load channel, its detectors and the readings of the extensometer have written on a
sample stands; the test span opens, and the unit enters MEASURING, only where `opens` and `measures` allow it. -/
structure SampleStands (opens measures : Prop) (s t : State) : Prop where
  counter : t.travel.counter = s.travel.counter
  velocity : t.travel.velocity = s.travel.velocity
  latched : t.travel.latched = s.travel.latched
  load : withoutOffset t.load = withoutOffset s.load
  search : opens ∨ SearchStands s.load.yieldSearch t.load.yieldSearch
  record : t.testRec.map detectorPart = s.testRec.map detectorPart
  notices : s.link.notices ⊆ t.link.notices
  strainCount : t.ext.strainCount = s.ext.strainCount
  lastReading : t.ext.lastReading = s.ext.lastReading
  zero : ZeroStands measures s t
  settling : t.ext.state = .settling → s.ext.state = .settling

namespace SampleStands

variable {opens measures : Prop} {s t u : State}

theorem refl (s : State) : SampleStands opens measures s s :=
  ⟨rfl, rfl, rfl, rfl, .inr (.inl rfl), rfl, List.Subset.refl _, rfl, rfl, .inl ⟨rfl, rfl⟩, id⟩

theorem trans (h1 : SampleStands opens measures s t) (h2 : SampleStands opens measures t u) : SampleStands opens measures s u where
  counter := h2.counter.trans h1.counter
  velocity := h2.velocity.trans h1.velocity
  latched := h2.latched.trans h1.latched
  load := h2.load.trans h1.load
  search := by
    rcases h1.search with h | h1 | ⟨hs, ht⟩
    · exact .inl h
    · rcases h2.search with h | h2 | ⟨ht, hu⟩
      · exact .inl h
      · exact .inr (.inl (h2.trans h1))
      · exact .inr (.inr ⟨h1.symm.trans ht, hu⟩)
    · rcases h2.search with h | h2 | ⟨ht', -⟩
      · exact .inl h
      · exact .inr (.inr ⟨hs, h2.trans ht⟩)
      · simp [ht] at ht'
  record := h2.record.trans h1.record
  notices := List.Subset.trans h1.notices h2.notices
  strainCount := h2.strainCount.trans h1.strainCount
  lastReading := h2.lastReading.trans h1.lastReading
  zero := by
    rcases h2.zero with ⟨hp, hz⟩ | ⟨hm, hp, hz⟩
    · rcases h1.zero with ⟨hp', hz'⟩ | ⟨hm, hp', hz'⟩
      · exact .inl ⟨hp.trans hp', hz.trans hz'⟩
      · exact .inr ⟨hm, hp.trans hp', hz.trans hz'⟩
    · exact .inr ⟨hm, h1.latched ▸ hp, h1.lastReading ▸ hz⟩
  settling := fun h => h1.settling (h2.settling h)

theorem write (h : SampleWrite opens measures s t) : SampleStands opens measures s t := by
  cases h with
  | sequenced | followed | paired | recorded | stopped | drawn | stopFramed | regulated =>
    exact ⟨rfl, rfl, rfl, rfl, .inr (.inl rfl), rfl, List.Subset.refl _, rfl, rfl, .inl ⟨rfl, rfl⟩, id⟩
  | tared =>
    exact ⟨rfl, rfl, rfl, rfl, .inr (.inl rfl), rfl, List.Subset.refl _, rfl, rfl, .inl ⟨rfl, rfl⟩, id⟩
  | measuring _ hm =>
    exact ⟨rfl, rfl, rfl, rfl, .inr (.inl rfl), rfl, List.Subset.refl _, rfl, rfl, .inr ⟨hm, rfl, rfl⟩,
      fun h => by simp [enterMeasuring] at h⟩
  | armed e _ he =>
    obtain ⟨hp, hz, hc, hr, hst⟩ := he
    exact ⟨rfl, rfl, rfl, rfl, .inr (.inl rfl), rfl, List.Subset.refl _, hc, hr, .inl ⟨hp, hz⟩, hst⟩
  | requested | withdrawn =>
    constructor <;> simp [SearchStands, ZeroStands]
  | noticed k => constructor <;> simp [SearchStands, ZeroStands, pushNotice_subset]
  | noted g hg =>
    exact ⟨rfl, rfl, rfl, rfl, .inr (.inl rfl), writeRecord_detectorPart hg s, List.Subset.refl _, rfl,
      rfl, .inl ⟨rfl, rfl⟩, id⟩
  | collected => constructor <;> simp [SearchStands, ZeroStands, closeCollection_detectorPart]
  | closed =>
    exact ⟨rfl, rfl, rfl, closeSpan_withoutOffset s, .inr (closeSpan_search s), rfl,
      List.Subset.refl _, rfl, rfl, .inl ⟨rfl, rfl⟩, id⟩
  | opened _ hp =>
    exact ⟨rfl, rfl, rfl, rfl, .inl hp, rfl, List.Subset.refl _, rfl, rfl, .inl ⟨rfl, rfl⟩, id⟩

theorem run (h : SampleRun opens measures s t) : SampleStands opens measures s t := by
  induction h with
  | refl => exact refl s
  | tail _ hst ih => exact ih.trans (write hst)

end SampleStands

theorem settlingDue_iff (s : State) : settlingDue s = true ↔ s.ext.state = .settling ∧ 16 ≤ s.ext.strainCount := by
  have hcount : decide (settleReadings ≤ s.ext.strainCount) = true ↔ 16 ≤ s.ext.strainCount := decide_eq_true_iff
  simp [settlingDue, hcount]

theorem SampleStands.settlingDue {opens measures : Prop} {s t : State} (h : SampleStands opens measures s t)
    (hd : Machine.settlingDue t = true) : Machine.settlingDue s = true := by
  rw [settlingDue_iff, h.strainCount] at hd
  exact (settlingDue_iff s).2 ⟨h.settling hd.1, hd.2⟩

theorem takenSample_ext (v : LoadView) (s : State) : (takenSample v s).ext = (takeMeasured v.record s).ext := by
  unfold takenSample takeMeasured
  split <;> simp

/-- R74: what stands after the load channel, the extensometer pair, the store and the pair unit have taken a sample
stands after the sequencer's handling and the reports of the sample. -/
theorem completeSample_stands (reading : Int) (strain : Option Int) (s : State) :
    SampleStands (s.seq.state = .claiming) (settlingDue s = true) (takenSample (loadView reading strain s) s)
      (completeSample reading strain s) := by
  have hseq : (takenSample (loadView reading strain s) s).seq = s.seq := by simp [takenSample]
  have hdue : settlingDue (takenSample (loadView reading strain s) s) = settlingDue s := by
    rw [settlingDue, takenSample_ext, settlingDue]
    unfold takeMeasured
    split <;> rfl
  obtain ⟨n, hn⟩ := drawCheck_draws (takenSample (loadView reading strain s) s)
  have hdrawn : SampleRun (s.seq.state = .claiming) (settlingDue s = true)
      (takenSample (loadView reading strain s) s) (drawCheck (takenSample (loadView reading strain s) s)).2 :=
    hn ▸ .single (.drawn n _)
  have hclaim : (drawCheck (takenSample (loadView reading strain s) s)).2.seq.state = .claiming →
      s.seq.state = .claiming := by
    rw [hn]
    exact fun h => hseq ▸ h
  have hhanded := hdrawn.trans ((SampleRun.handSample (drawCheck (takenSample (loadView reading strain s) s)).1
    ((loadView reading strain s).yieldStep == .limit)
    { reading := strain.getD 0, peak := s.load.peak, inSpan := s.load.spanOpen }
    (loadView reading strain s).record).mono hclaim id)
  refine .run (hhanded.trans ((SampleRun.moveSample _ _ _).mono id fun h => ?_))
  rw [← hdue]
  exact (SampleStands.run hhanded).settlingDue h
end Sys2Proof.Proofs
end

section
namespace Sys2Proof.Proofs
open Sys2Proof.Machine Sys2Proof.Safety Sys2Proof.Laws

/-! ## The record of a sample -/

/-- R73, R78: the ends of the span are the saturated readings, and a reading beyond them is taken as one. -/
theorem saturatedNarrow_clampReading (l : LoadCh) (reading : Int) :
    saturatedNarrow l (clampReading reading) = true ↔ l.range ≠ .r1 ∧ 1100000 ≤ reading.natAbs := by
  have hclamp : clampReading reading = max (-1100000) (min 1100000 reading) := rfl
  have hend : (clampReading reading).natAbs = 1100000 ↔ 1100000 ≤ reading.natAbs := by omega
  rw [saturatedNarrow_iff, hend]

theorem loadView_held_iff (reading : Int) (strain : Option Int) (s : State) : (loadView reading strain s).held = true ↔
    s.load.settling = true ∨ (s.load.range ≠ .r1 ∧ 1100000 ≤ reading.natAbs) := by
  have hheld : (loadView reading strain s).held = (s.load.settling || saturatedNarrow s.load (clampReading reading)) :=
    rfl
  rw [hheld, Bool.or_eq_true, saturatedNarrow_clampReading]

theorem loadView_load_held {reading : Int} {strain : Option Int} {s : State} {p : SampleRec}
    (h : (loadView reading strain s).held = true) (hp : s.load.last = some p) :
    (loadView reading strain s).load = p.load := by
  have hload : (loadView reading strain s).load = s.carriedLoad := if_pos h
  simp [hload, State.carriedLoad, hp]

theorem loadView_load_accepted {reading : Int} {strain : Option Int} {s : State}
    (h : (loadView reading strain s).held = false) :
    (loadView reading strain s).load = netLoad s (loadView reading strain s).gross :=
  if_neg (c := (loadView reading strain s).held = true) (by simp [h])

theorem netLoad_unconfigured {s : State} (gross : Int) (h : s.start.config = none) : netLoad s gross = 0 := by
  simp [netLoad, State.configured, h]

theorem netLoad_configured {s : State} (gross : Int) (h : s.start.config ≠ none) :
    netLoad s gross = clamp32 (gross - s.load.tareOffset) := by
  simp [netLoad, State.configured, Option.isSome_iff_ne_none.2 h]

/-- R74: index and position are those of the sample on every station. -/
theorem loadView_record_fields (reading : Int) (strain : Option Int) (s : State) :
    (loadView reading strain s).record.index = s.load.nextIndex
      ∧ (loadView reading strain s).record.position = s.travel.latched := by
  cases hf : s.isFollow <;> simp [loadView, sampleRecord, followRecord, hf]

theorem loadView_record_follow {s : State} (reading : Int) (strain : Option Int) (hf : s.isFollow = true) :
    (loadView reading strain s).record = followRecord s := by
  simp [loadView, sampleRecord, hf]

/-- R74: the record of a test station. -/
theorem loadView_record_test {s : State} (reading : Int) (strain : Option Int) (hf : s.isFollow = false) :
    (loadView reading strain s).record =
      { index := s.load.nextIndex, load := (loadView reading strain s).load, position := s.travel.latched
        strain := (sampleStrain s strain).1, phase := s.seq.phase, ext := (sampleStrain s strain).2
        held := (loadView reading strain s).held, hold := s.seq.state == .held
        yieldFlag := (loadView reading strain s).yieldStep == .found
        brk := breakOn s (loadView reading strain s).held (loadView reading strain s).load } := by
  simp [loadView, sampleRecord, hf]

theorem sampleStrain_crosshead {s : State} {strain : Option Int} (h : strain = none ∨ s.ext.state ≠ .measuring) :
    sampleStrain s strain = (s.crossheadStrain s.travel.latched, false) := by
  rcases h with rfl | h
  · rfl
  · cases strain <;> simp [sampleStrain, h]

theorem sampleStrain_measuring {s : State} (v : Int) (h : s.ext.state = .measuring) :
    sampleStrain s (some v) = (s.ext.strainOf v, true) := by
  simp [sampleStrain, h]

/-! ## The load channel after a sample -/

theorem decideRange_fields (l : LoadCh) (capacity : Nat) (configured : Bool) (gross reading : Int) :
    (l.decideRange capacity configured gross reading).nextIndex = l.nextIndex
      ∧ (l.decideRange capacity configured gross reading).range = l.range
      ∧ (l.decideRange capacity configured gross reading).settleCount = l.settleCount
      ∧ (l.decideRange capacity configured gross reading).peak = l.peak
      ∧ (l.decideRange capacity configured gross reading).breakArmed = l.breakArmed
      ∧ (l.decideRange capacity configured gross reading).breakFound = l.breakFound
      ∧ (l.decideRange capacity configured gross reading).yieldSearch = l.yieldSearch := by
  unfold LoadCh.decideRange
  split_ifs
  · exact ⟨rfl, rfl, rfl, rfl, rfl, rfl, rfl⟩
  · exact ⟨rfl, rfl, rfl, rfl, rfl, rfl, rfl⟩
  · exact ⟨rfl, rfl, rfl, rfl, rfl, rfl, rfl⟩
  · split <;> exact ⟨rfl, rfl, rfl, rfl, rfl, rfl, rfl⟩

theorem completed_fields (v : LoadView) (s : State) :
    (LoadCh.completed s v).conv = .idle ∧ (LoadCh.completed s v).reading = none
      ∧ (LoadCh.completed s v).nextIndex = s.load.nextIndex + 1 ∧ (LoadCh.completed s v).last = some v.record
      ∧ (LoadCh.completed s v).statusLoad = v.load ∧ (LoadCh.completed s v).range = s.load.range
      ∧ (LoadCh.completed s v).settleCount = s.load.settleCount - 1 := by
  obtain ⟨hindex, hrange, hcount, -⟩ := decideRange_fields s.load s.loadCapacity s.configured v.gross v.reading
  unfold LoadCh.completed
  dsimp only
  split <;> simp [LoadCh.detected, hindex, hrange, hcount]

/-- R86 to R90: the detector state of a test station after the sample. -/
theorem completed_detected {v : LoadView} {s : State} (hf : s.isFollow = false) :
    (LoadCh.completed s v).peak = (if newPeak s v.record.held v.record.load then
        some { load := v.record.load, position := v.record.position, strain := v.record.strain } else s.load.peak)
      ∧ (LoadCh.completed s v).breakArmed = (s.load.breakArmed
          || (detectorsRun s v.record.held && aboveArm s.loadCapacity s.armFraction v.record.load))
      ∧ (LoadCh.completed s v).breakFound = (s.load.breakFound || v.record.brk)
      ∧ (LoadCh.completed s v).yieldSearch = s.load.yieldSearch.after v.yieldStep := by
  obtain ⟨-, -, -, hpeak, harmed, hfound, hsearch⟩ :=
    decideRange_fields s.load s.loadCapacity s.configured v.gross v.reading
  simp [LoadCh.completed, hf, LoadCh.detected, hpeak, harmed, hfound, hsearch]

theorem takenSample_load (v : LoadView) (s : State) : (takenSample v s).load = LoadCh.completed s v := by
  rw [← completeLoad_load]
  simp [takenSample]

/-- R73 to R80: what every completed sample leaves in the load channel. -/
theorem completeSample_load (reading : Int) (strain : Option Int) (s : State) :
    (completeSample reading strain s).load.conv = .idle ∧ (completeSample reading strain s).load.reading = none
      ∧ (completeSample reading strain s).load.nextIndex = s.load.nextIndex + 1
      ∧ (completeSample reading strain s).load.last = some (loadView reading strain s).record
      ∧ (completeSample reading strain s).load.statusLoad = (loadView reading strain s).load
      ∧ (completeSample reading strain s).load.range = s.load.range
      ∧ (completeSample reading strain s).load.settleCount = s.load.settleCount - 1 := by
  obtain ⟨hconv, hread, hindex, hlast, hstatus, hrange, hcount, -⟩ :=
    fields_of_withoutOffset (completeSample_stands reading strain s).load
  rw [hconv, hread, hindex, hlast, hstatus, hrange, hcount, takenSample_load]
  exact completed_fields (loadView reading strain s) s

/-! ## The tare on a completed sample -/

/-- R8, R82, R83: a sequencer that still tares has this attempt, which is not full or is stable. -/
def TareGoesOn (a : Tare) (s : State) : Prop :=
  TestStation s ∧ (s.seq.state = .taring →
    s.load.tare = some a ∧ (a.loads.length ≠ 16 ∨ tareStable s.loadCapacity a.loads = true))

theorem tareGoesOn_kept (a : Tare) : KeptByReports (TareGoesOn a) where
  reads := by
    intro s t hstart hseq hload _ h
    simpa only [TareGoesOn, TestStation, State.loadCapacity, hstart, hseq, hload] using h
  report := by
    rintro s c ⟨hs, hq⟩
    refine ⟨by simpa [TestStation] using hs, fun ht => ?_⟩
    rcases report_haltsOrStays c hs with ⟨hseq, hload, -⟩ | ⟨hst, -⟩
    · rw [hload, loadCapacity_of_start (s := s) (by simp)]
      exact hq (hseq ▸ ht)
    · simp [ht] at hst

/-- R83: the judgment of a stable attempt ends the tare, and an attempt that is not full is not judged. -/
theorem TareGoesOn.judged {a : Tare} {s : State} (h : TareGoesOn a s) : TareGoesOn a (tareJudged s) := by
  obtain ⟨hs, hq⟩ := id h
  by_cases ht : s.seq.state = .taring
  · obtain ⟨ha, hno | hstable⟩ := hq ht
    · rwa [show tareJudged s = s by simp [tareJudged, ha, tareSamples, hno]]
    · by_cases hl : a.loads.length = 16
      · refine ⟨by simpa [TestStation] using hs, fun hst => absurd hst ?_⟩
        rw [tareJudged_due ht ha hl, judgeTare_succeeds hstable, takeGripsLow_stays (.inl (tareSucceeded_state _ hs))]
        exact tareSucceeded_state _ hs
      · rwa [show tareJudged s = s by simp [tareJudged, ha, tareSamples, hl]]
  · rwa [tareJudged_idle ht]

theorem TareGoesOn.measured {a : Tare} {s : State} (h : TareGoesOn a s) : TareGoesOn a (reportMeasuring s) := by
  by_cases ht : s.seq.state = .attaching
  · exact ⟨by simpa [TestStation] using h.1, fun hq => by simp [(reportMeasuring_state s).1 hq] at ht⟩
  · rwa [reportMeasuring_idle ht]

/-- R82: while the sample is handled, the sequencer tares with this attempt, or it waits in a state without a tare. -/
def TareWaits (a : Tare) (s : State) : Prop :=
  TestStation s ∧ ((s.seq.state = .taring ∧ s.load.tare = some a)
    ∨ s.seq.state = .armed ∨ s.seq.state = .stopped ∨ s.seq.state = .faulted)

theorem tareWaits_kept (a : Tare) : KeptByReports (TareWaits a) where
  reads := by
    intro s t hstart hseq hload _ h
    simpa only [TareWaits, TestStation, hstart, hseq, hload] using h
  report := by
    rintro s c ⟨hs, hq⟩
    refine ⟨by simpa [TestStation] using hs, ?_⟩
    rcases report_haltsOrStays c hs with ⟨hseq, hload, -⟩ | ⟨hst, -⟩
    · rwa [hseq, hload]
    · exact .inr (.inr hst)

theorem TareWaits.counted {a : Tare} {s : State} (h : TareWaits a s) :
    s.seq.state.actsOnSample = false ∧ TareWaits a (countSample s) := by
  refine ⟨?_, by simpa [TareWaits, TestStation, countSample] using h⟩
  obtain ⟨-, ⟨hq, -⟩ | hq | hq | hq⟩ := h <;> rw [hq] <;> rfl

theorem TareWaits.gripsTaken {a : Tare} {s : State} (h : TareWaits a s) : TareWaits a (takeGripsUnreported s) := by
  unfold takeGripsUnreported
  split
  · exact h
  · rcases takeGripsLow_cases s with he | ⟨harmed, -⟩
    · rwa [he]
    · exact ⟨by simpa [TestStation] using h.1, .inr (.inl harmed)⟩

/-- R84, R154: an attempt that is unstable is judged beside a fault of the same sample only, which abandons it. -/
theorem moveSample_unstable {checked overload : Bool} {r : SampleRec} {s : State} {a : Tare} (h : Haltable s)
    (hq : s.seq.state = .taring) (ht : s.load.tare = some a) (hun : tareStable s.loadCapacity a.loads = false) :
    TareHalted (moveSample checked overload r s) ∨ (moveSample checked overload r s).load.tare = some a := by
  have hreported : ∀ c, c ≠ .tareUnstable →
      c ∈ sampleFaults checked overload s (demandRequest s) r ∨ (overload = true ∧ c = .overload) →
      TareHalted (moveSample checked overload r s) :=
    fun c hne hc => (reportedWithin_moveSample (mem_sampleReports hc) hne).halts h
  cases overload with
  | true => exact .inl (hreported .overload (by simp) (.inr ⟨rfl, rfl⟩))
  | false =>
    by_cases hnone : sampleFaults checked false s (demandRequest s) r = []
    · have hentry : entryFaults s = [] := by simp [entryFaults, claimDue, hq, tareHolds, ht, hun]
      right
      rw [moveSample_of_no_faults hnone hentry]
      simpa using ht
    · obtain ⟨c, hc⟩ := List.exists_mem_of_ne_nil _ hnone
      exact .inl (hreported c (sampleFaults_excludes hc).2 (.inl hc))

/-- R82, R83: where the sequencer still tares after the reports of the sample, its attempt is as it was before them. -/
theorem moveSample_tare {checked overload : Bool} {r : SampleRec} {s : State} {a : Tare} (hs : TestStation s)
    (hq : s.seq.state = .taring) (ht : s.load.tare = some a) (hl : a.loads.length ≠ 16 ∨ Haltable s)
    (hend : (moveSample checked overload r s).seq.state = .taring) :
    (moveSample checked overload r s).load.tare = some a := by
  have hgoes : a.loads.length ≠ 16 ∨ tareStable s.loadCapacity a.loads = true →
      (moveSample checked overload r s).load.tare = some a := fun hk => by
    have hkept := (tareGoesOn_kept a).moveSample TareGoesOn.judged TareGoesOn.measured checked overload r
      (s := s) ⟨hs, fun _ => ⟨ht, hk⟩⟩
    exact (hkept.2 hend).1
  rcases hl with hl | hhalt
  · exact hgoes (.inl hl)
  · cases hst : tareStable s.loadCapacity a.loads with
    | true => exact hgoes (.inr hst)
    | false =>
      refine (moveSample_unstable hhalt hq ht hst).resolve_left fun hhalted => ?_
      rcases hhalted.1 with h | h <;> simp [hend] at h

/-- R82: the attempt after a sample with this gross load. -/
def tareSampled (a : Tare) (held : Bool) (gross : Int) : Tare :=
  if held ∨ 16 ≤ a.loads.length then a else { a with loads := a.loads ++ [gross] }

theorem tareAfter_sampled {l : LoadCh} {a : Tare} (held : Bool) (gross : Int) (ht : l.tare = some a) :
    tareAfter l held gross = some (tareSampled a held gross) := by
  cases held with
  | true => simp [tareAfter, tareSampled, ht]
  | false =>
    by_cases hl : a.loads.length < 16
    · simp [tareAfter, tareSampled, Tare.join, ht, tareSamples, hl, not_le.2 hl]
    · simp [tareAfter, tareSampled, Tare.join, ht, tareSamples, hl, not_lt.1 hl]

/-- R82: an attempt of fewer than 15 loads is not full after the sample. -/
theorem tareSampled_length {a : Tare} (held : Bool) (gross : Int) (h : a.loads.length < 15) :
    (tareSampled a held gross).loads.length ≠ 16 := by
  unfold tareSampled
  split
  · omega
  · simp only [List.length_append, List.length_singleton]
    omega

/-- R80, R82, R84: the gross load of an accepted sample joins the tare attempt of a sequencer that still tares after
it. -/
theorem completeSample_tare {reading : Int} {strain : Option Int} {s : State} {a : Tare} (hs : TestStation s)
    (ht : s.load.tare = some a) (hl : a.loads.length < 15 ∨ s.stop.latch = false)
    (hend : (completeSample reading strain s).seq.state = .taring) : (completeSample reading strain s).load.tare
      = some (tareSampled a (loadView reading strain s).record.held (loadView reading strain s).gross) := by
  obtain ⟨checked, h, hh, -, he⟩ := completeSample_handles reading strain (isFollow_of_testStation hs)
  obtain ⟨hstart, hseq, -, -, -, htare⟩ := takenSample_taken reading strain (isFollow_of_testStation hs)
  rw [tareAfter_sampled _ _ ht] at htare
  rw [he] at hend ⊢
  have hhanded := handedSample_test hh
  have hq : h.seq.state = .taring := (KeepsOverload.run (reportRun_moveSample _ _ _ h)).2 hend
  have hqs : s.seq.state = .taring := hhanded.taring hq
  have htaken : TareWaits _ (takenSample (loadView reading strain s) s) :=
    ⟨by simpa [TestStation, hstart] using hs, .inl ⟨by rw [hseq, hqs], htare⟩⟩
  obtain ⟨hs', hwaits⟩ := (tareWaits_kept _).handledIn TareWaits.counted htaken.gripsTaken hh
  have ht' := (hwaits.resolve_right (by simp [hq])).2
  exact moveSample_tare hs' hq ht' (hl.imp (tareSampled_length _ _) fun hlatch => hhanded.haltable hqs hlatch hs) hend

end Sys2Proof.Proofs
end

section
namespace Sys2Proof.Proofs
open Sys2Proof.Machine Sys2Proof.Safety Sys2Proof.Laws

/-! ## The sample that a conversion completes -/

/-- R73, R74, R80, R82: the record `r` of a test station, from this load reading, and the tare attempt after it. -/
structure RecordTaken (reading : Int) (r : SampleRec) (s t : State) : Prop where
  phase : r.phase = s.seq.phase
  hold : r.hold = decide (s.seq.state = .held)
  statusLoad : t.load.statusLoad = r.load
  held : r.held = true ↔ s.load.settling = true ∨ (s.load.range ≠ .r1 ∧ 1100000 ≤ reading.natAbs)
  carried : r.held = true → ∀ p, s.load.last = some p → r.load = p.load
  unconfigured : r.held = false → s.start.config = none → r.load = 0
  net : r.held = false → s.start.config ≠ none → r.load
    = clamp32 ((max (-1100000) (min 1100000 reading) * (s.loadCapacity * s.load.range.percent)).tdiv 100000000
        - s.load.tareOffset)
  tare : ∀ a, s.start.strapFault = false → s.load.tare = some a → t.seq.state = .taring →
    a.loads.length < 15 ∨ s.stop.latch = false → t.load.tare
      = if r.held ∨ 16 ≤ a.loads.length then some a
      else some { a with loads := a.loads ++ [(max (-1100000) (min 1100000 reading)
        * (s.loadCapacity * s.load.range.percent)).tdiv 100000000] }

theorem completeSample_record {s : State} (reading : Int) (strain : Option Int) (hf : s.isFollow = false) :
    RecordTaken reading (loadView reading strain s).record s (completeSample reading strain s) := by
  obtain ⟨-, -, -, -, hstatus, -⟩ := completeSample_load reading strain s
  have hrec := loadView_record_test reading strain hf
  have hheld : (loadView reading strain s).record.held = (loadView reading strain s).held := by rw [hrec]
  have hload : (loadView reading strain s).record.load = (loadView reading strain s).load := by rw [hrec]
  constructor
  case phase => rw [hrec]
  case hold => rw [hrec, beq_eq_decide]
  case statusLoad => rw [hstatus, hload]
  case held => rw [hheld, loadView_held_iff]
  case carried =>
    rw [hheld, hload]
    exact fun h p => loadView_load_held h
  case unconfigured =>
    rw [hheld, hload]
    exact fun h hc => (loadView_load_accepted h).trans (netLoad_unconfigured _ hc)
  case net =>
    rw [hheld, hload]
    exact fun h hc => (loadView_load_accepted h).trans (netLoad_configured _ hc)
  case tare =>
    intro a hs ht hq hl
    have hrole : s.start.role ≠ .follow := by simpa [State.isFollow] using hf
    rw [completeSample_tare ⟨hs, hrole⟩ ht hl hq, tareSampled, apply_ite some]
    rfl

theorem RecordTaken.finished {reading : Int} {r : SampleRec} {s t : State} (old : State)
    (h : RecordTaken reading r s t) : RecordTaken reading r s (finish old t) where
  phase := h.phase
  hold := h.hold
  statusLoad := by simpa using h.statusLoad
  held := h.held
  carried := h.carried
  unconfigured := h.unconfigured
  net := h.net
  tare := by simpa using h.tare

/-- R71: while the extensometer asks for a strain conversion, the load conversion leads to it. -/
theorem exec_loadConversionEnd_leads {reading : Int} {s : State} (hp : PortSafe s)
    (hc : s.load.conv = .acquiringLoad ∨ s.load.conv = .convertingLoad)
    (he : s.ext.state = .settling ∨ s.ext.state = .measuring) : exec (.loadConversionEnd reading) s
      = .next (s.setLoad { s.load with conv := .acquiringStrain, convTimer := 0, reading := some reading }) := by
  have hasks : s.ext.state.asksStrain = true := by rcases he with he | he <;> rw [he] <;> rfl
  show Host.Outcome.next (finish s (loadConversionEnd reading s)) = _
  rw [loadConversionEnd, if_pos hc, if_pos hasks, finish_setLoad hp]

theorem exec_loadConversionEnd_completes {reading : Int} {s : State} (h : LoadEnds s) :
    exec (.loadConversionEnd reading) s = .next (finish s (completeSample reading none s)) := by
  rw [← loadConversionEnd_completes reading h]
  rfl

theorem exec_strainConversionEnd_completes {reading l : Int} {s : State} (h : StrainEnds s)
    (hl : s.load.reading = some l) : exec (.strainConversionEnd reading) s
      = .next (finish s (completeSample l (some (clampReading reading)) (countSettling (clampReading reading) s))) := by
  rw [← strainConversionEnd_completes reading h hl]
  rfl

/-- Settles O22: the completed sample is what the load channel makes of the reading (`completeSample_load`,
`completeSample_record`), and the writes after it leave that as it is (`completeSample_stands`). -/
theorem loadConversionLeadsOrCompletes : Obligations.LoadConversionLeadsOrCompletes := by
  unfold Obligations.LoadConversionLeadsOrCompletes
  refine ⟨fun reading s hp hc he => exec_loadConversionEnd_leads hp hc he, fun reading s hl => ?_⟩
  rw [exec_loadConversionEnd_completes hl, next_iff]
  obtain ⟨hconv, hread, hindex, hlast, -, hrange, hcount⟩ := completeSample_load reading none s
  have hst := completeSample_stands reading none s
  obtain ⟨hrindex, hrpos⟩ := loadView_record_fields reading none s
  refine ⟨by simpa using hconv, by simpa using hread, by simpa using hindex, ?_, ?_, ?_, ?_, ?_, by simpa using hrange,
    by simpa using hcount, (loadView reading none s).record, by simpa using hlast, hrindex, hrpos, fun hf => ?_⟩
  · simp
  · simp
  · simp
  · simp [finish_travel, hst.counter, takenSample]
  · simp [finish_travel, hst.velocity, takenSample]
  · have hrec := (completeSample_record reading none hf).finished s
    have hext : (loadView reading none s).record.ext = false
        ∧ (loadView reading none s).record.strain = s.crossheadStrain s.travel.latched := by
      rw [loadView_record_test reading none hf]
      exact ⟨rfl, rfl⟩
    refine ⟨hrec.phase, hext.1, hext.2, hrec.hold, hrec.statusLoad, hrec.held, hrec.carried, hrec.unconfigured,
      fun hheld hk hspan => ?_, hrec.tare⟩
    have hclamp : max (-1100000) (min 1100000 reading) = reading := clampReading_of_span hspan
    rw [hrec.net hheld hk, hclamp]

/-! ## The readings of the extensometer on a completed sample -/

theorem countSettling_of_settling {s : State} (v : Int) (h : s.ext.state = .settling) :
    countSettling v s = s.setExt { s.ext with strainCount := s.ext.strainCount + 1, lastReading := v } := by
  simp [countSettling, h]

theorem countSettling_of_other {s : State} (v : Int) (h : s.ext.state ≠ .settling) : countSettling v s = s := by
  simp [countSettling, h]

/-- R99: the count of a reading changes nothing but the count and the last reading. -/
theorem countSettling_eq (v : Int) (s : State) :
    ∃ e : Ext, countSettling v s = s.setExt e ∧ e.state = s.ext.state ∧ e.pair = s.ext.pair ∧ e.offset = s.ext.offset := by
  by_cases h : s.ext.state = .settling
  · exact ⟨_, countSettling_of_settling v h, rfl, rfl, rfl⟩
  · exact ⟨s.ext, countSettling_of_other v h, rfl, rfl, rfl⟩

theorem crossheadStrain_setExt {s : State} {e : Ext} (pos : Int) (h : e.offset = s.ext.offset) :
    (s.setExt e).crossheadStrain pos = s.crossheadStrain pos := by
  unfold State.crossheadStrain State.rawStrain
  simp [h]

/-- R74, R100: a record carries extensometer strain on a test station that is MEASURING. -/
theorem loadView_record_ext (reading v : Int) (s : State) : (loadView reading (some v) s).record.ext = true ↔
    s.isFollow = false ∧ s.ext.state = .measuring := by
  cases hf : s.isFollow with
  | true => simp [loadView_record_follow reading (some v) hf, followRecord]
  | false =>
    rw [loadView_record_test reading (some v) hf]
    by_cases hm : s.ext.state = .measuring
    · simp [sampleStrain_measuring v hm, hm]
    · simp [sampleStrain_crosshead (strain := some v) (.inr hm), hm]

theorem takeMeasured_pair {r : SampleRec} (s : State) (h : r.ext = true) :
    (takeMeasured r s).ext.pair = some (r.strain, r.position) := by
  simp [takeMeasured, h]

theorem takeMeasured_of_crosshead {r : SampleRec} (s : State) (h : r.ext = false) : takeMeasured r s = s := by
  simp [takeMeasured, h]

/-- R99: the count and the last reading of the unit are those of the conversion. -/
theorem completeSample_readings (reading : Int) (strain : Option Int) (s : State) :
    (completeSample reading strain s).ext.strainCount = s.ext.strainCount
      ∧ (completeSample reading strain s).ext.lastReading = s.ext.lastReading := by
  have hst := completeSample_stands reading strain s
  rw [hst.strainCount, hst.lastReading, takenSample_ext]
  unfold takeMeasured
  split <;> exact ⟨rfl, rfl⟩

/-- R100: the pair of a sample with extensometer strain is the measured pair from then on. -/
theorem completeSample_pair_measured {reading v : Int} {s : State} (hf : s.isFollow = false)
    (hm : s.ext.state = .measuring) : (completeSample reading (some v) s).ext.pair
      = some ((loadView reading (some v) s).record.strain, s.travel.latched) := by
  rcases (completeSample_stands reading (some v) s).zero with ⟨hp, -⟩ | ⟨hdue, -⟩
  · rw [hp, takenSample_ext, takeMeasured_pair s ((loadView_record_ext reading v s).2 ⟨hf, hm⟩),
      (loadView_record_fields reading (some v) s).2]
  · simp [settlingDue_iff, hm] at hdue

/-- R99: another sample keeps the pair, unless the 16th reading of a SETTLING unit becomes the zero on it. -/
theorem completeSample_pair_kept {reading v : Int} {s : State} (h : s.isFollow = true ∨ s.ext.state ≠ .measuring) :
    (completeSample reading (some v) s).ext.pair = s.ext.pair
      ∨ (settlingDue s = true ∧ (completeSample reading (some v) s).ext.pair = some (0, s.travel.latched)
          ∧ (completeSample reading (some v) s).ext.zero = some s.ext.lastReading) := by
  have hext : (loadView reading (some v) s).record.ext = false := by
    rw [Bool.eq_false_iff, Ne, loadView_record_ext]
    rintro ⟨hf, hm⟩
    simp [hf, hm] at h
  have htaken : (takenSample (loadView reading (some v) s) s).ext = s.ext := by
    rw [takenSample_ext, takeMeasured_of_crosshead s hext]
  have hlatched : (takenSample (loadView reading (some v) s) s).travel = s.travel := by simp [takenSample]
  rcases (completeSample_stands reading (some v) s).zero with ⟨hp, -⟩ | ⟨hdue, hp, hz⟩
  · exact .inl (by rw [hp, htaken])
  · exact .inr ⟨hdue, by rw [hp, hlatched], by rw [hz, htaken]⟩

/-- R100: the extensometer strain of a reading. -/
theorem strainOf_reading {e : Ext} {i : IdRec} {z : Int} (v : Int) (hi : e.idRec = some i) (hz : e.zero = some z) :
    e.strainOf v = ((v - z) * i.travel).tdiv (gaugeLength i.code) := by
  simp [Ext.strainOf, Ext.fromZero, hi, hz]

theorem loadView_record_strain_measuring {reading v : Int} {s : State} (hf : s.isFollow = false)
    (hm : s.ext.state = .measuring) : (loadView reading (some v) s).record.strain = s.ext.strainOf v := by
  rw [loadView_record_test reading (some v) hf, sampleStrain_measuring v hm]

theorem loadView_record_strain_crosshead {reading : Int} {strain : Option Int} {s : State} (hf : s.isFollow = false)
    (h : strain = none ∨ s.ext.state ≠ .measuring) :
    (loadView reading strain s).record.strain = s.crossheadStrain s.travel.latched := by
  rw [loadView_record_test reading strain hf, sampleStrain_crosshead h]

/-- The record of a sample does not rest on the readings of the extensometer but for its strain. -/
theorem RecordTaken.of_setExt {reading : Int} {r : SampleRec} {s t : State} {e : Ext}
    (h : RecordTaken reading r (s.setExt e) t) : RecordTaken reading r s t :=
  ⟨h.phase, h.hold, h.statusLoad, h.held, h.carried, h.unconfigured, h.net, h.tare⟩

/-- R99: a unit that the conversion does not give its 16th reading in SETTLING is not due for MEASURING. -/
theorem settlingDue_countSettling {s : State} (v : Int) (h : s.ext.state ≠ .settling ∨ s.ext.strainCount < 15) :
    settlingDue (countSettling v s) = false := by
  rw [Bool.eq_false_iff, Ne, settlingDue_iff]
  by_cases hq : s.ext.state = .settling
  · have h15 := h.resolve_left (not_not.2 hq)
    rw [countSettling_of_settling v hq]
    simp
    omega
  · simp [countSettling_of_other v hq, hq]

/-- Settles O23: a SETTLING unit counts the reading before the sample is completed (`countSettling_eq`), and the sample
is completed as that of a load conversion is. -/
theorem strainConversionCompletesSample : Obligations.StrainConversionCompletesSample := by
  unfold Obligations.StrainConversionCompletesSample
  intro reading l s hc hl v
  have hv : clampReading reading = v := rfl
  rw [exec_strainConversionEnd_completes ⟨hc, by simp [hl]⟩ hl, hv, next_iff]
  obtain ⟨e, he, hstate, hpair, hoffset⟩ := countSettling_eq v s
  obtain ⟨hconv, hread, hindex, hlast, -, -, hcount⟩ := completeSample_load l (some v) (countSettling v s)
  obtain ⟨hstrains, hreading⟩ := completeSample_readings l (some v) (countSettling v s)
  obtain ⟨hrindex, hrpos⟩ := loadView_record_fields l (some v) (countSettling v s)
  refine ⟨by simpa using hconv, by simpa using hread, by simpa using hindex, by simpa using hcount, fun hq => ?_,
    fun hq h15 => ?_, fun hm hq => ?_, (loadView l (some v) (countSettling v s)).record, by simpa using hlast,
    by simpa using hrindex, by simpa using hrpos, fun hf => ?_⟩
  · rw [countSettling_of_settling v hq] at hstrains hreading
    rw [countSettling_of_settling v hq]
    exact ⟨by simpa using hstrains, by simpa using hreading⟩
  · rcases completeSample_pair_kept (reading := l) (v := v) (s := countSettling v s)
      (.inr (by simp [he, hstate, hq])) with hp | ⟨-, hp, hz⟩
    · exact .inl (by simpa [he, hpair] using hp)
    · rw [countSettling_of_settling v hq] at hp hz ⊢
      exact .inr ⟨by simpa using hp, by simpa using hz⟩
  · rcases completeSample_pair_kept (reading := l) (v := v) (s := countSettling v s)
      (by simpa [he, hstate, State.isFollow] using hm) with hp | ⟨hdue, -⟩
    · simpa [he, hpair] using hp
    · simp [settlingDue_countSettling v hq] at hdue
  · have hf' : (s.setExt e).isFollow = false := hf
    have hrec := ((completeSample_record l (some v) hf').of_setExt).finished s
    have hext := loadView_record_ext l v (s.setExt e)
    rw [he]
    refine ⟨by simpa [hf', hstate] using hext, fun i z hm hi hz => ?_, fun hm => ?_, hrec.phase, hrec.hold,
      hrec.statusLoad, hrec.held, hrec.carried, hrec.unconfigured, hrec.net, hrec.tare⟩
    · rw [← he, countSettling_of_other v (by simp [hm]), loadView_record_strain_measuring hf hm]
      refine ⟨strainOf_reading v hi hz, ?_⟩
      rw [← loadView_record_strain_measuring (reading := l) hf hm, ← completeSample_pair_measured hf hm]
      simp
    · rw [loadView_record_strain_crosshead hf' (.inr (by simpa [hstate] using hm)), crossheadStrain_setExt _ hoffset]
      rfl
end Sys2Proof.Proofs
end

section
namespace Sys2Proof.Proofs
open Sys2Proof.Machine Sys2Proof.Safety Sys2Proof.Laws

/-! ## What the detectors find -/

theorem droppedBy_iff (peak : Option Peak) (tenths : Nat) (load : Int) :
    droppedBy peak tenths load = true ↔ Dropped peak tenths load := by
  cases peak with
  | none => simp [droppedBy, Dropped]
  | some p =>
    have hd : droppedBy (some p) tenths load = true ↔ load ≤ dropLevel p.load tenths := by simp [droppedBy]
    rw [hd]
    simp [Dropped, dropLevel]

theorem inSpan_iff {s : State} (r : SampleRec) (hf : s.isFollow = false) : inSpan s r.held = true ↔ InSpan s r := by
  simp [inSpan, InSpan, hf]

theorem detectorsRun_iff {s : State} (r : SampleRec) (hf : s.isFollow = false) :
    detectorsRun s r.held = true ↔ Examined s r := by
  simp only [detectorsRun, Bool.and_eq_true, inSpan_iff r hf, Bool.or_eq_true, beq_iff_eq, Examined]

theorem newPeak_iff {s : State} (r : SampleRec) (hf : s.isFollow = false) :
    newPeak s r.held r.load = true ↔ IsPeak s r := by
  simp only [newPeak, Bool.and_eq_true, inSpan_iff r hf, IsPeak]
  cases s.load.peak <;> simp

theorem breakOn_iff {s : State} {o : Order} (r : SampleRec) (hf : s.isFollow = false) (ho : s.seq.order = some o) :
    breakOn s r.held r.load = true ↔ Examined s r ∧ s.load.breakArmed = true ∧ s.load.breakFound = false
      ∧ Dropped s.load.peak o.dropFraction r.load := by
  have hdrop : s.dropFraction = o.dropFraction := by simp [State.dropFraction, ho]
  simp only [breakOn, Bool.and_eq_true, detectorsRun_iff r hf, Bool.not_eq_true', hdrop, droppedBy_iff, and_assoc]

theorem aboveArm_iff {s : State} {o : Order} (load : Int) (ho : s.seq.order = some o) :
    aboveArm s.loadCapacity s.armFraction load = true ↔ (s.loadCapacity * o.armFraction : Int) < load * 1000 := by
  simp [aboveArm, State.armFraction, ho]

theorem yieldOn_of_no_plan {s : State} (held : Bool) (load strain : Int) (h : s.yieldPlan = none) :
    yieldOn s held load strain = .nothing := by
  simp [yieldOn, h]

theorem yieldOn_resting {s : State} {held : Bool} (load strain : Int)
    (h : detectorsRun s held = false ∨ s.load.yieldSearch ≠ .searching) : yieldOn s held load strain = .nothing := by
  unfold yieldOn
  split
  · rfl
  · rw [if_pos (by simpa using h)]

/-- R90, R91: what a search in progress finds: the limit first, then the break, then the yield. -/
theorem yieldOn_searching {s : State} {held : Bool} {y : YieldPlan} {load strain : Int} (hy : s.yieldPlan = some y)
    (hr : detectorsRun s held = true) (hs : s.load.yieldSearch = .searching) :
    yieldOn s held load strain = if (y.strainLimit : Int) < strain then .limit
      else if breakOn s held load then .broken
      else if s.load.breakArmed && droppedBy s.load.peak y.drop load then .found
      else .nothing := by
  simp [yieldOn, hy, hr, hs]

/-- R89, R90: the yield of a sample, where the search is in progress and neither the limit nor the break comes
before. -/
theorem yieldOn_found_iff {s : State} {held : Bool} {y : YieldPlan} {load strain : Int} (hy : s.yieldPlan = some y) :
    yieldOn s held load strain = .found ↔ detectorsRun s held = true ∧ s.load.yieldSearch = .searching
      ∧ strain ≤ y.strainLimit ∧ s.load.breakArmed = true ∧ breakOn s held load = false
      ∧ Dropped s.load.peak y.drop load := by
  by_cases hsearch : detectorsRun s held = true ∧ s.load.yieldSearch = .searching
  · obtain ⟨hr, hs⟩ := hsearch
    rw [yieldOn_searching hy hr hs, ← droppedBy_iff]
    split_ifs with hlimit hbreak hfound
    · simp [not_le.2 hlimit]
    · simp [hbreak]
    · simp_all
    · simp_all
  · rw [yieldOn_resting load strain (by rwa [not_and_or, Bool.not_eq_true] at hsearch)]
    simp only [reduceCtorEq, false_iff]
    exact fun ⟨hr, hs, _⟩ => hsearch ⟨hr, hs⟩

/-- R89, R91: the search ends without a yield at the limit and at the break. -/
theorem yieldOn_ends {s : State} {held : Bool} {y : YieldPlan} {load strain : Int} (hy : s.yieldPlan = some y)
    (hr : detectorsRun s held = true) (hs : s.load.yieldSearch = .searching)
    (h : (y.strainLimit : Int) < strain ∨ breakOn s held load = true) :
    s.load.yieldSearch.after (yieldOn s held load strain) = .ended := by
  rw [yieldOn_searching hy hr hs]
  split_ifs with hlimit hbreak
  · rfl
  · rfl
  all_goals simp [hlimit, hbreak] at h

/-! ## The test record and the notices of the detectors -/

theorem fields_of_detectorPart {w x : TestRecord} (h : detectorPart w = detectorPart x) :
    w.maxLoad = x.maxLoad ∧ w.posAtMax = x.posAtMax ∧ w.strainAtMax = x.strainAtMax ∧ w.yieldPart = x.yieldPart
      ∧ w.extOnAtBreak = x.extOnAtBreak ∧ w.breakPart = x.breakPart := by
  simp_all [detectorPart]

theorem withYield_fields (w : TestRecord) (peak : Option Peak) :
    (w.withYield peak).maxLoad = w.maxLoad ∧ (w.withYield peak).posAtMax = w.posAtMax
      ∧ (w.withYield peak).strainAtMax = w.strainAtMax ∧ (w.withYield peak).breakPart = w.breakPart := by
  cases peak <;> exact ⟨rfl, rfl, rfl, rfl⟩

/-- R87: the peak that a sample writes into the test record. -/
theorem detected_max (w : TestRecord) (s : State) (r : SampleRec) :
    (w.detected s r).maxLoad = (if newPeak s r.held r.load then r.load else w.maxLoad)
      ∧ (w.detected s r).posAtMax = (if newPeak s r.held r.load then r.position else w.posAtMax)
      ∧ (w.detected s r).strainAtMax = (if newPeak s r.held r.load then r.strain else w.strainAtMax) := by
  unfold TestRecord.detected
  dsimp only
  split_ifs <;> simp [withYield_fields]

/-- R89, R109: the break. -/
theorem detected_break (w : TestRecord) (s : State) (r : SampleRec) :
    (w.detected s r).breakPart = (if r.brk then some (r.strain, r.position) else w.breakPart)
      ∧ (r.brk = true → (w.detected s r).extOnAtBreak = decide (s.ext.state ≠ .absent ∧ s.ext.state ≠ .parked)) := by
  unfold TestRecord.detected
  dsimp only
  refine ⟨?_, fun hb => ?_⟩
  · split_ifs <;> simp [withYield_fields]
  · rw [if_pos hb]
    cases s.ext.state <;> rfl

/-- R90: the yield, with the values of the peak before the sample. -/
theorem detected_yield (w : TestRecord) (s : State) (r : SampleRec) :
    (∀ p, r.yieldFlag = true → s.load.peak = some p → (w.detected s r).yieldPart = some (p.load, p.strain))
      ∧ (r.yieldFlag = false → (w.detected s r).yieldPart = w.yieldPart) := by
  unfold TestRecord.detected
  dsimp only
  refine ⟨fun p hy hp => ?_, fun hy => ?_⟩
  · rw [if_pos hy, hp]
    split_ifs <;> rfl
  · simp only [hy, Bool.false_eq_true, if_false]
    split_ifs <;> rfl

theorem mem_pushNotice_new {k : NoticeKind} {s : State} (h : s.link.notices.length < 8) :
    { kind := k, index := s.lastIndex } ∈ (pushNotice k s).link.notices := by
  simp [pushNotice_notices k h]

theorem detectorNotices_yield {r : SampleRec} {s : State} (h : s.link.notices.length < 8) (hy : r.yieldFlag = true) :
    { kind := .yieldFound, index := s.lastIndex } ∈ (detectorNotices r s).link.notices := by
  unfold detectorNotices
  dsimp only
  rw [if_pos hy]
  split
  · exact pushNotice_subset _ _ (mem_pushNotice_new h)
  · exact mem_pushNotice_new h

theorem detectorNotices_break {r : SampleRec} {s : State} (h : s.link.notices.length < 8) (hy : r.yieldFlag = false)
    (hb : r.brk = true) : { kind := .breakFound, index := s.lastIndex } ∈ (detectorNotices r s).link.notices := by
  unfold detectorNotices
  dsimp only
  rw [if_pos hb]
  simp only [hy, Bool.false_eq_true, if_false]
  exact mem_pushNotice_new h

/-! ## The sample on which the detectors act -/

/-- R57 to R59, R63: the pair unit writes to itself and queues the alarm. -/
theorem SampleRun.pairSample {opens measures : Prop} (r : SampleRec) (s : State) :
    SampleRun opens measures s (Machine.pairSample r s) := by
  have hskew : SampleRun opens measures s (computeSkew r s) := by
    unfold computeSkew
    split <;> exact .single (.paired _ s)
  have halarm : ∀ u : State, SampleRun opens measures u (judgeAlarm u) := by
    intro u
    unfold judgeAlarm
    split_ifs
    · exact .refl
    · exact .tail (.single (.paired _ u)) (.noticed _ _)
    · exact .single (.paired _ u)
    · exact .refl
  have hcount : ∀ u : State, SampleRun opens measures u (countRunning u) := by
    intro u
    unfold countRunning
    split
    · exact .single (.paired _ u)
    · exact .refl
  unfold Machine.pairSample
  split
  · exact hskew.trans ((halarm _).trans (hcount _))
  · exact .refl

/-- R123: the notices of the load channel are in the queue when the sample is handed on. -/
theorem completeLoad_notices_subset (v : LoadView) (s : State) :
    (completeLoad v s).link.notices ⊆ (takenSample v s).link.notices := by
  have hoffered : (offerSample v.record (takeMeasured v.record (completeLoad v s))).link.notices
      = (completeLoad v s).link.notices := by
    unfold takeMeasured
    split <;> simp
  rw [← hoffered]
  exact (SampleStands.run (SampleRun.pairSample (opens := False) (measures := False) v.record _)).notices

theorem takenSample_testRec {v : LoadView} {s : State} (hf : s.isFollow = false) :
    (takenSample v s).testRec = s.testRec.map fun w => w.detected s v.record := by
  simp [takenSample, completeLoad, hf, writeRecord]

/-- R75, R89, R90, R123: the notices of the detectors carry the index of the sample. -/
theorem completeLoad_notices {v : LoadView} {s : State} (hf : s.isFollow = false) (h : s.link.notices.length < 8) :
    (v.record.yieldFlag = true →
        { kind := .yieldFound, index := v.record.index } ∈ (completeLoad v s).link.notices)
      ∧ (v.record.yieldFlag = false → v.record.brk = true →
        { kind := .breakFound, index := v.record.index } ∈ (completeLoad v s).link.notices) := by
  have hindex : (writeRecord (fun w => w.detected s v.record) (s.setLoad (LoadCh.completed s v))).lastIndex
      = v.record.index := by
    simp [State.lastIndex, writeRecord, completed_fields]
  have hroom : (writeRecord (fun w => w.detected s v.record) (s.setLoad (LoadCh.completed s v))).link.notices.length < 8 :=
    h
  have hdetect : completeLoad v s = detectorNotices v.record
      (writeRecord (fun w => w.detected s v.record) (s.setLoad (LoadCh.completed s v))) := by
    simp [completeLoad, hf]
  rw [hdetect, ← hindex]
  exact ⟨fun hy => detectorNotices_yield hroom hy, fun hy hb => detectorNotices_break hroom hy hb⟩

/-- R86 to R91: what the detectors write on a sample with the record `r`, from the state before it. -/
structure DetectorsActed (r : SampleRec) (old new : TestRecord) (s t : State) : Prop where
  peak : t.load.peak = if newPeak s r.held r.load then
      some { load := r.load, position := r.position, strain := r.strain } else s.load.peak
  armed : t.load.breakArmed = (s.load.breakArmed
    || (detectorsRun s r.held && aboveArm s.loadCapacity s.armFraction r.load))
  found : t.load.breakFound = (s.load.breakFound || r.brk)
  brk : r.brk = breakOn s r.held r.load
  yieldFlag : r.yieldFlag = (yieldOn s r.held r.load r.strain == .found)
  search : s.seq.state = .claiming
    ∨ SearchStands (s.load.yieldSearch.after (yieldOn s r.held r.load r.strain)) t.load.yieldSearch
  record : detectorPart new = detectorPart (old.detected s r)
  yieldNotice : s.link.notices.length < 8 → r.yieldFlag = true →
    { kind := .yieldFound, index := r.index } ∈ t.link.notices
  breakNotice : s.link.notices.length < 8 → r.yieldFlag = false → r.brk = true →
    { kind := .breakFound, index := r.index } ∈ t.link.notices

theorem completeSample_detects {s : State} {old : TestRecord} (reading : Int) (strain : Option Int)
    (hf : s.isFollow = false) (hold : s.testRec = some old) :
    ∃ new, (completeSample reading strain s).testRec = some new
      ∧ DetectorsActed (loadView reading strain s).record old new s (completeSample reading strain s) := by
  have hst := completeSample_stands reading strain s
  obtain ⟨-, -, -, -, -, -, -, hpeak, harmed, hfound⟩ := fields_of_withoutOffset hst.load
  rw [takenSample_load] at hpeak harmed hfound
  obtain ⟨hpeak', harmed', hfound', hsearch⟩ := completed_detected (v := loadView reading strain s) hf
  have hrec := loadView_record_test reading strain hf
  have hyield : (loadView reading strain s).yieldStep = yieldOn s (loadView reading strain s).record.held
      (loadView reading strain s).record.load (loadView reading strain s).record.strain := by
    rw [hrec]
    simp [loadView, hf]
  have hmap := hst.record
  rw [takenSample_testRec hf, hold] at hmap
  obtain ⟨new, hnew, hpart⟩ := Option.map_eq_some_iff.1 hmap
  refine ⟨new, hnew, ?_⟩
  constructor
  case peak => rw [hpeak, hpeak']
  case armed => rw [harmed, harmed']
  case found => rw [hfound, hfound']
  case brk => rw [hrec]
  case yieldFlag =>
    rw [← hyield, hrec]
  case search =>
    have hs := hst.search
    rwa [takenSample_load, hsearch, hyield] at hs
  case record => exact hpart
  case yieldNotice =>
    exact fun hroom hy => hst.notices (completeLoad_notices_subset _ s ((completeLoad_notices hf hroom).1 hy))
  case breakNotice =>
    exact fun hroom hy hb => hst.notices (completeLoad_notices_subset _ s ((completeLoad_notices hf hroom).2 hy hb))

/-- The detectors read nothing of the extensometer unit but the state of the arm (R109). -/
theorem DetectorsActed.of_setExt {r : SampleRec} {old new : TestRecord} {s t : State} {e : Ext}
    (h : DetectorsActed r old new (s.setExt e) t) (he : e.state = s.ext.state) : DetectorsActed r old new s t where
  peak := h.peak
  armed := h.armed
  found := h.found
  brk := h.brk
  yieldFlag := h.yieldFlag
  search := h.search
  record := by
    have hsame : old.detected (s.setExt e) r = old.detected s r := by
      have hpeak : newPeak (s.setExt e) r.held r.load = newPeak s r.held r.load := rfl
      simp only [TestRecord.detected, hpeak, setExt_fields, he]
    rw [h.record, hsame]
  yieldNotice := h.yieldNotice
  breakNotice := h.breakNotice

theorem DetectorsActed.finished {r : SampleRec} {old new : TestRecord} {s t : State} (before : State)
    (h : DetectorsActed r old new s t) : DetectorsActed r old new s (finish before t) where
  peak := by simpa using h.peak
  armed := by simpa using h.armed
  found := by simpa using h.found
  brk := h.brk
  yieldFlag := h.yieldFlag
  search := by simpa using h.search
  record := h.record
  yieldNotice := by simpa using h.yieldNotice
  breakNotice := by simpa using h.breakNotice

/-- R86: whichever conversion completes the sample, the detectors act on it. -/
theorem completesSample_detects {c : Instr} {s : State} {old : TestRecord} (hc : CompletesSample c s)
    (hf : s.isFollow = false) (hold : s.testRec = some old) : Next (exec c s) fun t =>
      ∃ r new, t.load.last = some r ∧ t.testRec = some new ∧ DetectorsActed r old new s t := by
  rcases hc with ⟨hl, reading, rfl⟩ | ⟨hl, reading, rfl⟩
  · rw [exec_loadConversionEnd_completes hl, next_iff]
    obtain ⟨-, -, -, hlast, -⟩ := completeSample_load reading none s
    obtain ⟨new, hnew, hacted⟩ := completeSample_detects reading none hf hold
    exact ⟨_, new, by simpa using hlast, by simpa using hnew, hacted.finished s⟩
  · obtain ⟨l, hread⟩ := Option.isSome_iff_exists.1 hl.2
    obtain ⟨e, he, hstate, -⟩ := countSettling_eq (clampReading reading) s
    rw [exec_strainConversionEnd_completes hl hread, he, next_iff]
    obtain ⟨-, -, -, hlast, -⟩ := completeSample_load l (some (clampReading reading)) (s.setExt e)
    obtain ⟨new, hnew, hacted⟩ := completeSample_detects (s := s.setExt e) l (some (clampReading reading)) hf hold
    exact ⟨_, new, by simpa using hlast, by simpa using hnew, (hacted.of_setExt hstate).finished s⟩

theorem DetectorsActed.brk_iff {r : SampleRec} {old new : TestRecord} {s t : State} {o : Order}
    (h : DetectorsActed r old new s t) (hf : s.isFollow = false) (ho : s.seq.order = some o) :
    r.brk = true ↔ Examined s r ∧ s.load.breakArmed = true ∧ s.load.breakFound = false
      ∧ Dropped s.load.peak o.dropFraction r.load := by
  rw [h.brk, breakOn_iff r hf ho]

theorem DetectorsActed.armed_iff {r : SampleRec} {old new : TestRecord} {s t : State} {o : Order}
    (h : DetectorsActed r old new s t) (hf : s.isFollow = false) (ho : s.seq.order = some o) :
    t.load.breakArmed = true ↔ s.load.breakArmed = true
      ∨ (Examined s r ∧ (s.loadCapacity * o.armFraction : Int) < r.load * 1000) := by
  rw [h.armed, Bool.or_eq_true, Bool.and_eq_true, detectorsRun_iff r hf, aboveArm_iff r.load ho]

/-- R87: a peak goes to the load channel and to the test record. -/
theorem DetectorsActed.peaks {r : SampleRec} {old new : TestRecord} {s t : State}
    (h : DetectorsActed r old new s t) (hf : s.isFollow = false) (hp : IsPeak s r) :
    t.load.peak = some { load := r.load, position := r.position, strain := r.strain }
      ∧ new.maxLoad = r.load ∧ new.posAtMax = r.position ∧ new.strainAtMax = r.strain := by
  obtain ⟨hmax, hpos, hstrain, -⟩ := fields_of_detectorPart h.record
  have hnew := (newPeak_iff r hf).2 hp
  obtain ⟨hmax', hpos', hstrain'⟩ := detected_max old s r
  rw [h.peak, hmax, hpos, hstrain, hmax', hpos', hstrain']
  simp [hnew]

theorem DetectorsActed.keepsPeak {r : SampleRec} {old new : TestRecord} {s t : State}
    (h : DetectorsActed r old new s t) (hf : s.isFollow = false) (hp : ¬IsPeak s r) :
    t.load.peak = s.load.peak ∧ new.maxLoad = old.maxLoad ∧ new.posAtMax = old.posAtMax
      ∧ new.strainAtMax = old.strainAtMax := by
  obtain ⟨hmax, hpos, hstrain, -⟩ := fields_of_detectorPart h.record
  have hnew : newPeak s r.held r.load = false := Bool.eq_false_iff.2 (mt (newPeak_iff r hf).1 hp)
  obtain ⟨hmax', hpos', hstrain'⟩ := detected_max old s r
  rw [h.peak, hmax, hpos, hstrain, hmax', hpos', hstrain']
  simp [hnew]

theorem not_claiming_of_examined {s : State} {r : SampleRec} (h : Examined s r) : s.seq.state ≠ .claiming := by
  rcases h.2 with hq | hq <;> simp [hq]

/-- R86: a search that has found the yield, or has ended, stays as it is when the test is given up. -/
theorem SearchStands.of_over {y z : YieldSearch} (h : SearchStands y z) (hy : y = .found ∨ y = .ended) : z = y := by
  rcases h with h | ⟨h, -⟩
  · exact h
  · rcases hy with rfl | rfl <;> cases h

/-- R90, R91: what the search finds on a sample, and the search after it. -/
theorem DetectorsActed.yields {r : SampleRec} {old new : TestRecord} {s t : State} {o : Order} {y : YieldPlan}
    (h : DetectorsActed r old new s t) (hf : s.isFollow = false) (ho : s.seq.order = some o)
    (hy : o.yieldPlan = some y) :
    (r.yieldFlag = true ↔ Examined s r ∧ s.load.yieldSearch = .searching ∧ r.strain ≤ y.strainLimit
        ∧ s.load.breakArmed = true ∧ r.brk = false ∧ Dropped s.load.peak y.drop r.load)
      ∧ (Examined s r → s.load.yieldSearch = .searching → (y.strainLimit : Int) < r.strain ∨ r.brk = true →
          t.load.yieldSearch = .ended)
      ∧ (r.yieldFlag = true → t.load.yieldSearch = .found)
      ∧ (s.load.yieldSearch = .found ∨ s.load.yieldSearch = .ended → ¬s.seq.state = .claiming →
          t.load.yieldSearch = s.load.yieldSearch) := by
  have hplan : s.yieldPlan = some y := by simp [State.yieldPlan, ho, hy]
  have hflag : r.yieldFlag = true ↔ yieldOn s r.held r.load r.strain = .found := by rw [h.yieldFlag, beq_iff_eq]
  have hfound := yieldOn_found_iff (held := r.held) (load := r.load) (strain := r.strain) hplan
  rw [detectorsRun_iff r hf, ← h.brk] at hfound
  refine ⟨hflag.trans hfound, fun hex hs hend => ?_, fun hyes => ?_, fun hover hno => ?_⟩
  · have hended := yieldOn_ends hplan ((detectorsRun_iff r hf).2 hex) hs (h.brk ▸ hend)
    have hsearch := h.search.resolve_left (not_claiming_of_examined hex)
    rw [hended] at hsearch
    exact hsearch.of_over (.inr rfl)
  · have hstep := hflag.1 hyes
    have hsearch := h.search.resolve_left (not_claiming_of_examined (hfound.1 hstep).1)
    rw [hstep] at hsearch
    exact hsearch.of_over (.inl rfl)
  · have hsearch := h.search.resolve_left hno
    rw [yieldOn_resting r.load r.strain (.inr (by rcases hover with hq | hq <;> simp [hq]))] at hsearch
    exact hsearch.of_over hover

/-- R89: the break comes before the yield on the same sample. -/
theorem DetectorsActed.no_yield_of_break {r : SampleRec} {old new : TestRecord} {s t : State} {o : Order}
    (h : DetectorsActed r old new s t) (hf : s.isFollow = false) (ho : s.seq.order = some o) (hb : r.brk = true) :
    r.yieldFlag = false := by
  cases hy : o.yieldPlan with
  | none => rw [h.yieldFlag, yieldOn_of_no_plan _ _ _ (by simp [State.yieldPlan, ho, hy])]; rfl
  | some y =>
    rw [Bool.eq_false_iff, Ne, (h.yields hf ho hy).1, hb]
    simp

/-- Settles O24: what the detectors write (`DetectorsActed`) with the conditions under which they do, read off the
sample by an equivalence for each (`newPeak_iff`, `breakOn_iff`, `yieldOn_found_iff`). -/
theorem detectorsActOnSample : Obligations.DetectorsActOnSample := by
  unfold Obligations.DetectorsActOnSample
  intro c s o old hc hs ho hold
  have hf := isFollow_of_testStation hs
  obtain ⟨t, ht, r, new, hlast, hnew, h⟩ := completesSample_detects hc hf hold
  obtain ⟨-, -, -, hyield, hext, hbreak⟩ := fields_of_detectorPart h.record
  refine ⟨t, ht, r, new, hlast, hnew, h.peaks hf, h.keepsPeak hf, h.armed_iff hf ho, h.brk_iff hf ho, ?_, ?_, ?_, ?_,
    fun y hy => h.yields hf ho hy, ?_, ?_, fun hroom hy => ⟨_, h.yieldNotice hroom hy, rfl, rfl⟩,
    fun hroom hb => ⟨_, h.breakNotice hroom (h.no_yield_of_break hf ho hb) hb, rfl, rfl⟩⟩
  · rw [h.found, Bool.or_eq_true]
  · rw [hbreak, (detected_break old s r).1]
  · rw [hext]
    exact (detected_break old s r).2
  · intro hy
    rw [h.yieldFlag, yieldOn_of_no_plan _ _ _ (by simp [State.yieldPlan, ho, hy])]
    rfl
  · rw [hyield]
    exact (detected_yield old s r).1
  · rw [hyield]
    exact (detected_yield old s r).2
end Sys2Proof.Proofs
end

section
namespace Sys2Proof.Proofs
open Sys2Proof.Machine Sys2Proof.Safety Sys2Proof.Laws

/-! ## The arm under an open command and a report -/

theorem rawStrain_of_seq {s t : State} (pos : Int) (h : t.seq = s.seq) : t.rawStrain pos = s.rawStrain pos := by
  simp [State.rawStrain, h]

/-- R106: the unit after a switchover with a measured pair. -/
theorem switchover_ext {s : State} {e p : Int} (c : SwitchCause) (h : s.ext.pair = some (e, p)) :
    (switchover c s).ext
      = { s.ext.opening with offset := if s.seq.phase = 0 then 0 else e - s.rawStrain p } := by
  simp [switchover, h, switchOffset]

/-- The extensometer unit is as it was, and so is the switchover in the test record. -/
def SameArm (s t : State) : Prop :=
  t.ext = s.ext ∧ t.testRec.map (·.switchPart) = s.testRec.map (·.switchPart)

theorem SameArm.of_kept {s t : State} (hext : t.ext = s.ext) (hrec : t.testRec = s.testRec) : SameArm s t :=
  ⟨hext, by rw [hrec]⟩

theorem SameArm.trans {s t u : State} (h1 : SameArm s t) (h2 : SameArm t u) : SameArm s u :=
  ⟨h2.1.trans h1.1, h2.2.trans h1.2⟩

theorem SameArm.switchover {s t : State} (c : SwitchCause) (h : SameArm s t) (hseq : t.seq = s.seq) :
    SameArm (Machine.switchover c s) (Machine.switchover c t) := by
  obtain ⟨hext, hrec⟩ := h
  rcases hp : s.ext.pair with _ | ⟨e, p⟩
  · have hp' : t.ext.pair = none := hext ▸ hp
    exact ⟨by simp [Machine.switchover, hp, hext], by
      rwa [switchover_testRec_of_none c hp, switchover_testRec_of_none c hp']⟩
  · have hp' : t.ext.pair = some (e, p) := hext ▸ hp
    have hconst : ∀ u : State, u.ext.pair = some (e, p) → (Machine.switchover c u).testRec.map (·.switchPart)
        = (u.testRec.map (·.switchPart)).map fun _ => some (c, e, p) := fun u hu => by
      rw [switchover_testRec_of_pair c hu]
      simp [Function.comp_def]
    exact ⟨by rw [switchover_ext c hp, switchover_ext c hp', hext, hseq, rawStrain_of_seq p hseq],
      by rw [hconst s hp, hconst t hp', hrec]⟩

/-- R106, R108: what an open command does rests on the unit and the sequencer. -/
theorem SameArm.openArm {s t : State} (c : SwitchCause) (h : SameArm s t) (hseq : t.seq = s.seq) :
    SameArm (Machine.openArm c s) (Machine.openArm c t) := by
  by_cases hm : s.ext.state = .measuring
  · have hwaits : SameArm (s.setExt { s.ext with attachWaits := false }) (t.setExt { t.ext with attachWaits := false }) :=
      ⟨by simp [h.1], h.2⟩
    rw [openArm_measuring c hm, openArm_measuring c (h.1 ▸ hm)]
    exact hwaits.switchover c hseq
  · refine ⟨?_, ?_⟩
    · unfold Machine.openArm
      rw [h.1]
      cases he : s.ext.state <;> simp_all
    · rw [(openArm_link c s hm).2.1, (openArm_link c t (h.1 ▸ hm)).2.1]
      exact h.2

theorem endTest_arm (o : TestOutcome) (s : State) : SameArm s (endTest o s) := by
  refine ⟨by simp, ?_⟩
  cases h : s.testRec with
  | none => simp [endTest, closeSpan, closeCollection, writeRecord, h]
  | some w => simp [(endTest_writes o h).1, TestRecord.ended]

/-- R23, R24: a halt of the test sequencer moves the arm as an open command does. -/
theorem haltSequencer_arm (q : SeqState) (o : TestOutcome) (s : State) :
    SameArm (openArm .stop s) (haltSequencer q o s) := by
  have hopened : SameArm (openArm .stop s) (requestUnits 0 .release (gotoState q (openArm .stop (abandonTare s)))) :=
    (SameArm.openArm (t := abandonTare s) .stop (.of_kept (by simp) (by simp)) (by simp)).trans
      (.of_kept (by simp) (by simp))
  dsimp only [haltSequencer]
  split
  · exact hopened.trans (endTest_arm o _)
  · exact hopened

/-- The arm is as it was, or as an open command leaves it. -/
def ArmStaysOrOpens (s t : State) : Prop := SameArm s t ∨ SameArm (openArm .stop s) t

theorem stopOwn_arm (s : State) : ArmStaysOrOpens s (stopOwn s) := by
  unfold stopOwn stopFollow stopSequencer
  split_ifs
  · exact .inl (.of_kept (by simp) (by simp))
  · exact .inl (.of_kept rfl rfl)
  · split
    case h_4 => exact .inr (haltSequencer_arm _ _ s)
    all_goals exact .inl (.of_kept rfl rfl)

theorem faultOwn_arm (s : State) : ArmStaysOrOpens s (faultOwn s) := by
  unfold faultOwn faultFollow faultSequencer
  split_ifs
  · exact .inl (.of_kept (by simp) (by simp))
  · exact .inl (.of_kept rfl rfl)
  · split
    case h_5 => exact .inr (haltSequencer_arm _ _ s)
    all_goals exact .inl (.of_kept rfl rfl)

theorem ArmStaysOrOpens.of_same {s t u : State} (h : ArmStaysOrOpens t u) (harm : SameArm s t) (hseq : t.seq = s.seq) :
    ArmStaysOrOpens s u :=
  h.imp harm.trans (harm.openArm .stop hseq).trans

theorem recordFault_arm (c : FaultCause) (s : State) : SameArm s (recordFault c s) := by
  refine ⟨by simp, ?_⟩
  unfold recordFault
  split
  · rfl
  · dsimp only
    split
    · simp [writeRecord, Function.comp_def]
    · rfl

theorem faultNoticed_arm (c : FaultCause) (s : State) :
    SameArm s (pushNotice (faultNotice c s) (recordFault c s)) :=
  (recordFault_arm c s).trans (.of_kept (by simp) (by simp))

theorem setLatch_arm (s : State) : ArmStaysOrOpens s (setLatch s) := by
  unfold setLatch
  split
  · exact .inl (.of_kept rfl rfl)
  · exact (stopOwn_arm (s.setStop { s.stop with latch := true })).of_same (.of_kept rfl rfl) rfl

theorem drivingStop_arm (c : FaultCause) (s : State) : SameArm s (drivingStop c s) := .of_kept rfl rfl

theorem drivingStop_seq (c : FaultCause) (s : State) : (drivingStop c s).seq = s.seq := rfl

/-- R23, R24, R153: a report moves the arm by an open command only. -/
theorem report_arm (c : FaultCause) (s : State) : ArmStaysOrOpens s (report c s) := by
  cases hs : s.start.strapFault with
  | true => exact .inl (by rw [report_strapFault c hs]; exact .of_kept rfl rfl)
  | false =>
    rw [report_eq c hs]
    split
    · rw [stopCell_eq]
      refine (setLatch_arm _).of_same ((faultNoticed_arm c s).trans (drivingStop_arm c _)) ?_
      rw [drivingStop_seq]
      simp
    · exact (faultOwn_arm _).of_same (faultNoticed_arm c s) (by simp)

/-- R108, R110: a report leaves an arm that no command has closed where it is. -/
theorem report_arm_of_open {s : State} (c : FaultCause) (h : s.ext.state.closes = false) :
    (report c s).ext.state = s.ext.state ∧ (report c s).ext.openTimer = s.ext.openTimer
      ∧ (s.ext.attachWaits = false → (report c s).ext.attachWaits = false) := by
  rcases report_arm c s with ⟨he, -⟩ | ⟨he, -⟩
  · exact ⟨by rw [he], by rw [he], fun hw => by rw [he, hw]⟩
  · rw [he, (openArm_ext_of_open .stop h).1]
    exact ⟨rfl, rfl, fun _ => rfl⟩

/-- R110: the arm has begun to open in this command. -/
def ArmOpens (s : State) : Prop := s.ext.state = .opening ∧ s.ext.openTimer = some 0

theorem ArmOpens.of_ext {s t : State} (h : ArmOpens s) (he : t.ext = s.ext) : ArmOpens t := by
  rwa [ArmOpens, he]

theorem ArmOpens.report {s : State} (c : FaultCause) (h : ArmOpens s) : ArmOpens (Machine.report c s) := by
  obtain ⟨hst, htimer, -⟩ := report_arm_of_open c (s := s) (by rw [h.1]; rfl)
  exact ⟨hst.trans h.1, htimer.trans h.2⟩

/-! ## An attach that fails -/

theorem attachEvent_idle {kind : ExtEventKind} {code : Nat} {c : FaultCause} {s : State}
    (h : s.seq.state ≠ .attaching) : attachEvent kind code c s = s := by
  simp [attachEvent, h]

theorem attachEvent_fallsBack {kind : ExtEventKind} {code : Nat} {c : FaultCause} {s : State}
    (h : s.seq.state = .attaching) (hf : s.fallback = true) :
    attachEvent kind code c s = enterClaiming (pushNotice (.extEvent kind code) s) := by
  simp [attachEvent, h, hf]

theorem attachEvent_faults {kind : ExtEventKind} {code : Nat} {c : FaultCause} {s : State}
    (h : s.seq.state = .attaching) (hf : s.fallback = false) : attachEvent kind code c s = report c s := by
  simp [attachEvent, h, hf]

@[simp] theorem enterClaiming_sets (s : State) :
    (enterClaiming s).seq.state = .claiming ∧ (enterClaiming s).budget.requested = s.shareOf 1
      ∧ (enterClaiming s).budget.reason = .phase := by
  simp [enterClaiming]

theorem ArmOpens.attachEvent {s : State} (kind : ExtEventKind) (code : Nat) (c : FaultCause) (h : ArmOpens s) :
    ArmOpens (Machine.attachEvent kind code c s) := by
  by_cases hq : s.seq.state = .attaching
  · cases hf : s.fallback with
    | true => rw [attachEvent_fallsBack hq hf]; exact h.of_ext (by simp)
    | false => rw [attachEvent_faults hq hf]; exact h.report c
  · rwa [attachEvent_idle hq]

theorem armOpens_failAttach (kind : ExtEventKind) (code : Nat) (c : FaultCause) (s : State) :
    ArmOpens (failAttach kind code c s) :=
  ArmOpens.attachEvent (s := s.setExt s.ext.opening) kind code c ⟨rfl, rfl⟩

/-- R9, R98: what an attach that fails brings about, at the end of a command. -/
theorem failAttach_fails {s : State} {c : FaultCause} (kind : ExtEventKind) (code : Nat) (old : State)
    (hs : TestStation s) (hc : c.isCellStop = false) :
    AttachFails kind code c s (finish old (failAttach kind code c s)) := by
  obtain ⟨hst, htimer⟩ := armOpens_failAttach kind code c s
  refine ⟨by simpa using hst, by simpa using htimer, fun hq hf => ?_, fun hq hf => ?_, fun hq => ?_⟩
  · rw [failAttach, attachEvent_fallsBack (s := s.setExt s.ext.opening) hq hf]
    refine ⟨by simp, by simp [State.shareOf], by simp, fun hroom => ?_⟩
    have hpushed := pushNotice_notices (s := s.setExt s.ext.opening) (.extEvent kind code) hroom
    simpa [State.lastIndex] using hpushed
  · rw [failAttach, attachEvent_faults (s := s.setExt s.ext.opening) hq hf]
    exact endsFaulted_report (s := s.setExt s.ext.opening) old hs (by simp [hq, SeqState.isTest]) hc
  · rw [failAttach, attachEvent_idle (s := s.setExt s.ext.opening) hq]
    exact ⟨by simp, by simp⟩

/-! ## The identification word -/

/-- R97, R184: the fields of a word are its bits. -/
theorem identFields_bits (w : BitVec 32) : (identFields w).code = (w.extractLsb' 29 3).toNat
    ∧ (identFields w).travel = (w.extractLsb' 24 5).toNat ∧ (identFields w).serial = (w.extractLsb' 8 16).toNat := by
  have hcode : w.toNat / 2 ^ 29 = w.toNat / 2 ^ 29 % 2 ^ 3 := by
    have := w.isLt
    omega
  refine ⟨?_, ?_, ?_⟩
  · rw [identFields, hcode]
    simp [BitVec.extractLsb'_toNat, Nat.shiftRight_eq_div_pow]
  · simp [identFields, BitVec.extractLsb'_toNat, Nat.shiftRight_eq_div_pow]
  · simp [identFields, BitVec.extractLsb'_toNat, Nat.shiftRight_eq_div_pow]

theorem identCheckGood_iff (w : BitVec 32) : identCheckGood w = true ↔ (w.extractLsb' 0 8).toNat
    = ((identFields w).code * 32 + (identFields w).travel + (identFields w).serial / 256
        + (identFields w).serial % 256) % 256 := by
  have hcheck : (w.extractLsb' 0 8).toNat = w.toNat % 256 := by simp [BitVec.extractLsb'_toNat]
  rw [identCheckGood, beq_iff_eq, hcheck]

theorem unusable_iff (i : IdRec) : i.unusable = true ↔ i.code = 0 ∨ i.code = 6 ∨ i.code = 7 ∨ i.travel = 0 := by
  simp [IdRec.unusable, or_assoc]

/-- R97: a word that is taken, by what the unit finds in it. -/
theorem examineWord_taken {w : BitVec 32} {s : State} (hi : s.ext.state = .ident) (hsh : s.ext.shift ≠ none) :
    examineWord w s = if identCheckGood w = false then failAttach .idFault 0 .extIdFault s
      else if (identFields w).unusable then failAttach .idFault 0 .extIdFault (writeIdRec w s)
      else if (identFields w).code ≠ s.expectedGauge then
        failAttach .gaugeMismatch (identFields w).code .extGaugeMismatch (writeIdRec w s)
      else enterSettling (writeIdRec w s) := by
  simp [examineWord, hi, Option.isSome_iff_ne_none.2 hsh]

theorem failAttach_idRec (kind : ExtEventKind) (code : Nat) (c : FaultCause) (s : State) (old : State) :
    (finish old (failAttach kind code c s)).ext.idRec = s.ext.idRec := by
  simp

/-- Settles O43: the word by its check, its use and its gauge code (`examineWord_taken`), each failure as any attach
fails (`failAttach_fails`). -/
theorem identWordIsExamined : Obligations.IdentWordIsExamined := by
  unfold Obligations.IdentWordIsExamined
  intro w s hs hi hsh
  show Next (.next (finish s (examineWord w s))) _
  rw [next_iff, examineWord_taken hi hsh]
  obtain ⟨hcode, htravel, hserial⟩ := identFields_bits w
  simp only [← hcode, ← htravel, ← hserial]
  by_cases hgood : identCheckGood w = true
  · have hg := (identCheckGood_iff w).1 hgood
    rw [if_neg (by simp [hgood])]
    by_cases hbad : (identFields w).unusable = true
    · have hno := (unusable_iff _).1 hbad
      rw [if_pos hbad]
      exact ⟨fun h => absurd hg h, fun _ => failAttach_idRec _ _ _ (writeIdRec w s) s,
        fun _ _ => failAttach_fails (s := writeIdRec w s) _ _ s hs rfl,
        fun _ h0 h6 h7 ht => by simp [h0, h6, h7, ht] at hno, fun _ h0 h6 h7 ht => by simp [h0, h6, h7, ht] at hno⟩
    · rw [if_neg hbad]
      by_cases hgauge : (identFields w).code = s.expectedGauge
      · rw [if_neg (by simp [hgauge])]
        exact ⟨fun h => absurd hg h, fun _ => by simp [enterSettling, writeIdRec],
          fun _ h => absurd ((unusable_iff _).2 h) hbad, fun _ _ _ _ _ h => absurd hgauge h,
          fun _ _ _ _ _ _ => by simp [enterSettling, writeIdRec]⟩
      · rw [if_pos hgauge]
        exact ⟨fun h => absurd hg h, fun _ => failAttach_idRec _ _ _ (writeIdRec w s) s,
          fun _ h => absurd ((unusable_iff _).2 h) hbad,
          fun _ _ _ _ _ _ => failAttach_fails (s := writeIdRec w s) _ _ s hs rfl,
          fun _ _ _ _ _ h => absurd h hgauge⟩
  · have hg := (identCheckGood_iff w).not.1 hgood
    rw [if_pos (by simpa using hgood)]
    exact ⟨fun _ => ⟨failAttach_idRec _ _ _ s s, failAttach_fails _ _ s hs rfl⟩, fun h => absurd h hg,
      fun h => absurd h hg, fun h => absurd h hg, fun h => absurd h hg⟩
end Sys2Proof.Proofs
end

section
namespace Sys2Proof.Proofs
open Sys2Proof.Machine Sys2Proof.Safety Sys2Proof.Laws

/-! ## The ways an attach fails -/

theorem closeExpired_fails {s : State} (h : s.ext.state = .closing) :
    closeExpired s = failAttach .closeTimeout 0 .extCloseTimeout s := by
  simp [closeExpired, h]

theorem identExpired_fails {s : State} (h : s.ext.state = .ident) :
    identExpired s = failAttach .idFault 0 .extIdFault s := by
  simp [identExpired, h]

theorem seatLost_fails {s : State} (h : s.ext.state = .ident ∨ s.ext.state = .settling) :
    seatLost s = failAttach .idFault 0 .extIdFault s := by
  rcases h with h | h <;> simp [seatLost, h]

theorem seatLost_switchesOver {s : State} (h : s.ext.state = .measuring) :
    seatLost s = switchover .idFault s := by
  simp [seatLost, h]

/-- R123: the notice that a switchover queues. -/
theorem switchover_notices {s : State} {e p : Int} {c : SwitchCause} {k : ExtEventKind} (hp : s.ext.pair = some (e, p))
    (hk : c.event = some k) (hroom : s.link.notices.length < 8) :
    (switchover c s).link.notices = s.link.notices ++ [{ kind := .extEvent k 0, index := s.lastIndex }] := by
  simp only [switchover, hp, switchNotice, hk]
  exact pushNotice_notices _ hroom

/-- R105, R106: the seat lost while MEASURING. -/
theorem armClosedLow_switchesOver {s : State} {e p : Int} (hm : s.ext.state = .measuring)
    (hp : s.ext.pair = some (e, p)) : Next (exec .armClosedLow s) fun t =>
      t.lines = { s.lines with armClosed := false }
        ∧ t.ext = { s.ext.opening with offset := if s.seq.phase = 0 then 0 else e - s.rawStrain p }
        ∧ t.testRec = s.testRec.map (fun r => { r with switchPart := some (.idFault, e, p) })
        ∧ t.seq = s.seq ∧ t.stop = s.stop
        ∧ (s.link.notices.length < 8 →
            t.link.notices = s.link.notices ++ [{ kind := .extEvent .idFault 0, index := s.lastIndex }]) := by
  have hlow : ∀ l, (s.setLines l).ext.pair = some (e, p) := fun _ => hp
  show Next (.next (finish s (seatLost (s.setLines { s.lines with armClosed := false })))) _
  rw [next_iff, seatLost_switchesOver (s := s.setLines { s.lines with armClosed := false }) hm]
  refine ⟨by simp, ?_, ?_, by simp, by simp, fun hroom => ?_⟩
  · rw [(finish_keeps _ _).2.2.2.2.2.2.2.2.1, switchover_ext _ (hlow _)]
    rfl
  · simpa using switchover_testRec_of_pair .idFault (hlow { s.lines with armClosed := false })
  · simpa [State.lastIndex] using switchover_notices (c := .idFault) (hlow { s.lines with armClosed := false }) rfl hroom

/-! ## The open timer's expiry -/

/-- R94, R110: the unit in JAMMED, a waiting request discarded. -/
def jammed (s : State) : State :=
  s.setExt { s.ext with state := .jammed, openTimer := none, attachWaits := false }

theorem openExpired_silent {s : State} (h : s.ext.state = .opening)
    (hk : ∀ k, s.start.config = some k → k.extFitted = false) : openExpired s = jammed s := by
  unfold openExpired jammed
  cases hc : s.start.config with
  | none => simp [h]
  | some k => simp [h, hk k hc]

theorem openExpired_faults {s : State} {k : Settings} (h : s.ext.state = .opening) (hk : s.start.config = some k)
    (hfit : k.extFitted = true) : openExpired s = report .extOpenTimeout (jammed s) := by
  simp [openExpired, jammed, h, hk, hfit]

/-- R68: a local fault of an active follow. -/
theorem report_local_follow {s : State} {c : FaultCause} (hs : s.start.strapFault = false) (hf : s.isFollow = true)
    (hq : s.follow.state.isFollowActive = true) (hc : c.isCellStop = false) :
    report c s = haltFollow .faulted (pushNotice (faultNotice c s) (recordFault c s)) := by
  have hf' : (pushNotice (faultNotice c s) (recordFault c s)).isFollow = true := by
    simpa [State.isFollow] using hf
  rw [report_eq c hs, if_neg (by simp [hc]), faultOwn, if_pos hf', faultFollow, if_pos (by simpa using hq)]

@[simp] theorem haltFollow_sets (q : SeqState) (s : State) :
    (haltFollow q s).follow.state = q ∧ (haltFollow q s).follow.asked = 0
      ∧ (haltFollow q s).budget.requested = 0 := by
  simp [haltFollow]

/-- R93, R110: the report of a jammed arm of a fitted extensometer, on a station of any role. -/
theorem jammed_reported {s : State} (old : State) (hs : s.start.strapFault = false) :
    let t := finish old (report .extOpenTimeout (jammed s))
    Recorded .extOpenTimeout s t ∧ t.travel.applied = 0
      ∧ (s.isFollow = false → s.seq.state.isTest = true → EndsFaulted .extOpenTimeout s t)
      ∧ (s.isFollow = true →
          s.follow.state = .followClaim ∨ s.follow.state = .following ∨ s.follow.state = .held →
          t.follow.state = .faulted ∧ t.follow.asked = 0 ∧ t.budget.requested = 0) := by
  have hrec : Recorded .extOpenTimeout s (report .extOpenTimeout (jammed s)) :=
    recorded_report (s := jammed s) _ hs
  refine ⟨by simpa [Recorded] using hrec, ?_, fun hf ht => ?_, fun hf hq => ?_⟩
  · rw [applied_finish, if_pos (report_forced _ (jammed s) hs)]
  · have hrole : s.start.role ≠ .follow := by simpa [State.isFollow] using hf
    exact endsFaulted_report (s := jammed s) old ⟨hs, hrole⟩ ht rfl
  · rw [report_local_follow (s := jammed s) hs hf ((isFollowActive_iff _).2 hq) rfl]
    simp

/-- R110: the arm is jammed after the report as before it. -/
theorem jammed_stands (s : State) : (report .extOpenTimeout (jammed s)).ext.state = .jammed
    ∧ (report .extOpenTimeout (jammed s)).ext.openTimer = none
    ∧ (report .extOpenTimeout (jammed s)).ext.attachWaits = false := by
  obtain ⟨hst, htimer, hwaits⟩ := report_arm_of_open .extOpenTimeout (s := jammed s) rfl
  exact ⟨hst, htimer, hwaits rfl⟩

/-- Settles O39: a timeout or a lost seat fails the attach (`failAttach_fails`), a seat lost while MEASURING switches
over, and the open timer jams the arm and reports it where an extensometer is fitted (`jammed_reported`). -/
theorem attachAndArmFailures : Obligations.AttachAndArmFailures := by
  unfold Obligations.AttachAndArmFailures
  refine ⟨fun s hs => ⟨fun h => ?_, fun h => ?_, fun h => ?_⟩,
    fun s e p hm hp => armClosedLow_switchesOver hm hp, fun s h => ?_⟩
  · show Next (.next (finish s (closeExpired s))) _
    rw [next_iff, closeExpired_fails h]
    exact failAttach_fails _ _ s hs rfl
  · show Next (.next (finish s (identExpired s))) _
    rw [next_iff, identExpired_fails h]
    exact failAttach_fails _ _ s hs rfl
  · show Next (.next (finish s (seatLost (s.setLines { s.lines with armClosed := false })))) _
    rw [next_iff, seatLost_fails (s := s.setLines { s.lines with armClosed := false }) h]
    exact failAttach_fails (s := s.setLines { s.lines with armClosed := false }) _ _ s hs rfl
  · show Next (.next (finish s (openExpired s))) _
    rw [next_iff]
    by_cases hfit : ∃ k, s.start.config = some k ∧ k.extFitted = true
    · obtain ⟨k, hk, hfit⟩ := hfit
      obtain ⟨hst, htimer, hwaits⟩ := jammed_stands s
      rw [openExpired_faults h hk hfit]
      exact ⟨by simpa using hst, by simpa using htimer, by simpa using hwaits, fun hn => by simp [hk] at hn,
        fun k' hk' hno => by simp_all, fun _ hgood _ _ => jammed_reported s hgood⟩
    · push Not at hfit
      rw [openExpired_silent h fun k hk => by simpa using hfit k hk]
      exact ⟨by simp [jammed], by simp [jammed], by simp [jammed], fun _ => by simp [jammed],
        fun _ _ _ => by simp [jammed], fun k _ hk hyes => absurd hyes (hfit k hk)⟩
end Sys2Proof.Proofs
end

section
namespace Sys2Proof.Proofs
open Sys2Proof.Machine Sys2Proof.Safety Sys2Proof.Laws

/-! ## What the examination looks for -/

theorem travelPassed_iff (e : Ext) (reading : Int) : travelPassed e reading = true ↔ TravelPassed e reading := by
  rw [travelPassed, saturated, Bool.or_eq_true, beq_iff_eq, decide_eq_true_iff]
  exact Iff.rfl

theorem windowTakes_iff (v : ExtView) (r : SampleRec) : windowTakes v r = true ↔ Joins v r := by
  simp [windowTakes, Joins]

theorem slipRise_eq (peak : Option Peak) :
    slipRise peak = ((peak.map fun p => p.load.natAbs * 10 / 1000).getD 0 : Nat) := by
  cases peak <;> rfl

theorem slips_iff {window : List (Int × Int)} (tolerance : Nat) (peak : Option Peak) (r : SampleRec)
    (h : window.length ≤ 8) : slips tolerance peak window r = true ↔ ∃ w, window.length = 8 ∧ window[1]? = some w
      ∧ ((peak.map fun p => p.load.natAbs * 10 / 1000).getD 0 : Nat) ≤ r.load - w.1 ∧ r.strain < w.2 - tolerance := by
  have hfull : windowLength ≤ window.length ↔ window.length = 8 := by
    show 8 ≤ window.length ↔ _
    omega
  rw [slips, Bool.and_eq_true, decide_eq_true_iff, hfull, slipRise_eq]
  cases window[1]? <;> simp

theorem slipped_iff {window : List (Int × Int)} (tolerance : Nat) (v : ExtView) (r : SampleRec)
    (h : window.length ≤ 8) :
    (windowTakes v r && slips tolerance v.peak window r) = true ↔ Slipped tolerance v window r := by
  rw [Bool.and_eq_true, windowTakes_iff, slips_iff tolerance v.peak r h]

theorem removalMet_iff (s : State) (plan : ExtPlan) (v : ExtView) (r : SampleRec) :
    removalMet s plan v r = true ↔ RemovalDue s plan v r := by
  have hdrop := droppedBy_iff v.peak plan.value r.load
  cases hp : plan.removal with
  | atStrain => simp [removalMet, RemovalDue, hp]
  | atPeakDrop =>
    have hmet : removalMet s plan v r
        = (windowTakes v r && s.load.breakArmed && droppedBy v.peak plan.value r.load) := by
      simp only [removalMet, hp]
      cases v.peak <;> rfl
    rw [hmet, Bool.and_eq_true, Bool.and_eq_true, windowTakes_iff, hdrop, RemovalDue, hp]
    simp [and_assoc]
  | atPhaseEnd => simp [removalMet, RemovalDue, hp]

/-! ## The cause that the examination finds -/

theorem examineCause_brk {s : State} {r : SampleRec} (v : ExtView) (h : r.brk = true) :
    examineCause s v r = some .testEnd := by
  simp [examineCause, h]

theorem examineCause_travel {s : State} {v : ExtView} {r : SampleRec} (hb : r.brk = false)
    (h : TravelPassed s.ext v.reading) : examineCause s v r = some .travel := by
  simp [examineCause, hb, (travelPassed_iff _ _).2 h]

/-- R101, steps 3 and 4. -/
theorem examineCause_plan {s : State} {v : ExtView} {r : SampleRec} {plan : ExtPlan} (hp : s.extPlan = some plan)
    (hb : r.brk = false) (ht : ¬TravelPassed s.ext v.reading) : examineCause s v r
      = if windowTakes v r && slips plan.slipTolerance v.peak s.ext.slip r then some .slip
        else if removalMet s plan v r then some .removal else none := by
  simp [examineCause, hb, mt (travelPassed_iff _ _).1 ht, hp]

theorem examineSample_switches {s : State} {v : ExtView} {r : SampleRec} {c : SwitchCause}
    (hm : s.ext.state = .measuring) (h : examineCause s v r = some c) : examineSample v r s = switchover c s := by
  simp [examineSample, hm, h]

theorem examineSample_joins {s : State} {v : ExtView} {r : SampleRec} (hm : s.ext.state = .measuring)
    (h : examineCause s v r = none) : examineSample v r s = joinSlip v r s := by
  simp [examineSample, hm, h]

theorem examineSample_idle {s : State} (v : ExtView) (r : SampleRec) (h : s.ext.state ≠ .measuring) :
    examineSample v r s = s := by
  simp [examineSample, h]

theorem pushWindow_bounded {α : Type} {w : List α} (x : α) (h : w.length ≤ 8) :
    pushWindow w x = (if w.length = 8 then w.tail else w) ++ [x] := by
  split
  · rename_i hfull
    exact pushWindow_of_full x hfull
  · exact pushWindow_of_short x (by omega)

theorem joinSlip_takes {v : ExtView} {r : SampleRec} {s : State} (hj : Joins v r) (hl : s.ext.slip.length ≤ 8) :
    joinSlip v r s = s.setExt { s.ext with
      slip := (if s.ext.slip.length = 8 then s.ext.slip.tail else s.ext.slip) ++ [(r.load, r.strain)] } := by
  rw [joinSlip, if_pos ((windowTakes_iff v r).2 hj), pushWindow_bounded _ hl]

theorem joinSlip_leaves {v : ExtView} {r : SampleRec} {s : State} (hj : ¬Joins v r) : joinSlip v r s = s := by
  rw [joinSlip, if_neg (mt (windowTakes_iff v r).1 hj)]

/-! ## The arm on its way out during a sample -/

theorem armOpens_switchover (c : SwitchCause) (s : State) : ArmOpens (switchover c s) := by
  rcases hp : s.ext.pair with _ | ⟨e, p⟩
  · simp [ArmOpens, switchover, hp]
  · rw [ArmOpens, switchover_ext c hp]
    exact ⟨rfl, rfl⟩

theorem armOpens_openArm {s : State} (c : SwitchCause) (h : s.ext.state.closes = true) : ArmOpens (openArm c s) := by
  cases he : s.ext.state
  case measuring => rw [openArm_measuring c he]; exact armOpens_switchover c _
  case closing | ident | settling => simp [ArmOpens, openArm, he]
  all_goals simp [he, ExtState.closes] at h

/-- The arm with its timer and its zero is as it was, or has begun to open. -/
def ArmMoves (s t : State) : Prop :=
  (t.ext.state = s.ext.state ∧ t.ext.openTimer = s.ext.openTimer ∧ t.ext.zero = s.ext.zero) ∨ ArmOpens t

namespace ArmMoves

variable {s t u : State}

theorem of_ext (h : t.ext = s.ext) : ArmMoves s t := .inl (by simp [h])

theorem trans (h1 : ArmMoves s t) (h2 : ArmMoves t u) : ArmMoves s u := by
  rcases h2 with ⟨hst, htimer, hzero⟩ | hout
  · rcases h1 with ⟨hst', htimer', hzero'⟩ | hout
    · exact .inl ⟨hst.trans hst', htimer.trans htimer', hzero.trans hzero'⟩
    · exact .inr ⟨hst.trans hout.1, htimer.trans hout.2⟩
  · exact .inr hout

theorem openArm (c : SwitchCause) : ArmMoves s (Machine.openArm c s) := by
  cases hc : s.ext.state.closes with
  | true => exact .inr (armOpens_openArm c hc)
  | false => exact .inl (by simp [(openArm_ext_of_open c hc).1])

theorem removeArm : ArmMoves s (Machine.removeArm s) := by
  unfold Machine.removeArm
  split
  · exact .inr (armOpens_switchover _ s)
  · exact of_ext rfl

theorem report (c : FaultCause) : ArmMoves s (Machine.report c s) := by
  rcases report_arm c s with ⟨he, -⟩ | ⟨he, -⟩
  · exact of_ext he
  · exact (openArm .stop).trans (of_ext he)

theorem foldReport (cs : List FaultCause) : ArmMoves s (cs.foldl (fun u c => Machine.report c u) s) := by
  induction cs generalizing s with
  | nil => exact of_ext rfl
  | cons c cs ih => exact (report c).trans ih

theorem reportFound (cs : List FaultCause) : ArmMoves s (Machine.reportFound cs s) := by
  obtain ⟨n, hn⟩ := reportFound_eq cs s
  rw [hn]
  exact (of_ext (t := s.setFree n) rfl).trans (foldReport _)

theorem checkFirst (checked : Bool) (r : SampleRec) : ArmMoves s (Machine.checkFirst checked r s) := by
  unfold Machine.checkFirst
  split
  · exact of_ext rfl
  · exact (of_ext (by simp)).trans (reportFound _)

/-! ### The handling of the sample -/

theorem beginPhase (r : SampleRec) : ArmMoves s (Machine.beginPhase r s) := by
  cases hp : s.curPhase with
  | none => exact of_ext (by simp [Machine.beginPhase, hp])
  | some p =>
    rw [beginPhase_of_phase r hp]
    refine trans (t := phaseStarted r p s) ?_ (of_ext (by simp))
    dsimp only [phaseStarted]
    split
    · exact (of_ext (by simp)).trans removeArm
    · exact of_ext (by simp)

theorem enterEnding (o : TestOutcome) (c : SwitchCause) : ArmMoves s (Machine.enterEnding o c s) := by
  have hraise : ∀ v : State, (withdrawRaise v).ext = v.ext := fun v => by simp
  refine ((of_ext ?_).trans (openArm c)).trans (of_ext (hraise _))
  simp

theorem openArm_requests (q : SeqState) (n : Nat) (reason : GrantReason) :
    ArmMoves s (requestUnits n reason (Machine.openArm .testEnd (gotoState q s))) :=
  ((of_ext (t := gotoState q s) (by simp)).trans (openArm .testEnd)).trans (of_ext (by simp))

theorem enterDone : ArmMoves s (Machine.enterDone s) :=
  (openArm_requests .done 0 .release).trans (of_ext (by simp [Machine.enterDone]))

theorem nextPhase (r : SampleRec) : ArmMoves s (Machine.nextPhase r s) := by
  unfold Machine.nextPhase
  dsimp only
  split
  · exact enterEnding _ _
  · split
    · exact (of_ext (by simp)).trans (beginPhase r)
    · exact of_ext (by simp)

theorem returnStep (r : SampleRec) : ArmMoves s (Machine.returnStep r s) := by
  unfold Machine.returnStep
  split
  · exact of_ext rfl
  · split_ifs
    · exact enterDone
    · exact of_ext rfl
    · exact of_ext rfl
    · exact of_ext rfl

theorem endingStep (r : SampleRec) : ArmMoves s (Machine.endingStep r s) := by
  unfold Machine.endingStep
  split_ifs
  · exact (openArm_requests .returning _ .ret).trans (returnStep r)
  · exact enterDone
  · exact of_ext rfl
  · exact of_ext rfl

theorem endOnSample (o : TestOutcome) (r : SampleRec) : ArmMoves s (Machine.endOnSample o r s) := by
  unfold Machine.endOnSample
  dsimp only
  split
  · exact (enterEnding _ _).trans (endingStep r)
  · exact enterEnding _ _

theorem endPhase (r : SampleRec) : ArmMoves s (Machine.endPhase r s) := by
  have hnext : ArmMoves s (Machine.nextPhase r (removalMade s)) := by
    unfold removalMade
    split
    · exact removeArm.trans (nextPhase r)
    · exact nextPhase r
  rw [endPhase_eq]
  split_ifs
  · exact hnext.trans (endingStep r)
  · exact hnext
  · exact hnext

theorem startPhaseOne (r : SampleRec) : ArmMoves s (Machine.startPhaseOne r s) :=
  (of_ext (by simp)).trans (beginPhase r)

theorem claimingSample (r : SampleRec) : ArmMoves s (Machine.claimingSample r s) := by
  unfold Machine.claimingSample
  split_ifs
  · exact startPhaseOne r
  · exact of_ext rfl
  · exact of_ext rfl

theorem runningSample (r : SampleRec) (ended : Bool) : ArmMoves s (Machine.runningSample r ended s) := by
  unfold Machine.runningSample
  split_ifs
  · exact endOnSample _ r
  · exact endPhase r
  · exact of_ext (by simp)

theorem heldSample (r : SampleRec) : ArmMoves s (Machine.heldSample r s) := by
  have hresumed : ArmMoves s (resume r s) := by
    unfold resume
    dsimp only
    split
    · exact of_ext (by simp)
    · exact (of_ext (by simp)).trans (beginPhase r)
  unfold Machine.heldSample
  split_ifs
  · exact endOnSample _ r
  · exact hresumed
  · exact of_ext rfl
  · exact of_ext rfl

theorem handleSample (r : SampleRec) (ended : Bool) : ArmMoves s (Machine.handleSample r ended s) := by
  have hcount : ArmMoves s (countSample s) := of_ext (by simp)
  unfold Machine.handleSample
  dsimp only
  split
  · exact hcount.trans (claimingSample r)
  · exact hcount.trans (runningSample r ended)
  · exact hcount.trans (heldSample r)
  · exact hcount.trans (endingStep r)
  · exact hcount.trans (returnStep r)
  · exact hcount

end ArmMoves

/-! ## A sample past the travel limit -/

/-- R102: the arm begins to open, or is still to be examined by a reading past the travel limit. -/
def PastTravel (reading : Int) (s : State) : Prop :=
  (s.ext.state = .measuring ∧ TravelPassed s.ext reading) ∨ ArmOpens s

theorem ArmMoves.pastTravel {reading : Int} {s t : State} (h : ArmMoves s t) (hs : PastTravel reading s) :
    PastTravel reading t := by
  rcases h with ⟨hst, htimer, hzero⟩ | hout
  · rcases hs with ⟨hm, ht⟩ | hout
    · exact .inl ⟨hst.trans hm, by rwa [TravelPassed, hzero]⟩
    · exact .inr ⟨hst.trans hout.1, htimer.trans hout.2⟩
  · exact .inr hout

/-- R101, R102: the examination opens the arm, for the break or for the travel. -/
theorem PastTravel.examined {v : ExtView} {s : State} (r : SampleRec) (h : PastTravel v.reading s) :
    ArmOpens (examineSample v r s) := by
  rcases h with ⟨hm, ht⟩ | hout
  · cases hb : r.brk with
    | true => rw [examineSample_switches hm (examineCause_brk v hb)]; exact armOpens_switchover _ s
    | false => rw [examineSample_switches hm (examineCause_travel hb ht)]; exact armOpens_switchover _ s
  · rwa [examineSample_idle v r (by simp [hout.1])]

theorem ArmOpens.moves {s t : State} (h : ArmOpens s) (hm : ArmMoves s t) : ArmOpens t :=
  hm.elim (fun ⟨hst, htimer, _⟩ => ⟨hst.trans h.1, htimer.trans h.2⟩) id

/-- R101: in either order of the examination and the handling. -/
theorem PastTravel.handledIn {checked ended : Bool} {v : ExtView} {r : SampleRec} {s h : State}
    (hp : PastTravel v.reading s) (hext : r.ext = true) (hh : HandledIn checked ended v r s h) : ArmOpens h := by
  obtain ⟨n, m, hh⟩ := hh
  have hfirst : PastTravel v.reading ((checkFirst checked r (s.setFree n)).setFree m) :=
    (ArmMoves.checkFirst (s := s.setFree n) checked r).pastTravel hp
  rcases hh with ⟨hno, -⟩ | ⟨-, rfl | rfl⟩
  · simp [hext] at hno
  · exact (hfirst.examined r).moves (.handleSample r ended)
  · exact ((ArmMoves.handleSample r ended).pastTravel hfirst).examined r

/-! ## The reports of a sample find the arm opening -/

namespace ArmOpens

variable {s : State}

/-- R94: a request that finds the arm opening waits. -/
theorem enterAttaching (h : ArmOpens s) : ArmOpens (Machine.enterAttaching s) := by
  simpa [Machine.enterAttaching, h.1, ArmOpens] using h.2

theorem tareJudged (h : ArmOpens s) : ArmOpens (Machine.tareJudged s) := by
  have hgrips : ∀ t, ArmOpens t → ArmOpens (takeGripsLow t) := fun t ht => ht.of_ext (by
    unfold takeGripsLow
    split <;> simp)
  have hjudged : ∀ a, ArmOpens (judgeTare a s) := fun a => by
    unfold judgeTare tareSucceeded
    dsimp only
    split_ifs
    · exact enterAttaching (h.of_ext rfl)
    · exact h.of_ext (by simp)
    · exact h.of_ext rfl
    · exact h.report _
  unfold Machine.tareJudged
  split
  · exact h
  · split
    · exact hgrips _ (hjudged _)
    · exact h

theorem claimChecked {act : State → State} (h : ArmOpens (act s)) : ArmOpens (Machine.claimChecked act s) := by
  unfold Machine.claimChecked
  dsimp only
  split
  · exact h.moves ((ArmMoves.of_ext (by simp)).trans (ArmMoves.reportFound _))
  · exact h

theorem takeReport (failed : Bool) (c : FaultCause) (h : ArmOpens s) : ArmOpens (Machine.takeReport failed s c) := by
  unfold Machine.takeReport
  split_ifs
  · exact claimChecked h.tareJudged
  · exact h.report _
  · exact h
  · exact h.report _

theorem reportAll (failed : Bool) (cs : List FaultCause) (h : ArmOpens s) : ArmOpens (Machine.reportAll failed cs s) := by
  unfold Machine.reportAll
  induction cs generalizing s with
  | nil => exact h
  | cons c cs ih => exact ih (h.takeReport failed c)

/-- R99: a unit that opens its arm is not due for MEASURING. -/
theorem moveSample (checked overload : Bool) (r : SampleRec) (h : ArmOpens s) :
    ArmOpens (Machine.moveSample checked overload r s) := by
  obtain ⟨n, hn⟩ := sampleReports_draws checked overload s (demandRequest s) r
  have hready : ArmOpens (rememberSkew (s.setFree n)) := h.of_ext (by simp)
  have hnot : settlingDue (rememberSkew (s.setFree n)) = false := by simp [settlingDue, h.1]
  have hearly : ArmOpens (reportedEarly checked overload r s) := by
    rw [reportedEarly, hn, reportEarly, hnot, Bool.and_false, if_neg Bool.false_ne_true]
    exact hready.reportAll _ _
  rw [moveSample_eq]
  exact reportAll _ _ (hearly.of_ext (by simp))

end ArmOpens

theorem completeSample_pastTravel {reading y : Int} {s : State} (hs : TestStation s) (hm : s.ext.state = .measuring)
    (ht : TravelPassed s.ext y) : ArmOpens (completeSample reading (some y) s) := by
  have hf := isFollow_of_testStation hs
  obtain ⟨checked, h, hh, -, he⟩ := completeSample_handles reading (some y) hf
  have hext := (loadView_record_ext reading y s).2 ⟨hf, hm⟩
  have htaken : (takeGripsUnreported (takenSample (loadView reading (some y) s) s)).ext
      = (takeMeasured (loadView reading (some y) s).record s).ext := by
    rw [← takenSample_ext]
    simp
  have hpast : PastTravel (viewOf y s).reading (takeGripsUnreported (takenSample (loadView reading (some y) s) s)) := by
    refine .inl ?_
    rw [htaken, takeMeasured, if_pos hext]
    exact ⟨hm, ht⟩
  rw [he]
  exact (hpast.handledIn hext hh).moveSample _ _ _

/-- Settles O40: the cause of the examination (`examineCause_plan`) read off the sample by an equivalence for each
condition; a sample past the travel limit finds the arm MEASURING or already opening in both orders
(`PastTravel.handledIn`), and no report of the sample closes it again (`ArmOpens.moveSample`). -/
theorem examinationSwitchesOver : Obligations.ExaminationSwitchesOver := by
  unfold Obligations.ExaminationSwitchesOver
  refine ⟨fun v r plan s hm hplan hl _ => ⟨fun hb => ?_, fun hb ht => ?_, fun hb ht hslip => ?_,
    fun hb ht hslip hrem => ?_, fun hb ht hslip hrem hj => ?_, fun hb ht hrem hj => ?_⟩,
    fun v r s hm => examineSample_idle v r hm, fun c e p s hp => ⟨switchover_ext c hp, switchover_testRec_of_pair c hp,
      fun hc => switchover_link s (by rcases hc with rfl | rfl | rfl <;> rfl), fun k hroom hk => ?_⟩,
    fun reading s hs hm hl ht => ?_⟩
  · exact examineSample_switches hm (examineCause_brk v hb)
  · exact examineSample_switches hm (examineCause_travel hb ht)
  · refine examineSample_switches hm ?_
    rw [examineCause_plan hplan hb ht, if_pos ((slipped_iff _ v r hl).2 hslip)]
  · refine examineSample_switches hm ?_
    rw [examineCause_plan hplan hb ht, if_neg (mt (slipped_iff _ v r hl).1 hslip),
      if_pos ((removalMet_iff s plan v r).2 hrem)]
  · rw [examineSample_joins hm, joinSlip_takes hj hl]
    rw [examineCause_plan hplan hb ht, if_neg (mt (slipped_iff _ v r hl).1 hslip),
      if_neg (mt (removalMet_iff s plan v r).1 hrem)]
  · rw [examineSample_joins hm, joinSlip_leaves hj]
    rw [examineCause_plan hplan hb ht, if_neg fun hs => hj ((slipped_iff _ v r hl).1 hs).1,
      if_neg (mt (removalMet_iff s plan v r).1 hrem)]
  · exact switchover_notices hp (by rcases hk with ⟨rfl, rfl⟩ | ⟨rfl, rfl⟩ | ⟨rfl, rfl⟩ | ⟨rfl, rfl⟩ <;> rfl) hroom
  · obtain ⟨l, hread⟩ := Option.isSome_iff_exists.1 hl.2
    have hclamp : clampReading reading = max (-1100000) (min 1100000 reading) := rfl
    rw [exec_strainConversionEnd_completes hl hread, next_iff, countSettling_of_other _ (by simp [hm]), hclamp]
    have hout := completeSample_pastTravel (reading := l) hs hm ht
    exact ⟨by simpa using hout.1, by simpa using hout.2⟩
end Sys2Proof.Proofs
end

section
namespace Sys2Proof.Proofs
open Sys2Proof.Machine Sys2Proof.Safety Sys2Proof.Laws

/-! ## The arm lines and the start of a word -/

variable {y x : Int} {s t : State}

theorem seatFound_closing {s : State} (h : s.ext.state = .closing) : seatFound s
    = s.setExt { s.ext with state := .ident, closeTimer := none, identTimer := some 0, shift := none } := by
  simp [seatFound, h]

theorem seatFound_idle {s : State} (h : s.ext.state ≠ .closing) : seatFound s = s := by
  simp [seatFound, h]

/-- R94, R110: the arm that is out is PARKED, and a request that waits is taken at once. -/
theorem armOut_opening {s : State} (h : s.ext.state = .opening) : armOut s
    = if s.ext.attachWaits then takeAttach (s.setExt { s.ext with state := .parked, openTimer := none })
      else s.setExt { s.ext with state := .parked, openTimer := none } := by
  simp [armOut, h]

theorem armOut_idle {s : State} (h : s.ext.state ≠ .opening) : armOut s = s := by
  simp [armOut, h]

theorem identStart_begins {s : State} (h : s.ext.state = .ident) (hs : s.ext.shift = none) :
    identStart s = s.setExt { s.ext with shift := some 0 } := by
  simp [identStart, h, hs]

theorem identStart_idle {s : State} (h : s.ext.state ≠ .ident ∨ s.ext.shift ≠ none) : identStart s = s := by
  rcases h with h | h <;> simp [identStart, h]

/-- R45: the lines and the extensometer unit are no part of what forces the drive port. -/
theorem finish_of_arm (hp : PortSafe s) (l : Lines) (e : Ext) :
    finish s ((s.setLines l).setExt e) = (s.setLines l).setExt e :=
  finish_of_same hp rfl rfl rfl

theorem armClosedHigh_closing (hp : PortSafe s) (h : s.ext.state = .closing) : exec .armClosedHigh s
    = .next ((s.setLines { s.lines with armClosed := true }).setExt
        { s.ext with state := .ident, closeTimer := none, identTimer := some 0, shift := none }) := by
  show Host.Outcome.next (finish s (seatFound (s.setLines { s.lines with armClosed := true }))) = _
  rw [seatFound_closing (s := s.setLines { s.lines with armClosed := true }) h]
  exact congrArg Host.Outcome.next (finish_of_arm hp _ _)

theorem armClosedHigh_idle (hp : PortSafe s) (h : s.ext.state ≠ .closing) :
    exec .armClosedHigh s = .next (s.setLines { s.lines with armClosed := true }) := by
  show Host.Outcome.next (finish s (seatFound (s.setLines { s.lines with armClosed := true }))) = _
  rw [seatFound_idle (s := s.setLines { s.lines with armClosed := true }) h]
  exact congrArg Host.Outcome.next (finish_of_arm hp _ s.ext)

theorem armOpenHigh_parks (hp : PortSafe s) (h : s.ext.state = .opening) (hw : s.ext.attachWaits = false) :
    exec .armOpenHigh s
      = .next ((s.setLines { s.lines with armOpen := true }).setExt
          { s.ext with state := .parked, openTimer := none }) := by
  show Host.Outcome.next (finish s (armOut (s.setLines { s.lines with armOpen := true }))) = _
  rw [armOut_opening (s := s.setLines { s.lines with armOpen := true }) h, if_neg (by simp [hw])]
  exact congrArg Host.Outcome.next (finish_of_arm hp _ _)

theorem armOpenHigh_attaches (hp : PortSafe s) (h : s.ext.state = .opening) (hw : s.ext.attachWaits = true) :
    exec .armOpenHigh s
      = .next ((s.setLines { s.lines with armOpen := true }).setExt
          { s.ext with state := .closing, openTimer := none, closeTimer := some 0, idRec := none
                       attachWaits := false }) := by
  show Host.Outcome.next (finish s (armOut (s.setLines { s.lines with armOpen := true }))) = _
  rw [armOut_opening (s := s.setLines { s.lines with armOpen := true }) h, if_pos (by simpa using hw)]
  exact congrArg Host.Outcome.next (finish_of_arm hp _ _)

theorem armOpenHigh_idle (hp : PortSafe s) (h : s.ext.state ≠ .opening) :
    exec .armOpenHigh s = .next (s.setLines { s.lines with armOpen := true }) := by
  show Host.Outcome.next (finish s (armOut (s.setLines { s.lines with armOpen := true }))) = _
  rw [armOut_idle (s := s.setLines { s.lines with armOpen := true }) h]
  exact congrArg Host.Outcome.next (finish_of_arm hp _ s.ext)

theorem identStartBit_begins (hp : PortSafe s) (h : s.ext.state = .ident) (hs : s.ext.shift = none) :
    exec .identStartBit s = .next (s.setExt { s.ext with shift := some 0 }) := by
  show Host.Outcome.next (finish s (identStart s)) = _
  rw [identStart_begins h hs]
  exact congrArg Host.Outcome.next (finish_of_arm hp s.lines _)

theorem identStartBit_idle (hp : PortSafe s) (h : s.ext.state ≠ .ident ∨ s.ext.shift ≠ none) :
    exec .identStartBit s = .next s := by
  show Host.Outcome.next (finish s (identStart s)) = _
  rw [identStart_idle h]
  exact congrArg Host.Outcome.next (finish_of_arm hp s.lines s.ext)

/-! ## The end of SETTLING -/

theorem reportMeasuring_claims {s : State} (h : s.seq.state = .attaching) : reportMeasuring s = enterClaiming s := by
  simp [reportMeasuring, h]

theorem settled_due {s : State} (h : s.ext.state = .settling) (hc : 16 ≤ s.ext.strainCount) :
    settled s = reportMeasuring (enterMeasuring s) :=
  if_pos ((settlingDue_iff s).2 ⟨h, hc⟩)

theorem settlingComplete_measures {s : State} (h : s.ext.state = .settling) (hc : 16 ≤ s.ext.strainCount) :
    Next (exec .settlingComplete s) fun t =>
      t.ext = { s.ext with state := .measuring, zero := some s.ext.lastReading, slip := []
                           pair := some (0, s.travel.latched) }
        ∧ t.stop = s.stop
        ∧ (s.seq.state = .attaching → t.seq.state = .claiming ∧ t.budget.requested = s.shareOf 1
            ∧ t.budget.reason = .phase)
        ∧ (s.seq.state ≠ .attaching → t.seq = s.seq ∧ t.budget = s.budget) := by
  show Next (.next (finish s (settled s))) _
  rw [next_iff, settled_due h hc]
  have hext : (enterMeasuring s).ext = { s.ext with state := .measuring, zero := some s.ext.lastReading, slip := []
                                                    pair := some (0, s.travel.latched) } := rfl
  refine ⟨by simp [hext], by simp, fun hq => ?_, fun hq => ?_⟩
  · rw [reportMeasuring_claims (s := enterMeasuring s) hq]
    exact ⟨by simp, by simp [State.shareOf], by simp⟩
  · rw [reportMeasuring_idle (s := enterMeasuring s) hq]
    exact ⟨by simp, by simp⟩

/-! ## A report that halts a test -/

/-- R149, R150, R153: the state in which the sequencer answers a cell stop whose latch is new. -/
def latchedBy (c : FaultCause) (s : State) : State :=
  let u := drivingStop c (pushNotice (faultNotice c s) (recordFault c s))
  u.setStop { u.stop with latch := true }

theorem latchedBy_keeps (c : FaultCause) (s : State) :
    SameArm s (latchedBy c s) ∧ (latchedBy c s).seq = s.seq ∧ (latchedBy c s).start = s.start :=
  ⟨(faultNoticed_arm c s).trans ((drivingStop_arm c _).trans (.of_kept rfl rfl)), by simp [latchedBy, drivingStop],
    by simp [latchedBy, drivingStop]⟩

theorem report_cell_clear {c : FaultCause} {s : State} (hs : TestStation s) (hc : c.isCellStop = true)
    (hl : s.stop.latch = false) : report c s = stopSequencer (latchedBy c s) := by
  have hf : (latchedBy c s).isFollow = false := by
    simpa [State.isFollow, (latchedBy_keeps c s).2.2] using hs.2
  have hstop : report c s = stopOwn (latchedBy c s) := by
    rw [report_eq c hs.1, if_pos hc, stopCell_eq]
    exact setLatch_of_clear (by simpa [drivingStop] using hs.1) (by simpa [drivingStop] using hl)
  rw [hstop, stopOwn, if_neg (by simp [hf])]

/-- R23, R24: a report in a test state is a halt, a cell stop with a latch that is clear too. -/
theorem report_halts {s : State} (c : FaultCause) (hs : TestStation s) (ht : s.seq.state.isTest = true)
    (hl : s.stop.latch = false) : ∃ q o u, (q = .stopped ∨ q = .faulted) ∧ SameArm s u ∧ u.seq = s.seq
      ∧ report c s = haltSequencer q o u := by
  cases hc : c.isCellStop with
  | false => exact ⟨_, _, _, .inr rfl, faultNoticed_arm c s, by simp, report_local hs ht hc⟩
  | true =>
    obtain ⟨h1, h2, h3, -⟩ := isTest_halts _ ht
    obtain ⟨harm, hseq, -⟩ := latchedBy_keeps c s
    exact ⟨_, _, _, .inl rfl, harm, hseq,
      (report_cell_clear hs hc hl).trans (stopSequencer_halts _ (by simp [hseq, h1, h2, h3]))⟩

/-! ## The unit that has entered MEASURING on a faulty sample -/

/-- R99: a test whose unit has entered MEASURING with the zero `y` on the sample at position `x`. -/
structure ZeroTaken (y x : Int) (s : State) : Prop where
  station : TestStation s
  test : s.seq.state.isTest = true
  latch : s.stop.latch = false
  arm : s.ext.state = .measuring
  zero : s.ext.zero = some y
  pair : s.ext.pair = some (0, x)

/-- R23, R24, R106, R154: that test has been halted, and the unit has switched over from its zero. -/
structure ZeroSwitched (y x : Int) (s : State) : Prop where
  halted : s.seq.state = .stopped ∨ s.seq.state = .faulted
  arm : s.ext.state = .opening
  zero : s.ext.zero = some y
  pair : s.ext.pair = some (0, x)
  switched : ∀ part ∈ s.testRec.map (·.switchPart), ∃ c, part = some (c, 0, x)

theorem ZeroSwitched.of_arm (h : ZeroSwitched y x s) (harm : SameArm s t) (hseq : t.seq = s.seq) :
    ZeroSwitched y x t where
  halted := by rw [hseq]; exact h.halted
  arm := by rw [harm.1]; exact h.arm
  zero := by rw [harm.1]; exact h.zero
  pair := by rw [harm.1]; exact h.pair
  switched := by rw [harm.2]; exact h.switched

theorem ZeroTaken.of_arm (h : ZeroTaken y x s) (harm : SameArm s t) (hseq : t.seq = s.seq) (hstart : t.start = s.start)
    (hstop : t.stop = s.stop) : ZeroTaken y x t where
  station := by rw [TestStation, hstart]; exact h.station
  test := by rw [hseq]; exact h.test
  latch := by rw [hstop]; exact h.latch
  arm := by rw [harm.1]; exact h.arm
  zero := by rw [harm.1]; exact h.zero
  pair := by rw [harm.1]; exact h.pair

/-- R23, R106: a halt of the test opens the arm and writes the switchover from the zero. -/
theorem ZeroTaken.report (c : FaultCause) (h : ZeroTaken y x s) : ZeroSwitched y x (Machine.report c s) := by
  obtain ⟨q, o, u, hq, harm, hseq, he⟩ := report_halts c h.station h.test h.latch
  have hopen : SameArm (switchover .stop (s.setExt { s.ext with attachWaits := false })) (haltSequencer q o u) := by
    rw [← openArm_measuring .stop h.arm]
    exact (harm.openArm .stop hseq).trans (haltSequencer_arm q o u)
  rw [he]
  constructor
  case halted => simpa using hq
  case arm => rw [hopen.1, switchover_state]
  case zero => rw [hopen.1]; simpa using h.zero
  case pair => rw [hopen.1]; simpa using h.pair
  case switched =>
    rw [hopen.2, switchover_testRec_of_pair .stop (e := 0) (x := x) (by simpa using h.pair)]
    simp

/-- R108: further reports find the arm opening. -/
theorem ZeroSwitched.report (c : FaultCause) (h : ZeroSwitched y x s) : ZeroSwitched y x (Machine.report c s) := by
  have hopen : (openArm .stop s).ext.state = .opening ∧ (openArm .stop s).testRec = s.testRec := by
    rw [(openArm_ext_of_open .stop (by rw [h.arm]; rfl)).1]
    exact ⟨h.arm, (openArm_link .stop s (by simp [h.arm])).2.1⟩
  have harm : (Machine.report c s).ext.state = .opening
      ∧ (Machine.report c s).testRec.map (·.switchPart) = s.testRec.map (·.switchPart) := by
    rcases report_arm c s with ⟨he, hr⟩ | ⟨he, hr⟩
    · exact ⟨by rw [he, h.arm], hr⟩
    · exact ⟨by rw [he, hopen.1], by rw [hr, hopen.2]⟩
  exact ⟨report_keepsHalted c h.halted, harm.1, by simpa using h.zero, by simpa using h.pair, by
    rw [harm.2]; exact h.switched⟩

theorem ZeroSwitched.foldl (cs : List FaultCause) (h : ZeroSwitched y x s) :
    ZeroSwitched y x (cs.foldl (fun u c => Machine.report c u) s) := by
  induction cs generalizing s with
  | nil => exact h
  | cons c cs ih => exact ih (h.report c)

theorem ZeroTaken.foldl {cs : List FaultCause} (hne : cs ≠ []) (h : ZeroTaken y x s) :
    ZeroSwitched y x (cs.foldl (fun u c => Machine.report c u) s) := by
  cases cs with
  | nil => exact absurd rfl hne
  | cons c cs => exact (h.report c).foldl cs

theorem ZeroTaken.reportFound {cs : List FaultCause} (hne : cs ≠ []) (h : ZeroTaken y x s) :
    ZeroSwitched y x (Machine.reportFound cs s) := by
  obtain ⟨n, hn⟩ := reportFound_eq cs s
  have hperm := drawOrder_perm cs s
  rw [hn]
  refine ZeroTaken.foldl (fun h0 => hne ?_) (h.of_arm (t := s.setFree n) (.of_kept rfl rfl) rfl rfl rfl)
  rw [h0] at hperm
  exact hperm.nil_eq.symm

/-! ## The report of MEASURING -/

/-- R9, R35, R60: the claim that an ATTACHING sequencer enters is checked on the same sample. -/
theorem claimChecked_measured (h : s.seq.state = .attaching) : claimChecked reportMeasuring s
    = Machine.reportFound (claimFaults (enterClaiming s)) (rememberSkew (enterClaiming s)) := by
  simp [claimChecked, reportMeasuring_claims h, h]

theorem ZeroTaken.claims (h : ZeroTaken y x s) : ZeroTaken y x (rememberSkew (enterClaiming s)) where
  station := by simpa [TestStation] using h.station
  test := by simp [SeqState.isTest]
  latch := by simpa using h.latch
  arm := by simpa using h.arm
  zero := by simpa using h.zero
  pair := by simpa using h.pair

theorem claimChecked_measured_clean (h : s.seq.state = .attaching) (hc : claimFaults (enterClaiming s) = []) :
    claimChecked reportMeasuring s = rememberSkew (enterClaiming s) := by
  rw [claimChecked_measured h, hc, reportFound_nil]

theorem ZeroTaken.claims_faulty (h : ZeroTaken y x s) (hq : s.seq.state = .attaching)
    (hc : claimFaults (enterClaiming s) ≠ []) : ZeroSwitched y x (claimChecked reportMeasuring s) := by
  rw [claimChecked_measured hq]
  exact h.claims.reportFound hc

theorem reportSettled_clean (failed : Bool) (h : s.seq.state = .attaching)
    (hc : claimFaults (enterClaiming s) = []) : reportSettled failed [] s = rememberSkew (enterClaiming s) :=
  claimChecked_measured_clean h hc

/-- R99, R154: a fault of the sample or of the claim, reported before or after MEASURING, leaves the zero switched
over. -/
theorem reportSettled_switches {cs : List FaultCause} (failed : Bool) (h : ZeroTaken y x s)
    (hq : s.seq.state = .attaching) (hcs : ∀ c ∈ cs, c ≠ .tareUnstable)
    (hne : cs ≠ [] ∨ claimFaults (enterClaiming s) ≠ []) : ZeroSwitched y x (reportSettled failed cs s) := by
  have hdrawn : ZeroTaken y x s.draw.2 := h.of_arm (.of_kept rfl rfl) rfl rfl rfl
  unfold reportSettled
  by_cases hempty : cs = []
  · rw [if_pos (by simp [hempty])]
    exact h.claims_faulty hq (hne.resolve_left (not_not.2 hempty))
  · rw [if_neg (by simpa using hempty), reportAll_of_faults hcs, reportAll_of_faults hcs]
    split
    · by_cases hc : claimFaults (enterClaiming s.draw.2) = []
      · rw [claimChecked_measured_clean (s := s.draw.2) hq hc]
        exact hdrawn.claims.foldl hempty
      · exact (hdrawn.claims_faulty hq hc).foldl cs
    · have hswitched := hdrawn.foldl hempty
      rwa [claimChecked_measured_idle (by rcases hswitched.halted with hs | hs <;> simp [hs])]

/-! ## The sample of the 16th reading -/

/-- R99: an ATTACHING test whose unit has its 16th reading `y` on the sample at position `x`. -/
structure SettlingEnds (y x : Int) (s : State) : Prop where
  station : TestStation s
  attaching : s.seq.state = .attaching
  latch : s.stop.latch = false
  arm : s.ext.state = .settling
  count : s.ext.strainCount = 16
  reading : s.ext.lastReading = y
  position : s.travel.latched = x

namespace SettlingEnds

theorem due (h : SettlingEnds y x s) : settlingDue s = true := (settlingDue_iff s).2 ⟨h.arm, h.count.ge⟩

theorem unmoved (h : SettlingEnds y x s) : s.moveKind = .none := by
  simp [State.moveKind, isFollow_of_testStation h.station, h.attaching]

theorem not_judged (h : SettlingEnds y x s) : judgmentDue s = false := by
  simp [judgmentDue, h.attaching]

theorem zeroTaken (n : Nat) (h : SettlingEnds y x s) : ZeroTaken y x (enterMeasuring (s.setFree n)) where
  station := h.station
  test := by simp [h.attaching, SeqState.isTest]
  latch := by simpa using h.latch
  arm := rfl
  zero := congrArg some h.reading
  pair := by rw [← h.position]; rfl

/-- R35, R60: the claim is checked as the sample found it. -/
theorem claimFaults_eq (n : Nat) (h : SettlingEnds y x s) :
    claimFaults (enterClaiming (enterMeasuring (s.setFree n))) = entryFaults s := by
  have hdue : claimDue s = true := by simp [claimDue, h.attaching, h.due]
  rw [entryFaults, if_pos hdue, ← claimFaults_enterClaiming]
  exact claimFaults_congr (by simp) (by simp) (by simp) (moveKind_congr (by simp) (by simp) (by simp) (by simp))

/-- R35, R36: where the port has applied zero, the travel map and the skew have no fault. -/
theorem movementFaults_nil {r : SampleRec} (h : SettlingEnds y x s) (ha : s.travel.appliedAtTick = 0) :
    movementFaults s (demandRequest s) r = [] := by
  have hf := isFollow_of_testStation h.station
  have hzero : demandRequest s = .zero :=
    demandRequest_resting hf (by simp [h.attaching]) (by simp [h.attaching])
  have hskew : skewFires s = false := by simp [skewFires, skewChecked, h.unmoved]
  have hmoves : movesUnmapped s (demandRequest s) r = false := by
    simp [movesUnmapped, hzero, requestedValue, ha, hf, h.attaching]
  have hzone : zoneFault s (demandRequest s) r = none := by
    cases hz : zoneInForce s.zones r.position with
    | none => rw [zoneFault_unmapped hz, hmoves]; rfl
    | some z => rw [zoneFault_of_zone hz, if_neg (by simp [h.unmoved])]
  simp [movementFaults, (skewFault_eq_nil s).2 hskew, hzone]

theorem sampleFaults_nil {overload : Bool} {r : SampleRec} (h : SettlingEnds y x s) (hp : partnerCause s = none)
    (ha : s.travel.appliedAtTick = 0) : sampleFaults false overload s (demandRequest s) r = [] := by
  have hlater : laterFaults false s (demandRequest s) r = [] := by simp [laterFaults, hp, h.movementFaults_nil ha]
  simp [sampleFaults, hlater, dueCause, h.attaching]

/-- R99, R154: on a faulty sample the unit enters MEASURING before the reports. -/
theorem reportedEarly_eq {overload : Bool} {r : SampleRec} (h : SettlingEnds y x s)
    (hf : sampleFaulty false overload r s = true) : ∃ n, reportedEarly false overload r s
      = reportSettled (tareFails s) (earlyReports false overload r s) (enterMeasuring (s.setFree n)) := by
  obtain ⟨n, hn⟩ := sampleReports_draws false overload s (demandRequest s) r
  have hskew : rememberSkew (s.setFree n) = s.setFree n := rememberSkew_of_unmoved h.unmoved
  have hdue : settlingDue (s.setFree n) = true := h.due
  refine ⟨n, ?_⟩
  rw [reportedEarly, hn, hskew, reportEarly, hf, hdue]
  rfl

theorem not_tareUnstable {overload : Bool} {c : FaultCause} {r : SampleRec} (h : SettlingEnds y x s)
    (hc : c ∈ (sampleReports false overload s (demandRequest s) r).1) : c ≠ .tareUnstable := by
  rintro rfl
  simpa [h.not_judged] using tareUnstable_reported hc

theorem early_of_partner {overload : Bool} {r : SampleRec} (hp : partnerCause s ≠ none) :
    earlyReports false overload r s ≠ [] := by
  obtain ⟨c, hc⟩ := Option.ne_none_iff_exists'.1 hp
  exact List.ne_nil_of_mem ((reports_halves false overload r s).1 c
    ((mem_sampleFaults _ _ _ _ _ _).2 (.inl ((mem_laterFaults _ _ _ _ _).2 (.inl ⟨rfl, hc⟩)))))

theorem late_of_overload (r : SampleRec) (s : State) : lateReports false true r s ≠ [] := by
  rcases (reports_halves false true r s).2 with he | ⟨-, he⟩ <;> simp [he, overloadFault]

/-- R99: the sample has a fault of its own or of the claim. -/
theorem faulty {overload : Bool} {r : SampleRec}
    (hf : overload = true ∨ partnerCause s ≠ none ∨ entryFaults s ≠ []) : sampleFaulty false overload r s = true := by
  have hreports : overload = true ∨ partnerCause s ≠ none →
      (sampleReports false overload s (demandRequest s) r).1 ≠ [] := by
    rw [← early_append_late]
    rintro (rfl | hp)
    · exact List.append_ne_nil_of_right_ne_nil _ (late_of_overload r s)
    · exact List.append_ne_nil_of_left_ne_nil (early_of_partner hp) _
  rcases or_assoc.2 hf with hf | hf
  · simp [sampleFaulty, hreports hf]
  · simp [sampleFaulty, hf]

/-- R99, R106, R154: on a faulty sample the test halts, and the unit switches over from its new zero. -/
theorem switches {overload : Bool} {r : SampleRec} (h : SettlingEnds y x s)
    (hf : overload = true ∨ partnerCause s ≠ none ∨ entryFaults s ≠ []) :
    ZeroSwitched y x (moveSample false overload r s) := by
  obtain ⟨n, he⟩ := h.reportedEarly_eq (faulty (r := r) hf)
  have hsplit := early_append_late false overload r s
  have hearly : ∀ c ∈ earlyReports false overload r s, c ≠ .tareUnstable := fun c hc =>
    h.not_tareUnstable (hsplit ▸ List.mem_append_left _ hc)
  have hlate : ∀ c ∈ lateReports false overload r s, c ≠ .tareUnstable := fun c hc =>
    h.not_tareUnstable (hsplit ▸ List.mem_append_right _ hc)
  have hatt : (enterMeasuring (s.setFree n)).seq.state = .attaching := by simp [h.attaching]
  rw [moveSample_eq, reportAll_of_faults hlate]
  by_cases hne : earlyReports false overload r s ≠ [] ∨ claimFaults (enterClaiming (enterMeasuring (s.setFree n))) ≠ []
  · have hswitched : ZeroSwitched y x (reportedEarly false overload r s) := by
      rw [he]
      exact reportSettled_switches _ (h.zeroTaken n) hatt hearly hne
    exact (hswitched.of_arm (.of_kept (by simp) (by simp)) (by simp)).foldl _
  · obtain ⟨hnone, hclean⟩ : earlyReports false overload r s = []
        ∧ claimFaults (enterClaiming (enterMeasuring (s.setFree n))) = [] := by
      simpa only [not_or, not_not] using hne
    have hover : overload = true := by
      rcases hf with ho | hp | hentry
      · exact ho
      · exact absurd hnone (early_of_partner hp)
      · exact absurd ((h.claimFaults_eq n).symm.trans hclean) hentry
    subst hover
    rw [he, hnone, reportSettled_clean _ hatt hclean]
    refine ZeroTaken.foldl (late_of_overload r s) ?_
    exact (h.zeroTaken n).claims.of_arm (.of_kept (by simp) (by simp)) (by simp) (by simp) (by simp)

/-- R85, R99: OVERLOAD alone finds the sequencer CLAIMING. -/
theorem overload_locks {r : SampleRec} (h : SettlingEnds y x s) (hp : partnerCause s = none)
    (ha : s.travel.appliedAtTick = 0) (hentry : entryFaults s = []) (hr : s.stop.record = none) :
    ∃ k, (moveSample false true r s).stop.record = some k ∧ k.cause = .overload ∧ k.state = .claiming := by
  obtain ⟨n, he⟩ := h.reportedEarly_eq (faulty (r := r) (.inl rfl))
  have hreports : (sampleReports false true s (demandRequest s) r).1 = [.overload] := by
    simp [sampleReports, h.sampleFaults_nil hp ha, h.not_judged, drawOrder, overloadFault]
  have hearly : earlyReports false true r s = [] := by simp [earlyReports, hreports]
  have hlate : lateReports false true r s = [.overload] := by simp [lateReports, hreports]
  rw [hearly, reportSettled_clean _ (by simp [h.attaching]) ((h.claimFaults_eq n).trans hentry)] at he
  rw [moveSample_eq, hlate, he, reportAll_of_faults (by simp),
    foldl_locks [] (by simpa using h.station.1) (by simpa using hr)]
  exact ⟨_, rfl, rfl, by simp [State.lockedPart, State.ownState, State.isFollow, h.station.2]⟩

/-- R99: without a fault the unit waits for its own command. -/
theorem waits {r : SampleRec} (h : SettlingEnds y x s) (hp : partnerCause s = none) (ha : s.travel.appliedAtTick = 0)
    (hentry : entryFaults s = []) :
    (moveSample false false r s).ext.state = .settling ∧ (moveSample false false r s).ext.strainCount = 16
      ∧ (moveSample false false r s).seq.state = .attaching := by
  rw [moveSample_of_no_faults (h.sampleFaults_nil hp ha) hentry]
  simp [h.arm, h.count, h.attaching]

end SettlingEnds

/-- R5, R74: an ATTACHING sequencer only counts a sample that has no extensometer strain. -/
theorem completeSample_attaching {reading v : Int} (hs : TestStation s) (hq : s.seq.state = .attaching)
    (hm : s.ext.state ≠ .measuring) : ∃ n, completeSample reading (some v) s
      = moveSample false (overloadFires s (loadView reading (some v) s).gross (loadView reading (some v) s).reading)
          (loadView reading (some v) s).record
          (countSample ((takenSample (loadView reading (some v) s) s).setFree n)) := by
  have hseq : (takenSample (loadView reading (some v) s) s).seq = s.seq := by simp [takenSample]
  have hext : (loadView reading (some v) s).record.ext = false := by
    rw [Bool.eq_false_iff, Ne, loadView_record_ext]
    exact fun h => hm h.2
  obtain ⟨checked, h, ⟨n, m, hh⟩, hchecked, he⟩ := completeSample_handles reading (some v) (isFollow_of_testStation hs)
  have hfalse : checked = false := hchecked (by simp [partnerSuspect, hseq, hq, SeqState.actsOnSample])
  have hgrips : takeGripsUnreported (takenSample (loadView reading (some v) s) s)
      = takenSample (loadView reading (some v) s) s := by
    unfold takeGripsUnreported
    rw [takeGripsLow_stays (.inl (by simp [hseq, hq])), ite_self]
  have hfirst : checkFirst false (loadView reading (some v) s).record
      ((takenSample (loadView reading (some v) s) s).setFree n)
        = (takenSample (loadView reading (some v) s) s).setFree n :=
    checkFirst_of_none _ _ _ (by simp [firstFaults, claimForbidden, hseq, hq])
  subst hfalse
  rw [hgrips, hfirst] at hh
  refine ⟨n, ?_⟩
  rcases hh with ⟨-, rfl⟩ | ⟨hyes, -⟩
  · rw [he, handleSample_waiting _ _ (by simp [hseq, hq, SeqState.actsOnSample])]
  · simp [hext] at hyes

/-- R62, R63: an ATTACHING lead looks for a partner that is stopped or faulted only. -/
theorem partnerCause_attaching (hq : s.seq.state = .attaching) :
    partnerCause s = if partnerFaulted s then some .partnerFault else none := by
  simp [partnerCause, partnerRestarted, hq]

theorem entryFaults_counted (n : Nat) (u : State) : entryFaults (countSample (u.setFree n)) = entryFaults u := by
  have hdue : claimDue (countSample (u.setFree n)) = claimDue u := by
    simp [claimDue, settlingDue, judgmentDue, tareHolds, State.extPlan, State.loadCapacity]
  rw [entryFaults, entryFaults, hdue]
  split
  · exact claimFaults_congr (by simp) (by simp) (by simp) (moveKind_congr (by simp) (by simp) (by simp) (by simp))
  · rfl

/-- R99: the state in which the faults of the 16th reading's sample are looked for. -/
structure SettlingHandled (v : LoadView) (y : Int) (s h : State) : Prop where
  ends : SettlingEnds y s.travel.latched h
  stop : h.stop = s.stop
  travel : h.travel = s.travel
  partner : partnerCause h = partnerCause s
  entry : entryFaults h = entryFaults (takenSample v (countSettling y s))

/-- R74: what SETTLING counts is no part of the overload check. -/
theorem overloadFires_countSettling (h : s.ext.state = .settling) (g r : Int) :
    overloadFires (countSettling y s) g r = overloadFires s g r := by
  rw [countSettling_of_settling y h]
  rfl

theorem settlingSample_handled {l : Int} (y : Int) (hs : TestStation s) (hset : s.ext.state = .settling)
    (hcount : s.ext.strainCount = 15) (hq : s.seq.state = .attaching) (hlatch : s.stop.latch = false) :
    let v := loadView l (some y) (countSettling y s)
    ∃ h, SettlingHandled v y s h ∧ completeSample l (some y) (countSettling y s)
      = moveSample false (overloadFires s v.gross v.reading) v.record h := by
  intro v
  have hcounted := countSettling_of_settling y hset
  have hstation : TestStation (countSettling y s) := hcounted ▸ hs
  have hseq : (takenSample v (countSettling y s)).seq = s.seq := by simp [takenSample, hcounted]
  have hstart : (takenSample v (countSettling y s)).start = s.start := by simp [takenSample, hcounted]
  have htravel : (takenSample v (countSettling y s)).travel = s.travel := by simp [takenSample, hcounted]
  have hstop : (takenSample v (countSettling y s)).stop = s.stop := by simp [takenSample, hcounted]
  have hpair : (takenSample v (countSettling y s)).pair.mirror = s.pair.mirror
      ∧ (takenSample v (countSettling y s)).pair.age = s.pair.age := by
    simpa [takenSample, hcounted] using pairSample_mirror v.record
      (offerSample v.record (takeMeasured v.record (completeLoad v (countSettling y s))))
  have hcross : v.record.ext = false := by
    rw [Bool.eq_false_iff, Ne, loadView_record_ext, hcounted]
    simp [hset]
  have hext : (takenSample v (countSettling y s)).ext = { s.ext with strainCount := 16, lastReading := y } := by
    rw [takenSample_ext, takeMeasured_of_crosshead _ hcross, hcounted]
    simp [hcount]
  obtain ⟨n, he⟩ := completeSample_attaching (reading := l) (v := y) hstation (by simpa [hcounted] using hq)
    (by simp [hcounted, hset])
  refine ⟨countSample ((takenSample v (countSettling y s)).setFree n), ?_,
    he.trans (by rw [overloadFires_countSettling hset])⟩
  constructor
  case ends =>
    constructor
    case station => simpa [TestStation, hstart] using hs
    case attaching => simpa [hseq] using hq
    case latch => simpa [hstop] using hlatch
    case position => simp [htravel]
    all_goals simp [hext, hset]
  case stop => simpa using hstop
  case travel => simpa using htravel
  case partner =>
    rw [partnerCause_attaching hq, partnerCause_attaching (by simpa [hseq] using hq),
      partnerFaulted_congr (s := s) (by simpa using hstart) (by simp [hseq]) (by simpa using hpair.1)
        (by simpa using hpair.2)]
  case entry => exact entryFaults_counted n _

theorem ZeroSwitched.part (h : ZeroSwitched y x s) {w : TestRecord} (hw : s.testRec = some w) :
    ∃ c, w.switchPart = some (c, 0, x) :=
  h.switched _ (by simp [hw])

/-- Settles O38: the lines and the start edge move the unit alone (`finish_of_arm`); on the sample of the 16th reading
the unit has taken its zero when a report halts the test, and switches over from it (`SettlingEnds.switches`), OVERLOAD
finds the sequencer CLAIMING (`SettlingEnds.overload_locks`), and without a fault nothing is reported
(`SettlingEnds.waits`). -/
theorem armLinesStartBitAndSettling : Obligations.ArmLinesStartBitAndSettling := by
  unfold Obligations.ArmLinesStartBitAndSettling
  refine ⟨fun s hp => ?_, fun s h hc => settlingComplete_measures h hc, ?_⟩
  · exact ⟨armClosedHigh_closing hp, armClosedHigh_idle hp, armOpenHigh_parks hp, armOpenHigh_attaches hp,
      armOpenHigh_idle hp, identStartBit_begins hp, identStartBit_idle hp⟩
  · intro reading l s hs hl hread hset hcount hq hlatch y v
    have hclamp : clampReading reading = y := rfl
    obtain ⟨h, hh, he⟩ := settlingSample_handled (l := l) y hs hset hcount hq hlatch
    rw [exec_strainConversionEnd_completes hl hread, hclamp, next_iff, he, ← hh.partner, ← hh.entry]
    refine ⟨fun hf => ?_, fun ho hp ha hentry hr => ?_, fun ho hp ha hentry => ?_⟩
    · have hsw := hh.ends.switches (r := v.record) hf
      refine ⟨by simpa using hsw.arm, by simpa using hsw.zero, by simpa using hsw.pair, ?_, fun w hw => ?_⟩
      · simpa using hsw.halted.symm
      · exact hsw.part (by simpa using hw)
    · have hlock := hh.ends.overload_locks (r := v.record) hp (by rwa [hh.travel]) hentry (by rwa [hh.stop])
      rw [ho]
      simpa using hlock
    · obtain ⟨hext, hseq⟩ := hh.ends.waits (r := v.record) hp (by rwa [hh.travel]) hentry
      rw [ho]
      simpa using hh.ends.waits (r := v.record) hp (by rwa [hh.travel]) hentry
end Sys2Proof.Proofs
end

section
namespace Sys2Proof.Proofs
open Sys2Proof.Machine Sys2Proof.Safety Sys2Proof.Laws

/-! ## The line and receive errors -/

/-- A command that changes the link alone ends with its own effect where the drive port obeys the forcing conditions. -/
theorem finish_setLink {s : State} (hp : PortSafe s) (l : Link) : finish s (s.setLink l) = s.setLink l :=
  finish_of_same hp rfl rfl (forced_congr rfl rfl rfl rfl rfl rfl rfl rfl)

theorem startBitSensed_quiet {s : State} (hp : PortSafe s) (h : s.link.line = .quiet) :
    exec .startBitSensed s = .next (s.setLink { s.link with line := .receiving, taking := true, quiet := 0 }) := by
  show Host.Outcome.next (finish s (startBitSensed s)) = _
  rw [startBitSensed, if_pos h, finish_setLink hp]

theorem startBitSensed_elsewhere {s : State} (hp : PortSafe s) (h : s.link.line ≠ .quiet) :
    exec .startBitSensed s = .next s := by
  show Host.Outcome.next (finish s (startBitSensed s)) = _
  rw [startBitSensed, if_neg h, finish_of_same hp rfl rfl rfl]

theorem lineIdle_ends {s : State} (hp : PortSafe s) (h : s.link.line = .receiving)
    (hn : s.link.taking = false ∨ s.start.strapFault = true) :
    exec .lineIdle s = .next (s.setLink { s.link with line := .quiet, taking := false, quiet := 1 }) := by
  show Host.Outcome.next (finish s (lineIdle s)) = _
  rw [lineIdle, if_pos ⟨h, hn⟩, finish_setLink hp, Link.endReception]

theorem lineIdle_elsewhere {s : State} (hp : PortSafe s)
    (h : s.link.line ≠ .receiving ∨ (s.link.taking = true ∧ s.start.strapFault = false)) :
    exec .lineIdle s = .next s := by
  have hn : ¬(s.link.line = .receiving ∧ (s.link.taking = false ∨ s.start.strapFault = true)) := by
    rintro ⟨hl, hw⟩
    rcases h with h | ⟨h1, h2⟩
    · exact h hl
    · simp [h1, h2] at hw
  show Host.Outcome.next (finish s (lineIdle s)) = _
  rw [lineIdle, if_neg hn, finish_of_same hp rfl rfl rfl]

/-- R115: a frame of fewer than 6 bytes is SHORT, and no other is. -/
theorem judgeTaken_short_iff (x : Taken) : judgeTaken x = .short ↔ x.bytes.length < 6 := by
  unfold judgeTaken
  split_ifs with h <;> simp [h]

@[simp] theorem endReception_fields (l : Link) :
    l.endReception.line = .quiet ∧ l.endReception.taking = false ∧ l.endReception.quiet = 1
      ∧ l.endReception.stop = l.stop ∧ l.endReception.grant = l.grant ∧ l.endReception.level = l.level
      ∧ l.endReception.status = l.status ∧ l.endReception.result = l.result ∧ l.endReception.curve = l.curve
      ∧ l.endReception.inFlight = l.inFlight ∧ l.endReception.notices = l.notices ∧ l.endReception.lost = l.lost
      ∧ l.endReception.errCheck = l.errCheck ∧ l.endReception.errLength = l.errLength
      ∧ l.endReception.errShort = l.errShort ∧ l.endReception.presence = l.presence
      ∧ l.endReception.statusTimer = l.statusTimer := by
  simp [Link.endReception]

/-- R116: each count rises with its own kind alone, and stops at 255. -/
theorem countError_counts (l : Link) (j : Judgment) :
    (l.countError j).errShort = (if j = .short then min 255 (l.errShort + 1) else l.errShort)
      ∧ (l.countError j).errLength = (if j = .length then min 255 (l.errLength + 1) else l.errLength)
      ∧ (l.countError j).errCheck = (if j = .check then min 255 (l.errCheck + 1) else l.errCheck) := by
  cases j <;> simp [Link.countError, succ255]

@[simp] theorem countError_fields (l : Link) (j : Judgment) :
    (l.countError j).line = l.line ∧ (l.countError j).presence = l.presence ∧ (l.countError j).notices = l.notices
      ∧ (l.countError j).grant = l.grant := by
  cases j <;> simp [Link.countError]

theorem pendingRaise_congr {l m : Link} (h : m.grant = l.grant) : m.pendingRaise = l.pendingRaise := by
  simp only [Link.pendingRaise, h]

/-- R134: a unit that was in step loses its lock and a pending raise, and its cold-start timer starts once it is
configured. -/
theorem enterStale_of_inStep {s : State} (h : s.budget.inStep = true) :
    (enterStale s).budget = { s.budget with inStep := false, lock := false
                                            coldTimer := if s.start.config.isSome then some 0 else none }
      ∧ (enterStale s).link.grant = if s.link.pendingRaise then none else s.link.grant := by
  rw [enterStale, if_pos h]
  exact ⟨rfl, rfl⟩

theorem enterStale_of_stale {s : State} (h : s.budget.inStep = false) : enterStale s = s := by
  simp [enterStale, h]

@[simp] theorem enterStale_stale (s : State) : (enterStale s).budget.inStep = false := by
  cases h : s.budget.inStep with
  | true => simp [enterStale_of_inStep h]
  | false => rw [enterStale_of_stale h, h]

/-- R115, R116: a receive error that a station with a good strap word takes. -/
theorem receiveError_counts {x : Taken} {s : State} (hs : s.start.strapFault = false) (ht : s.link.takes = true)
    (hx : judgeTaken x ≠ .good) :
    receiveError x s = enterStale (s.setLink (s.link.endReception.countError (judgeTaken x))) := by
  simp [receiveError, ht, hs, hx]

/-- Settles O44: the line moves in the state that the event belongs to, and a receive error is its count
(`countError_counts`) and the entry to STALE (`enterStale_of_inStep`). -/
theorem lineStateAndReceiveErrors : Obligations.LineStateAndReceiveErrors := by
  unfold Obligations.LineStateAndReceiveErrors
  refine ⟨fun s hp => ⟨startBitSensed_quiet hp, startBitSensed_elsewhere hp, lineIdle_ends hp,
    lineIdle_elsewhere hp⟩, fun x s hs ht hx => ?_⟩
  show Next (.next (finish s (receiveError x s))) _
  rw [next_iff, receiveError_counts hs ht hx]
  obtain ⟨hshort, hlength, hcheck⟩ := countError_counts s.link.endReception (judgeTaken x)
  refine ⟨judgeTaken_short_iff x, by simpa using hshort, by simpa using hlength, by simpa using hcheck, by simp,
    by simp, by simp, by simp, by simp, by simp, by simp, by simp, by simp, by simp, by simp, fun h => ?_, fun h => ?_⟩
  · obtain ⟨hbudget, hgrant⟩ :=
      enterStale_of_inStep (s := s.setLink (s.link.endReception.countError (judgeTaken x))) h
    have hraise := pendingRaise_congr (l := s.link) (m := s.link.endReception.countError (judgeTaken x)) (by simp)
    simp only [finish_keeps, finish_link_fields, hbudget, hgrant]
    simp [hraise]
  · rw [enterStale_of_stale (s := s.setLink (s.link.endReception.countError (judgeTaken x))) h]
    simp
end Sys2Proof.Proofs
end

section
namespace Sys2Proof.Proofs
open Sys2Proof.Machine Sys2Proof.Safety Sys2Proof.Laws

/-! ## The judgment of what was taken -/

/-- R179: the two sums from any start. -/
theorem sums_from (a b : Nat) (bs : List Byte) :
    bs.foldl (fun p x => ((p.1 + x.toNat) % 255, (p.2 + (p.1 + x.toNat) % 255) % 255)) (a % 255, b % 255)
      = ((a + (bs.map (·.toNat)).sum) % 255, (b + bs.length * a + weightedSum bs) % 255) := by
  induction bs generalizing a b with
  | nil => simp [weightedSum]
  | cons x bs ih =>
    have hfirst : (a % 255 + x.toNat) % 255 = (a + x.toNat) % 255 := by omega
    have hsecond : (b % 255 + (a + x.toNat) % 255) % 255 = (b + (a + x.toNat)) % 255 := by omega
    have hweight : b + (a + x.toNat) + bs.length * (a + x.toNat) + weightedSum bs
        = b + (bs.length + 1) * a + ((bs.length + 1) * x.toNat + weightedSum bs) := by ring
    rw [List.foldl_cons, hfirst, hsecond, ih, hweight]
    simp only [List.map_cons, List.sum_cons, List.length_cons, weightedSum, Nat.add_assoc]

/-- R179: the sums written out, each byte of the second as often as it has been taken. -/
theorem checkSums_eq (bs : List Byte) :
    checkSums bs = ((bs.map (·.toNat)).sum % 255, weightedSum bs % 255) := by
  simpa [checkSums] using sums_from 0 0 bs

theorem byte_eq_ofNat_iff {b : Byte} {n : Nat} (h : n < 256) : b = BitVec.ofNat 8 n ↔ b.toNat = n := by
  rw [← BitVec.toNat_inj, BitVec.toNat_ofNat, Nat.mod_eq_of_lt h]

theorem checkBytes_iff (x y : Byte) (bs : List Byte) :
    [x, y] = checkBytes bs ↔ x.toNat = (bs.map (·.toNat)).sum % 255 ∧ y.toNat = weightedSum bs % 255 := by
  simp only [checkBytes, checkSums_eq, List.cons.injEq, and_true]
  rw [byte_eq_ofNat_iff (by omega), byte_eq_ofNat_iff (by omega)]

theorem slice_two {bs : List Byte} {i : Nat} (h : i + 2 ≤ bs.length) :
    slice bs i 2 = [bs.getD i 0, bs.getD (i + 1) 0] := by
  rw [slice, List.drop_eq_getElem_cons (by omega), List.drop_eq_getElem_cons (by omega),
    List.getD_eq_getElem _ _ (by omega), List.getD_eq_getElem _ _ (by omega)]
  rfl

/-- R115: the payload length that the header gives. -/
theorem lengthField_eq {bs : List Byte} (h : 6 ≤ bs.length) :
    beNat (slice bs 4 2) = (bs.getD 4 0).toNat * 256 + (bs.getD 5 0).toNat := by
  simp [slice_two (i := 4) h, beNat]

theorem drop_eq_two {bs : List Byte} {i : Nat} (h : bs.length = i + 2) :
    bs.drop i = [bs.getD i 0, bs.getD (i + 1) 0] := by
  rw [← slice_two (by omega), slice, List.take_of_length_le (by simp [h])]

theorem judgeTaken_length {x : Taken} (h : 6 ≤ x.bytes.length)
    (hn : 160 < beNat (slice x.bytes 4 2) ∨ x.partialByte = true
      ∨ x.bytes.length ≠ 6 + beNat (slice x.bytes 4 2) + 2) : judgeTaken x = .length := by
  unfold judgeTaken
  rw [if_neg (by omega), if_pos (by simpa [or_assoc] using hn)]

/-- R115: a frame of the right length is judged by its last two bytes. -/
theorem judgeTaken_whole {x : Taken} (hp : x.partialByte = false) (hn : beNat (slice x.bytes 4 2) ≤ 160)
    (hl : x.bytes.length = 6 + beNat (slice x.bytes 4 2) + 2) :
    judgeTaken x = if x.bytes.drop (6 + beNat (slice x.bytes 4 2))
        = checkBytes (x.bytes.take (6 + beNat (slice x.bytes 4 2))) then .good else .check := by
  have hlast : x.bytes.length - 2 = 6 + beNat (slice x.bytes 4 2) := by omega
  have hgood : ¬(160 < beNat (slice x.bytes 4 2) || x.partialByte
      || x.bytes.length != 6 + beNat (slice x.bytes 4 2) + 2) = true := by
    simpa [hp, hl] using hn
  unfold judgeTaken
  rw [if_neg (by omega), if_neg hgood, hlast]
  split_ifs <;> simp_all

/-- R179: the six header bytes of an own frame, and its payload. -/
theorem wireBytes_eq (number : Nat) (i : InFlight) : ∃ head, head.length = 4
    ∧ wireBytes number i = (head ++ natBytes 2 i.frame.payload.length ++ i.frame.payload)
      ++ checkBytes (head ++ natBytes 2 i.frame.payload.length ++ i.frame.payload) := by
  refine ⟨natBytes 1 i.frame.classCode ++ natBytes 1 (number * 16 + i.frame.dest) ++ [i.epoch]
    ++ natBytes 1 (flagBit i.inStep 7), by simp [natBytes_length], rfl⟩

/-- R179: the frames that a station sends are good. -/
theorem judgeTaken_wireBytes (number : Nat) (i : InFlight) (h : i.frame.payload.length ≤ 160) :
    judgeTaken { bytes := wireBytes number i, partialByte := false } = .good := by
  obtain ⟨head, hhead, hw⟩ := wireBytes_eq number i
  rw [hw]
  set payload := i.frame.payload
  set body := head ++ natBytes 2 payload.length ++ payload with hbody
  have hlen : body.length = 6 + payload.length := by
    simp only [hbody, List.length_append, hhead, natBytes_length]
  have hfield : beNat (slice (body ++ checkBytes body) 4 2) = payload.length := by
    have hslice : slice (body ++ checkBytes body) 4 2 = natBytes 2 payload.length := by
      simp only [slice, hbody, List.append_assoc]
      rw [List.drop_left' hhead, List.take_left' (natBytes_length _ _)]
    rw [hslice, beNat_natBytes 2 (by omega)]
  have hwhole : (body ++ checkBytes body).length = 6 + payload.length + 2 := by simp [hlen, checkBytes]
  rw [judgeTaken_whole rfl (by rwa [hfield]) (by rw [hfield, hwhole]), hfield]
  exact if_pos (by rw [List.drop_left' hlen, List.take_left' hlen])

/-- Settles O45: the checks of R115 in their order, with the sums written out (`checkBytes_iff`), and an own frame,
whose length field and check bytes are its own (`judgeTaken_wireBytes`). -/
theorem receivedBytesAreJudged : Obligations.ReceivedBytesAreJudged := by
  unfold Obligations.ReceivedBytesAreJudged
  refine ⟨fun x => ⟨(judgeTaken_short_iff x).2, fun h hn => ?_, fun h hn hp hl => ?_⟩, judgeTaken_wireBytes⟩
  · rw [← lengthField_eq h] at hn
    exact judgeTaken_length h hn
  · rw [← lengthField_eq h] at hn hl ⊢
    rw [judgeTaken_whole hp hn hl, drop_eq_two hl, show 6 + beNat (slice x.bytes 4 2) + 1
      = 7 + beNat (slice x.bytes 4 2) by omega]
    simp only [checkBytes_iff]
end Sys2Proof.Proofs
end

section
namespace Sys2Proof.Proofs
open Sys2Proof.Machine Sys2Proof.Safety Sys2Proof.Laws

/-! ## The arbiter -/

theorem pendingFrame_lt {s : State} {level : Nat} {x : OutFrame} (h : pendingFrame s level = some x) : level < 7 := by
  by_contra hn
  obtain ⟨k, rfl⟩ := Nat.exists_eq_add_of_le' (Nat.le_of_not_lt hn)
  simp [pendingFrame] at h

/-- R118: the lowest eligible level with a pending frame is the one chosen. -/
theorem arbiterChoice_lowest {s : State} {level : Nat} {x : OutFrame} (he : eligible s level = true)
    (hx : pendingFrame s level = some x) (hlow : ∀ k, k < level → eligible s k = false ∨ pendingFrame s k = none) :
    arbiterChoice s = some (level, x) := by
  have hrange : List.range 7 = List.range level ++ level :: (List.range (6 - level)).map (level + 1 + ·) := by
    have hlt := pendingFrame_lt hx
    rw [show 7 = level + 1 + (6 - level) by omega, List.range_add, List.range_succ, List.append_assoc]
    rfl
  rw [arbiterChoice, hrange, List.findSome?_append, List.findSome?_eq_none_iff.2 ?_]
  · simp [he, hx]
  · intro k hk
    rcases hlow k (List.mem_range.1 hk) with hk | hk <;> simp [hk]

/-- R117: `q` more bit times of quiet have passed. -/
def waited (q : Nat) (s : State) : State := s.setLink { s.link with quiet := s.link.quiet + q }

theorem frameStart_quiet {s : State} (q : Nat) (h : s.link.line = .quiet) : frameStart q s = arbitrate (waited q s) :=
  if_pos h

theorem eligible_waited (q level : Nat) (s : State) : eligible (waited q s) level = eligible s level := rfl

theorem pendingFrame_waited (q level : Nat) (s : State) : pendingFrame (waited q s) level = pendingFrame s level := rfl

/-- R117, R118: what the arbiter does with the frame it has chosen. -/
theorem arbitrate_choice {s : State} {level : Nat} {x : OutFrame} (h : arbiterChoice s = some (level, x)) :
    arbitrate s = if 8 + 16 * level + s.start.number ≤ s.link.quiet then
      (if lockRefuses s x then withdrawChosen s else startFrame x s) else s := by
  rw [arbitrate, h]
  rfl

/-- R118: a raise needs its claim lock. -/
theorem lockRefuses_iff (s : State) (x : OutFrame) :
    lockRefuses s x = true ↔ ∃ g, x = .grant g ∧ g.raise = true ∧ s.budget.lock = false := by
  cases x <;> simp [lockRefuses]

/-- R120: the quiet time that has passed is no part of the state after the start of a frame. -/
theorem startFrame_waited (q : Nat) (x : OutFrame) (s : State) :
    startFrame x (waited q s) = s.setLink { s.link.leaveSlot x with
      line := .sending, taking := false, quiet := 0
      inFlight := some { frame := x, epoch := s.budget.epoch, inStep := s.budget.inStep, disowned := false } } := by
  cases x <;> rfl

/-- R136: a raise that a STALE unit asks for is not placed. -/
theorem judgeRequest_staleRaise {s : State} (hg : s.link.grantInFlight = none) (hs : s.budget.inStep = false)
    (hr : s.ownEntry < s.budget.requested) : judgeRequest s = dropGrant s := by
  simp [judgeRequest, hg, hs, Nat.ne_of_gt hr, Nat.not_lt_of_gt hr]

/-- R136, R137: a raise that fits is placed by a unit that is in step and configured. -/
theorem judgeRequest_raise {s : State} (hg : s.link.grantInFlight = none) (hs : s.budget.inStep = true)
    (hc : s.start.config ≠ none) (hr : s.ownEntry < s.budget.requested) (hf : s.fits s.budget.requested = true) :
    judgeRequest s = placeGrant true s := by
  have hconf : s.configured = true := Option.isSome_iff_ne_none.2 hc
  simp [judgeRequest, hg, hs, hconf, hf, Nat.ne_of_gt hr, Nat.not_lt_of_gt hr]

theorem withdrawChosen_stale {s : State} (hg : s.link.grantInFlight = none) (hs : s.budget.inStep = false)
    (hr : s.ownEntry < s.budget.requested) : withdrawChosen s = dropGrant (s.setLink { s.link with grant := none }) :=
  judgeRequest_staleRaise (s := s.setLink { s.link with grant := none }) hg hs hr

theorem withdrawChosen_raise {s : State} (hg : s.link.grantInFlight = none) (hs : s.budget.inStep = true)
    (hc : s.start.config ≠ none) (hr : s.ownEntry < s.budget.requested) (hf : s.fits s.budget.requested = true) :
    withdrawChosen s = placeGrant true (s.setLink { s.link with grant := none }) :=
  judgeRequest_raise (s := s.setLink { s.link with grant := none }) hg hs hc hr hf

/-- R118: the raise that the arbiter withdraws leaves the line as it is, and is judged afresh. -/
theorem withdrawChosen_waited (q : Nat) {s : State} (hf : s.link.inFlight = none) :
    let t := withdrawChosen (waited q s)
    t.link.line = s.link.line ∧ t.link.inFlight = none ∧ t.link.quiet = s.link.quiet + q
      ∧ (s.budget.inStep = false → s.ownEntry < s.budget.requested → t.link.grant = none ∧ t.budget.lock = false)
      ∧ (s.budget.inStep = true → s.start.config ≠ none → s.ownEntry < s.budget.requested →
          s.fits s.budget.requested = true →
          t.link.grant = some { units := s.budget.requested, reason := s.budget.reason, raise := true }
            ∧ t.budget.lock = true) := by
  have hg : (waited q s).link.grantInFlight = none := by simp [Link.grantInFlight, waited, hf]
  refine ⟨by simp [withdrawChosen, waited], by simp [withdrawChosen, waited, hf], by simp [withdrawChosen, waited],
    fun hs hr => ?_, fun hs hc hr hfits => ?_⟩
  · rw [withdrawChosen_stale hg hs hr]
    exact ⟨rfl, rfl⟩
  · rw [withdrawChosen_raise hg hs hc hr hfits]
    exact ⟨rfl, rfl⟩

/-- R118, R132: in STRAP_FAULT no slot may start a frame, during the start interval and with a duplicate number only
that of STATUS, and else every slot. -/
theorem eligible_cases (level : Nat) (s : State) :
    (s.start.strapFault = true → eligible s level = false)
      ∧ (s.start.strapFault = false → s.start.intervalEnded = false → eligible s level = decide (level = 4))
      ∧ (∀ k, s.start.strapFault = false → s.stop.record = some k → k.cause = .duplicateNumber →
          eligible s level = decide (level = 4))
      ∧ (s.start.strapFault = false → s.start.intervalEnded = true →
          (∀ k, s.stop.record = some k → k.cause ≠ .duplicateNumber) → eligible s level = true) := by
  refine ⟨fun h => by simp [eligible, h], fun h hi => ?_, fun k h hk hc => ?_, fun h hi hr => ?_⟩
  · simp [eligible, h, hi, Bool.beq_eq_decide_eq]
  · simp [eligible, h, StopFault.heldToStatus, hk, hc, Bool.beq_eq_decide_eq]
  · cases hk : s.stop.record with
    | none => simp [eligible, h, hi, StopFault.heldToStatus, hk]
    | some k => simp [eligible, h, hi, StopFault.heldToStatus, hk, hr k hk]

/-- Settles O46: the lowest level is the arbiter's choice (`arbiterChoice_lowest`), which waits, starts
(`startFrame_waited`) or is withdrawn (`withdrawChosen_waited`). -/
theorem arbiterStartsLowestLevel : Obligations.ArbiterStartsLowestLevel := by
  unfold Obligations.ArbiterStartsLowestLevel
  refine ⟨fun q level x s hp hq he hx hlow => ?_, eligible_cases⟩
  have hchoice : arbiterChoice (waited q s) = some (level, x) := arbiterChoice_lowest he hx hlow
  have hexec : exec (.frameStart q) s = .next (finish s (arbitrate (waited q s))) := by
    rw [← frameStart_quiet q hq]
    rfl
  rw [hexec, arbitrate_choice hchoice]
  have hstart : (waited q s).start = s.start := rfl
  have hquiet : (waited q s).link.quiet = s.link.quiet + q := rfl
  have hlock : (waited q s).budget = s.budget := rfl
  rw [hstart, hquiet]
  refine ⟨fun hw => ?_, fun hw hl => ?_, fun g hw hg hr hl hf => ?_⟩
  · rw [if_neg (by omega), waited, finish_setLink hp]
  · have hstarts : ¬lockRefuses (waited q s) x = true := by
      rw [lockRefuses_iff, hlock]
      rintro ⟨g, hg, hr, hn⟩
      simp [hl g hg hr] at hn
    rw [if_pos hw, if_neg hstarts, startFrame_waited, finish_setLink hp]
  · have hrefused : lockRefuses (waited q s) x = true := (lockRefuses_iff _ _).2 ⟨g, hg, hr, hl⟩
    rw [if_pos hw, if_pos hrefused, next_iff]
    simpa [hq] using withdrawChosen_waited q hf
end Sys2Proof.Proofs
end

section
namespace Sys2Proof.Proofs
open Sys2Proof.Machine Sys2Proof.Safety Sys2Proof.Laws

/-! ## The completion of the station's own frames -/

/-- R114: the line after the end of an own frame. -/
def sentState (s : State) : State := s.setLink { s.link with line := .quiet, quiet := 0, inFlight := none }

theorem frameComplete_sending {i : InFlight} {s : State} (h : s.link.line = .sending) (hi : s.link.inFlight = some i) :
    frameComplete s = reportCompletion i (sentState s) := by
  rw [frameComplete, if_pos h, hi]
  rfl

@[simp] theorem noticeSent_line (disowned : Bool) (s : State) :
    (noticeSent disowned s).link.line = s.link.line ∧ (noticeSent disowned s).link.quiet = s.link.quiet
      ∧ (noticeSent disowned s).link.inFlight = s.link.inFlight := by
  unfold noticeSent
  split_ifs <;> simp

/-- R121: no report of a completion touches the line. -/
theorem reportCompletion_line (i : InFlight) (s : State) :
    (reportCompletion i s).link.line = s.link.line ∧ (reportCompletion i s).link.quiet = s.link.quiet
      ∧ (reportCompletion i s).link.inFlight = s.link.inFlight := by
  unfold reportCompletion
  split <;> simp

/-- R121: only a GRANT is for the budget unit. -/
theorem reportCompletion_budget {i : InFlight} (s : State) (h : ∀ g, i.frame ≠ .grant g) :
    (reportCompletion i s).budget = s.budget := by
  unfold reportCompletion
  split
  case h_4 g hg => exact absurd hg (h g)
  all_goals simp

theorem reportCompletion_grant {i : InFlight} {g : GrantFrame} (s : State) (h : i.frame = .grant g) :
    reportCompletion i s = ownGrantComplete g.units i.epoch s := by
  rw [reportCompletion, h]

/-- R124: a notice that has been sent leaves the head of the queue, and lost notices join its end. -/
theorem reportCompletion_notice {i : InFlight} {n : Notice} (s : State) (h : i.frame = .notice n) :
    (i.disowned = false → s.link.lost = 0 →
        (reportCompletion i s).link.notices = s.link.notices.tail ∧ (reportCompletion i s).link.lost = 0)
      ∧ (i.disowned = false → s.link.lost ≠ 0 →
        (reportCompletion i s).link.notices
            = s.link.notices.tail ++ [{ kind := .noticesLost s.link.lost, index := s.lastIndex }]
          ∧ (reportCompletion i s).link.lost = 0)
      ∧ (i.disowned = true → (reportCompletion i s).link.notices = s.link.notices
          ∧ (reportCompletion i s).link.lost = s.link.lost) := by
  rw [reportCompletion, h]
  exact ⟨fun hd hl => by simp [noticeSent, hd, hl], fun hd hl => by simp [noticeSent, hd, hl],
    fun hd => by simp [noticeSent, hd]⟩

/-- R170: the RESULT that waits takes the slot. -/
theorem reportCompletion_result {i : InFlight} {r w : TestRecord} {s : State} (h : i.frame = .result r)
    (hw : s.recorder.waiting = some w) (hr : s.link.result = none) :
    (reportCompletion i s).link.result = some w ∧ (reportCompletion i s).recorder.waiting = none := by
  rw [reportCompletion, h]
  simp [resultComplete, hw, hr]

/-- R165: the samples of a CURVE that has been sent leave the store, unless it is disowned. -/
theorem reportCompletion_curve {i : InFlight} {c : Curve} (s : State) (h : i.frame = .curve c) :
    (i.disowned = false → (reportCompletion i s).recorder.store = s.recorder.store.drop c.samples.length
        ∧ (reportCompletion i s).recorder.sent = s.recorder.sent + c.samples.length)
      ∧ (i.disowned = true → (reportCompletion i s).recorder = s.recorder) := by
  rw [reportCompletion, h]
  exact ⟨fun hd => by simp [curveComplete, hd], fun hd => by simp [curveComplete, hd]⟩

/-! ## A GRANT is applied or refused -/

theorem entry_setEntry {b b' : Budget} {n v : Nat} (h1 : 1 ≤ n) (h14 : n ≤ 14) (h : b'.table = b.setEntry n v)
    (m : Nat) : b'.entry m = if m = n then v else b.entry m := by
  have hn : 0 < n ∧ n < 15 := by omega
  simp only [Budget.entry, h, Budget.setEntry, dif_pos hn]
  by_cases hm : m < 15
  · simp only [dif_pos hm, Vector.getElem_set, eq_comm]
  · rw [dif_neg hm, dif_neg hm, if_neg (by omega)]

/-- R141, R142: the entry is the new one, and the others stay. -/
theorem entrySet_of_table {n units : Nat} {s t : State} (h1 : 1 ≤ n) (h14 : n ≤ 14)
    (h : t.budget.table = s.budget.setEntry n units) : EntrySet n units s t :=
  ⟨by simp [entry_setEntry h1 h14 h], fun m hm => by simp [entry_setEntry h1 h14 h, hm]⟩

@[simp] theorem applyEntry_sets (n units : Nat) (epoch : Byte) (s : State) :
    (applyEntry n units epoch s).budget.table = s.budget.setEntry n units
      ∧ (applyEntry n units epoch s).budget.epoch = (if s.budget.inStep then s.budget.epoch else epoch) + 1 :=
  ⟨rfl, rfl⟩

theorem raisePasses_iff (n units : Nat) (epoch : Byte) (s : State) :
    raisePasses n units epoch s = true ↔ epoch = s.budget.epoch
      ∧ (s.start.config = none ∨ tableSum (s.budget.setEntry n units) ≤ s.capacity) := by
  simp [raisePasses, State.configured]

/-- R140, R141: a lowering is applied, and a raise that passes. -/
theorem applyGrant_applies {n units : Nat} {epoch : Byte} {s : State}
    (h : units ≤ s.budget.entry n ∨ (epoch = s.budget.epoch
      ∧ (s.start.config = none ∨ tableSum (s.budget.setEntry n units) ≤ s.capacity))) :
    applyGrant n units epoch s = applyEntry n units epoch s :=
  if_pos (by simpa [raisePasses_iff] using h)

/-- R140, R141: a raise that does not pass makes the unit STALE. -/
theorem applyGrant_refuses {n units : Nat} {epoch : Byte} {s : State} (hu : s.budget.entry n < units)
    (h : epoch ≠ s.budget.epoch
      ∨ (s.start.config ≠ none ∧ s.capacity < tableSum (s.budget.setEntry n units))) :
    applyGrant n units epoch s = enterStale s := by
  refine if_neg ?_
  simp only [Bool.or_eq_true, decide_eq_true_eq, raisePasses_iff]
  rintro (hle | ⟨he, hc⟩)
  · omega
  · rcases h with h | ⟨hconf, hsum⟩
    · exact h he
    · exact hc.elim hconf (Nat.not_le_of_gt hsum)

theorem fits_iff (s : State) (v : Nat) :
    s.fits v = true ↔ tableSum (s.budget.setEntry s.start.number v) ≤ s.capacity := by
  simp [State.fits]

/-- R140: what the completion of an own GRANT leaves in the budget unit. -/
theorem ownGrantComplete_budget (units : Nat) (epoch : Byte) {s : State} (h1 : 1 ≤ s.start.number)
    (h14 : s.start.number ≤ 14) :
    let t := ownGrantComplete units epoch s
    (units ≤ s.ownEntry ∨ (epoch = s.budget.epoch ∧ s.fits units = true) →
        EntrySet s.start.number units s t ∧ t.budget.inStep = s.budget.inStep
          ∧ t.budget.epoch = (if s.budget.inStep then s.budget.epoch else epoch) + 1)
      ∧ (s.ownEntry < units → epoch ≠ s.budget.epoch ∨ (s.start.config ≠ none ∧ s.fits units = false) →
          t.budget.table = s.budget.table ∧ t.budget.epoch = s.budget.epoch ∧ t.budget.inStep = false) := by
  refine ⟨fun h => ?_, fun hu h => ?_⟩
  · have ha := applyGrant_applies (n := s.start.number) (units := units) (epoch := epoch) (s := s)
      (h.imp_right fun ⟨he, hf⟩ => ⟨he, .inr ((fits_iff _ _).1 hf)⟩)
    exact ⟨entrySet_of_table h1 h14 (by simp [ownGrantComplete, ha]), by simp [ownGrantComplete, ha],
      by simp [ownGrantComplete, ha]⟩
  · have hr := applyGrant_refuses (epoch := epoch) hu
      (h.imp_right fun ⟨hc, hf⟩ => ⟨hc, by simpa [State.fits] using hf⟩)
    simp [ownGrantComplete, hr]

/-- Settles O47: the report of the completion by the kind of the frame, and a GRANT applied or refused
(`ownGrantComplete_budget`). -/
theorem completionOfOwnFrames : Obligations.CompletionOfOwnFrames := by
  unfold Obligations.CompletionOfOwnFrames
  have hexec : ∀ {i : InFlight} {s : State}, s.link.line = .sending → s.link.inFlight = some i →
      exec .frameComplete s = .next (finish s (reportCompletion i (sentState s))) := fun hl hi => by
    rw [← frameComplete_sending hl hi]
    rfl
  refine ⟨fun i s hl hi => ?_, fun i g s hl hi hg h1 h14 => ?_⟩
  · rw [hexec hl hi, next_iff]
    obtain ⟨hline, hquiet, hflight⟩ := reportCompletion_line i (sentState s)
    simp only [finish_keeps, finish_link_fields]
    refine ⟨hline, hquiet, hflight, by simp [sentState], by simp [sentState], fun h => reportCompletion_budget _ h,
      fun n hn => (reportCompletion_notice (sentState s) hn).1,
      fun n hn => (reportCompletion_notice (sentState s) hn).2.1,
      fun n hn => (reportCompletion_notice (sentState s) hn).2.2, fun r w hr hw hn => ?_,
      fun c hc => (reportCompletion_curve _ hc).1, fun c hc => (reportCompletion_curve _ hc).2⟩
    exact reportCompletion_result (s := sentState s) hr hw hn
  · rw [hexec hl hi, next_iff, reportCompletion_grant _ hg]
    have hbudget := ownGrantComplete_budget g.units i.epoch (s := sentState s) h1 h14
    refine ⟨by simp [sentState], by simp [sentState], by simp [sentState], ?_⟩
    simp only [EntrySet, finish_keeps]
    exact hbudget
end Sys2Proof.Proofs
end

section
namespace Sys2Proof.Proofs
open Sys2Proof.Machine Sys2Proof.Safety Sys2Proof.Laws

/-! ## The abandonment of the station's own frames -/

/-- R122: the line after an own frame has been abandoned. -/
def abandonedState (s : State) : State :=
  s.setLink { s.link with line := .receiving, taking := false, quiet := 0, inFlight := none }

theorem frameAbandon_sending {i : InFlight} {s : State} (h : s.link.line = .sending) (hi : s.link.inFlight = some i) :
    frameAbandon s = reportAbandonment i (abandonedState s) := by
  rw [frameAbandon, if_pos h, hi]
  rfl

theorem returnFrame_fields (l : Link) (i : InFlight) :
    (l.returnFrame i).line = l.line ∧ (l.returnFrame i).taking = l.taking ∧ (l.returnFrame i).inFlight = l.inFlight
      ∧ (l.returnFrame i).errCheck = l.errCheck ∧ (l.returnFrame i).errLength = l.errLength
      ∧ (l.returnFrame i).errShort = l.errShort ∧ (l.returnFrame i).notices = l.notices
      ∧ (l.returnFrame i).lost = l.lost := by
  unfold Link.returnFrame
  split <;> (try split) <;> simp

theorem reportAbandonment_grant {i : InFlight} {g : GrantFrame} (s : State) (h : i.frame = .grant g) :
    reportAbandonment i s = ownGrantAbandoned s := by
  rw [reportAbandonment, h]

/-- R121: a frame that is no GRANT goes back by itself. -/
theorem reportAbandonment_returns {i : InFlight} (s : State) (h : ∀ g, i.frame ≠ .grant g) :
    reportAbandonment i s = s.setLink (s.link.returnFrame i) := by
  unfold reportAbandonment
  split
  next g hg => exact absurd hg (h g)
  next => rfl

/-- R121, R122: the abandonment of a frame takes no part of the budget and counts no error. -/
theorem reportAbandonment_keepsRest (i : InFlight) (s : State) :
    let t := reportAbandonment i s
    t.link.line = s.link.line ∧ t.link.taking = s.link.taking ∧ t.link.inFlight = s.link.inFlight
      ∧ t.link.errCheck = s.link.errCheck ∧ t.link.errLength = s.link.errLength ∧ t.link.errShort = s.link.errShort
      ∧ t.link.notices = s.link.notices ∧ t.link.lost = s.link.lost
      ∧ t.budget.table = s.budget.table ∧ t.budget.epoch = s.budget.epoch ∧ t.budget.inStep = s.budget.inStep := by
  by_cases h : ∃ g, i.frame = .grant g
  · obtain ⟨g, hg⟩ := h
    simp [reportAbandonment_grant s hg]
  · push Not at h
    simp [reportAbandonment_returns s h, returnFrame_fields]

theorem or_some_eq {α : Type} [DecidableEq α] (o : Option α) (a : α) :
    o.or (some a) = if o = none then some a else o := by
  cases o <;> simp

/-- R121: each slot takes its frame back unless it holds a newer one, and not a disowned one. -/
theorem returnFrame_slots (l : Link) (i : InFlight) :
    (∀ c, i.frame = .stop c → (l.returnFrame i).stop = if l.stop = none then some c else l.stop)
      ∧ (∀ x, i.frame = .level x → (l.returnFrame i).level = if l.level = none then some x else l.level)
      ∧ (∀ x, i.frame = .status x → (l.returnFrame i).status = if l.status = none then some x else l.status)
      ∧ (∀ r, i.frame = .result r → i.disowned = false → l.result = none → (l.returnFrame i).result = some r)
      ∧ (∀ c, i.frame = .curve c → i.disowned = false → l.curve = none → (l.returnFrame i).curve = some c)
      ∧ (∀ c, i.frame = .curve c → i.disowned = true → (l.returnFrame i).curve = l.curve) := by
  refine ⟨fun c h => ?_, fun x h => ?_, fun x h => ?_, fun r h hd hn => ?_, fun c h hd hn => ?_, fun c h hd => ?_⟩
    <;> simp only [Link.returnFrame, h, or_some_eq]
  · simp [hd, hn]
  · simp [hd, hn]
  · simp [hd]

/-- R136: a request that the entry meets leaves no GRANT and no lock. -/
theorem judgeRequest_met {s : State} (hg : s.link.grantInFlight = none) (h : s.budget.requested = s.ownEntry) :
    judgeRequest s = dropGrant s := by
  simp [judgeRequest, hg, h]

theorem ownGrantAbandoned_met {s : State} (hf : s.link.inFlight = none) (h : s.budget.requested = s.ownEntry) :
    (ownGrantAbandoned s).link.grant = none ∧ (ownGrantAbandoned s).budget.lock = false := by
  have hg : s.link.grantInFlight = none := by simp [Link.grantInFlight, hf]
  rw [ownGrantAbandoned, judgeRequest_met (s := clearLock s) hg h]
  exact ⟨rfl, rfl⟩

theorem finish_status_of_same {old s : State} (ht : s.budget.table = old.budget.table)
    (he : s.budget.epoch = old.budget.epoch) (hs : s.budget.inStep = old.budget.inStep) :
    (finish old s).link.status = s.link.status := by
  rw [finish_status, if_neg (by simp [budgetChanged, ht, he, hs])]

/-- Settles O48: a GRANT goes back to the budget unit (`ownGrantAbandoned_met`), every other frame to its slot
(`returnFrame_slots`). -/
theorem abandonmentReturnsFrame : Obligations.AbandonmentReturnsFrame := by
  unfold Obligations.AbandonmentReturnsFrame
  intro i s hl hi
  show Next (.next (finish s (frameAbandon s))) _
  rw [next_iff, frameAbandon_sending hl hi]
  obtain ⟨hline, htaking, hflight, hcheck, hlength, hshort, hnotices, hlost, htable, hepoch, hstep⟩ :=
    reportAbandonment_keepsRest i (abandonedState s)
  obtain ⟨hstop, hlevel, hstatus, hresult, hcurve, hdisowned⟩ := returnFrame_slots (abandonedState s).link i
  have hstatusKept := finish_status_of_same (old := s) htable hepoch hstep
  simp only [finish_keeps, finish_link_fields, hstatusKept, reportAbandonment_keeps]
  refine ⟨hline, htaking, hflight, hcheck, hlength, hshort, hnotices, hlost, htable, hepoch, hstep, rfl, rfl, rfl,
    fun c h => ?_, fun x h => ?_, fun x h => ?_, fun r h hd hn => ?_, fun c h hd hn => ?_, fun c h hd => ?_,
    fun g h hr => ?_⟩
  rotate_right
  · exact reportAbandonment_grant _ h ▸ ownGrantAbandoned_met rfl hr
  all_goals rw [reportAbandonment_returns _ (by simp [h])]
  · exact hstop c h
  · exact hlevel x h
  · exact hstatus x h
  · exact hresult r h hd hn
  · exact hcurve c h hd hn
  · exact hdisowned c h hd
end Sys2Proof.Proofs
end

section
namespace Sys2Proof.Proofs
open Sys2Proof.Machine Sys2Proof.Safety Sys2Proof.Laws

/-! ## Every good frame -/

/-- R126, R127: what is done with the content of a frame, by the command that carries it. -/
def frameAct : Instr → State → State
  | .grantFrame f => grantAct f
  | .levelFrame f => levelAct f
  | .stopFrame _ => stopAct
  | .statusFrame f => statusAct f
  | .config f => configAct f
  | .order f => orderAct f
  | .abort f => abortAct f
  | .clear f _ => clearAct f
  | .restart f _ => restartAct f
  | .reclaim f => reclaimAct f
  | _ => id

/-- R125: a frame of a known class is received with the lines that its command reports. -/
theorem exec_frame {c : Instr} {f : RxFrame} (h : frameOf c = some f) (s : State) :
    exec c s = .next (finish s (receive f (frameAct c) (s.setLines (reportedLines c s.lines)))) := by
  cases c
  case reportFrame cls g =>
    by_cases hk : 1 ≤ cls.toNat ∧ cls.toNat ≤ 13
    · have hg : g = f := by simpa [frameOf, hk] using h
      have hknown : knownClass cls = true := by simpa [knownClass] using hk
      show Host.Outcome.next (finish s (reportFrame cls g s)) = _
      rw [reportFrame, if_pos hknown, hg]
      rfl
    · simp [frameOf, hk] at h
  all_goals simp only [frameOf, Option.some.injEq, reduceCtorEq] at h
  all_goals subst h; rfl

theorem takes_setLines {f : RxFrame} {s : State} (l : Lines) (h : Takes f s) : Takes f (s.setLines l) := h

/-- R125: the content of a frame is acted on once its header has been examined. -/
theorem exec_frame_takes {c : Instr} {f : RxFrame} {s : State} (h : frameOf c = some f) (ht : Takes f s) :
    exec c s = .next (finish s (frameAct c (heard f (s.setLines (reportedLines c s.lines))))) := by
  rw [exec_frame h, receive_takes _ (takes_setLines _ ht)]

/-- R114, R129, R135: the line, the presence list and the last heard epoch are as before. -/
structure ReceptionKept (s t : State) : Prop where
  line : t.link.line = s.link.line
  taking : t.link.taking = s.link.taking
  quiet : t.link.quiet = s.link.quiet
  presence : t.link.presence = s.link.presence
  lastHeard : t.budget.lastHeard = s.budget.lastHeard

theorem acceptOrder_reception (o : Order) (s : State) : ReceptionKept s (acceptOrder o s) := by
  constructor <;> simp [acceptOrder]

theorem takeOrder_reception (payload : List Byte) (s : State) : ReceptionKept s (takeOrder payload s) := by
  unfold takeOrder
  split
  · constructor <;> simp
  · split
    · constructor <;> simp
    · exact acceptOrder_reception _ s

theorem acceptConfig_reception (k : Settings) (s : State) :
    ReceptionKept s (acceptConfig k s) ∧ (acceptConfig k s).budget.inStep = s.budget.inStep := by
  refine ⟨?_, by simp [acceptConfig]⟩
  constructor <;> simp [acceptConfig]

theorem takeConfig_reception (payload : List Byte) (s : State) :
    ReceptionKept s (takeConfig payload s) ∧ (takeConfig payload s).budget.inStep = s.budget.inStep := by
  unfold takeConfig
  split
  · exact ⟨by constructor <;> simp, by simp⟩
  · split
    · exact ⟨by constructor <;> simp, by simp⟩
    · exact acceptConfig_reception _ s

theorem restartStation_reception (s : State) :
    ReceptionKept s (restartStation s) ∧ (restartStation s).budget.inStep = s.budget.inStep := by
  refine ⟨?_, by simp [restartStation]⟩
  constructor <;> simp [restartStation, Link.restart]

theorem ReceptionKept.refl (s : State) : ReceptionKept s s := ⟨rfl, rfl, rfl, rfl, rfl⟩

/-- R114, R129, R135: no content of a frame touches what its reception has done. -/
theorem frameAct_reception (c : Instr) (s : State) : ReceptionKept s (frameAct c s) := by
  cases c <;> simp only [frameAct]
  case grantFrame f => unfold grantAct; split <;> (try split) <;> constructor <;> simp
  case levelFrame f => constructor <;> simp
  case stopFrame f => constructor <;> simp [stopAct]
  case statusFrame f => constructor <;> simp
  case config f => unfold configAct; split; exacts [(takeConfig_reception _ s).1, .refl s]
  case order f => unfold orderAct; split; exacts [takeOrder_reception _ s, .refl s]
  case abort f => unfold abortAct; split <;> constructor <;> simp
  case clear f l => unfold clearAct; split <;> constructor <;> simp
  case restart f l => unfold restartAct; split; exacts [(restartStation_reception s).1, .refl s]
  case reclaim f => unfold reclaimAct; split <;> (try split) <;> constructor <;> simp
  all_goals exact .refl s

/-- R135: no content but that of a GRANT and of a STATUS takes the unit in or out of step. -/
theorem frameAct_inStep {c : Instr} {f : RxFrame} (h : frameOf c = some f) (hg : c ≠ .grantFrame f)
    (hs : c ≠ .statusFrame f) (s : State) : (frameAct c s).budget.inStep = s.budget.inStep := by
  cases c <;> simp only [frameAct]
  case grantFrame g => simp [frameOf] at h; simp [h] at hg
  case statusFrame g => simp [frameOf] at h; simp [h] at hs
  case stopFrame g => simp [stopAct]
  case config g => unfold configAct; split; exacts [(takeConfig_reception _ s).2, rfl]
  case abort g => unfold abortAct; split <;> simp
  case clear g l => unfold clearAct; split <;> simp
  case restart g l => unfold restartAct; split; exacts [(restartStation_reception s).2, rfl]
  case reclaim g => unfold reclaimAct; split <;> (try split) <;> simp
  all_goals simp

/-- R126, R127: a discarded frame has no effect but its header's. -/
theorem frameAct_discards {c : Instr} {f : RxFrame} {s : State} (h : Discards c f s) : frameAct c s = s := by
  rcases h with ⟨rfl, h⟩ | ⟨rfl, h⟩ | ⟨h, hn⟩ | ⟨h, hn⟩ | ⟨rfl, h⟩
  · simp only [frameAct, grantAct]
    split
    next units reason hp =>
      have h0 : f.sender = 0 := by simpa [hp] using h
      simp [fromStation, h0]
    next => rfl
  · exact levelAct_leaves fun m _ hfrom => hfrom.2.1 h
  · have ho : toOwn f s = false := by
      rw [Bool.eq_false_iff]
      simp only [toOwn, ne_eq, Bool.and_eq_true, beq_iff_eq]
      exact fun ⟨h0, hd⟩ => hn.elim (· h0) (· hd)
    rcases h with rfl | rfl <;> simp [frameAct, configAct, orderAct, ho]
  · have ho : (toOwnOrAll f s && f.payload.isEmpty) = false := by
      rw [Bool.eq_false_iff]
      simp only [toOwnOrAll, ne_eq, Bool.and_eq_true, Bool.or_eq_true, beq_iff_eq, List.isEmpty_iff]
      rintro ⟨⟨h0, hd⟩, hp⟩
      rcases hn with hn | ⟨hd1, hd2⟩ | hn
      · exact hn h0
      · exact hd.elim hd1 hd2
      · exact hn hp
    rcases h with rfl | ⟨l, rfl⟩ <;> simp only [frameAct, abortAct, clearAct, ho] <;> rfl
  · simp only [frameAct, reclaimAct]
    split
    next n hp =>
      have h0 : f.sender ≠ 0 := by simpa [hp] using h
      rw [if_neg h0]
    next => rfl

theorem frameOf_discards {c : Instr} {f : RxFrame} {s : State} (h : Discards c f s) : frameOf c = some f := by
  rcases h with ⟨rfl, -⟩ | ⟨rfl, -⟩ | ⟨rfl | rfl, -⟩ | ⟨rfl | ⟨l, rfl⟩, -⟩ | ⟨rfl, -⟩ <;> rfl

theorem discards_congr {c : Instr} {f : RxFrame} {s t : State} (hs : t.start = s.start) (h : Discards c f s) :
    Discards c f t := by
  simpa only [Discards, hs] using h

/-- R125, R129, R135: a frame whose content has no effect. -/
theorem next_headerOnly {c : Instr} {f : RxFrame} {s : State} (h : frameOf c = some f) (ht : Takes f s)
    (ha : frameAct c (heard f (s.setLines (reportedLines c s.lines)))
      = heard f (s.setLines (reportedLines c s.lines))) :
    Next (exec c s) fun t => HeaderOnly f s t ∧ t.link.notices = s.link.notices ∧ t.link.lost = s.link.lost
      ∧ t.lines = reportedLines c s.lines := by
  rw [exec_frame_takes h ht, ha, next_iff]
  exact ⟨headerOnly_heard f _ s, by simp, by simp, by simp⟩

/-- R125: the state in which a frame is done with that ends the reception and is not dispatched. -/
def receptionEnded (l : Lines) (s : State) : State := (s.setLines l).setLink s.link.endReception

theorem finish_receptionEnded {s : State} (hp : PortSafe s) (l : Lines) :
    finish s (receptionEnded l s) = receptionEnded l s :=
  finish_of_same hp rfl rfl (forced_congr rfl rfl rfl rfl rfl rfl rfl rfl)

/-- R125: a frame with sender 15 is not dispatched. -/
theorem receive_sender15 {f : RxFrame} {s : State} (act : State → State) (l : Lines) (h : s.link.takes = true)
    (h15 : f.sender = 15) : receive f act (s.setLines l) = receptionEnded l s := by
  simp [receive, examineHeader, h, h15, receptionEnded]

theorem reportFrame_unknown {cls : Byte} {f : RxFrame} {s : State} (h : s.link.takes = true)
    (hc : cls.toNat = 0 ∨ 13 < cls.toNat) : reportFrame cls f s = receptionEnded s.lines s := by
  have hunknown : knownClass cls = false := by
    rw [Bool.eq_false_iff]
    simp only [knownClass, ne_eq, Bool.and_eq_true, decide_eq_true_eq]
    omega
  simp [reportFrame, hunknown, h, receptionEnded]

/-- R125: a frame with the station's own number is a local fault. -/
theorem receive_own {f : RxFrame} {s : State} (act : State → State) (l : Lines) (hs : s.start.strapFault = false)
    (h : s.link.takes = true) (h15 : f.sender ≠ 15) (hown : f.sender.toNat = s.start.number) :
    receive f act (s.setLines l) = report .duplicateNumber (receptionEnded l s) := by
  simp only [receive, setLines_fields, h, if_true, hs, Bool.false_eq_true, if_false, examineHeader, setLink_fields,
    h15, hown]
  rfl

/-- R132: what the report of a frame with the own number leaves, and how it ends a test. -/
theorem duplicate_reported {s : State} (l : Lines) (hs : s.start.strapFault = false) :
    let t := finish s (report .duplicateNumber (receptionEnded l s))
    Recorded .duplicateNumber s t ∧ t.link.presence = s.link.presence ∧ t.budget.lastHeard = s.budget.lastHeard
      ∧ t.budget.table = s.budget.table ∧ t.budget.epoch = s.budget.epoch ∧ t.budget.inStep = s.budget.inStep
      ∧ t.stop.latch = s.stop.latch ∧ t.start = s.start
      ∧ (s.isFollow = false → s.seq.state.isTest = true → EndsFaulted .duplicateNumber s t) := by
  have hrec : Recorded .duplicateNumber s (report .duplicateNumber (receptionEnded l s)) :=
    recorded_report (s := receptionEnded l s) _ hs
  have hlatch := report_local_latch (c := .duplicateNumber) (s := receptionEnded l s) hs rfl
  refine ⟨by simpa [Recorded] using hrec, by simp [receptionEnded], by simp [receptionEnded], by simp [receptionEnded],
    by simp [receptionEnded], by simp [receptionEnded], by simpa [receptionEnded] using hlatch,
    by simp [receptionEnded], fun hf ht => ?_⟩
  have hrole : s.start.role ≠ .follow := by simpa [State.isFollow] using hf
  exact endsFaulted_report (s := receptionEnded l s) s ⟨hs, hrole⟩ ht rfl

/-- Settles O50: a frame is received with its content acted on last (`exec_frame_takes`), which leaves the reception
alone (`frameAct_reception`), and has no effect where it is discarded (`frameAct_discards`). -/
theorem goodFrameIsExamined : Obligations.GoodFrameIsExamined := by
  unfold Obligations.GoodFrameIsExamined
  refine ⟨fun c f s hc ht => ?_, fun cls f s h1 h13 ht => ?_, fun c f s ht hd => ?_, fun c f s hp htakes h => ?_,
    fun c f s hc hs htakes h15 hown => ?_⟩
  · rw [exec_frame_takes hc ht, next_iff]
    obtain ⟨hline, htaking, hquiet, hpresence, hheard⟩ :=
      frameAct_reception c (heard f (s.setLines (reportedLines c s.lines)))
    simp only [finish_keeps, finish_link_fields, hline, htaking, hquiet, hheard]
    refine ⟨by simp, by simp, by simp, by simp, fun hg hst => ?_, fun k hk => ?_⟩
    · rw [frameAct_inStep hc hg hst]
      simp [staysInStep]
    · simp only [hpresence, heard_presence f _ k hk, setLines_fields]
  · have hknown : frameOf (.reportFrame cls f) = some f := if_pos ⟨h1, h13⟩
    obtain ⟨t, he, hheader, hnotices, hlost, -⟩ := next_headerOnly (s := s) hknown ht rfl
    exact ⟨t, he, hheader, hnotices, hlost⟩
  · exact next_headerOnly (frameOf_discards hd) ht (frameAct_discards (discards_congr (by simp) hd))
  · rcases h with ⟨hc, h15⟩ | ⟨cls, rfl, hcls⟩
    · rw [exec_frame hc, receive_sender15 _ _ htakes h15, finish_receptionEnded hp]
      rfl
    · show Host.Outcome.next (finish s (reportFrame cls f s)) = _
      rw [reportFrame_unknown htakes hcls, finish_receptionEnded hp]
      rfl
  · rw [exec_frame hc, receive_own _ _ hs htakes h15 hown, next_iff]
    exact duplicate_reported _ hs
end Sys2Proof.Proofs
end

section
namespace Sys2Proof.Proofs
open Sys2Proof.Machine Sys2Proof.Safety Sys2Proof.Laws

/-! ## The bytes of a STATUS -/

theorem beNat_slice_one (bs : List Byte) (i : Nat) : beNat (slice bs i 1) = (bs.getD i 0).toNat := by
  by_cases h : i < bs.length
  · rw [slice, List.drop_eq_getElem_cons h, List.getD_eq_getElem _ _ h]
    simp only [beNat, List.take_succ_cons, List.take_zero, List.foldl_cons, List.foldl_nil, Nat.zero_mul, Nat.zero_add]
  · rw [slice, List.drop_of_length_le (by omega), List.getD_eq_default _ _ (by omega)]
    rfl

theorem intBytes_length (v : Int) : (intBytes v).length = 4 := natBytes_length _ _

theorem wordBytes_length (w : Word32) : (wordBytes w).length = 4 := natBytes_length _ _

theorem toNat_ofNat_byte {n : Nat} (h : n < 256) : (BitVec.ofNat 8 n).toNat = n := by
  rw [BitVec.toNat_ofNat, Nat.mod_eq_of_lt h]

/-- R181: the flag byte, bit 7 first. -/
def flagByte (b7 b6 b5 b4 b3 b2 b1 b0 : Bool) : Nat :=
  flagBit b7 7 + flagBit b6 6 + flagBit b5 5 + flagBit b4 4 + flagBit b3 3 + flagBit b2 2 + flagBit b1 1 + flagBit b0 0

theorem flagByte_bits : ∀ b7 b6 b5 b4 b3 b2 b1 b0 : Bool,
    let n := (BitVec.ofNat 8 (flagByte b7 b6 b5 b4 b3 b2 b1 b0)).toNat
    n.testBit 7 = b7 ∧ n.testBit 6 = b6 ∧ n.testBit 5 = b5 ∧ n.testBit 4 = b4 ∧ n.testBit 3 = b3 ∧ n.testBit 2 = b2
      ∧ n.testBit 1 = b1 ∧ n.testBit 0 = b0 := by
  decide

/-- R129, R181: a rising list of nodes as a number, a bit for each. -/
theorem presenceBits_testBit {ns : List Nat} (h : ns.Pairwise (· < ·)) (n : Nat) :
    ((ns.map fun n => 2 ^ n).sum).testBit n = decide (n ∈ ns) := by
  rw [Bool.eq_iff_iff, decide_eq_true_iff, ← Nat.mem_bitIndices, Nat.bitIndices_sum_map_two_pow h.sortedLT]

theorem presenceBits_lt {ns : List Nat} (h : ns.Pairwise (· < ·)) (hn : ∀ n ∈ ns, n < 15) :
    (ns.map fun n => 2 ^ n).sum < 65536 := by
  have hlt : (ns.map fun n => 2 ^ n).sum < 2 ^ 15 := Nat.lt_pow_two_of_testBit _ fun i hi => by
    rw [presenceBits_testBit h, decide_eq_false_iff_not]
    exact fun hmem => by have := hn i hmem; omega
  omega

/-- A field of a concatenation stands behind the widths of the fields before it. -/
theorem slice_flatten {fs : List (List Byte)} {f : List Byte} {k : Nat} (h : fs[k]? = some f) (rest : List Byte) :
    ((fs.flatten ++ rest).drop ((fs.take k).map List.length).sum).take f.length = f := by
  obtain ⟨hk, hf⟩ := List.getElem?_eq_some_iff.1 h
  have hsplit : fs.flatten = (fs.take k).flatten ++ (f ++ (fs.drop (k + 1)).flatten) := by
    rw [← List.flatten_cons, ← hf, ← List.drop_eq_getElem_cons hk, ← List.flatten_append, List.take_append_drop]
  rw [hsplit, List.append_assoc, List.append_assoc, List.drop_left' List.length_flatten, List.take_left' rfl]

/-- R181: the fields that every STATUS has, in their order. -/
def statusFields (v : Status) : List (List Byte) :=
  [natBytes 1 v.role.code, natBytes 1 v.state.code, natBytes 1 v.phase,
    natBytes 1 (flagByte v.latch v.driving v.lineLow v.lockedCause.isSome v.inStep v.standstill
      (v.extState == .measuring) v.gauge.isSome),
    natBytes 1 ((v.lockedCause.map (·.code)).getD 0), natBytes 1 v.further, [v.epoch], natBytes 1 v.capacity,
    wordBytes v.index, intBytes v.position, intBytes v.velocity, intBytes v.load, natBytes 1 v.range.code,
    natBytes 1 v.extState.code, natBytes 1 ((v.gauge.map (·.1)).getD 0), natBytes 2 ((v.gauge.map (·.2)).getD 0),
    wordBytes v.leadIndex, natBytes 1 v.mirrorAge, natBytes 1 v.errCheck, natBytes 1 v.errLength,
    natBytes 1 v.errShort, natBytes 1 v.lost, natBytes 2 ((v.presence.map fun n => 2 ^ n).sum)]

/-- R181: the bytes that each field has. -/
def statusWidths : List Nat := [1, 1, 1, 1, 1, 1, 1, 1, 4, 4, 4, 4, 1, 1, 1, 2, 4, 1, 1, 1, 1, 1, 2]

theorem statusFields_widths (v : Status) : (statusFields v).map List.length = statusWidths := by
  unfold statusFields
  simp only [List.map_cons, List.map_nil, natBytes_length, wordBytes_length, intBytes_length, List.length_singleton]
  rfl

/-- R181: the entries of an in-step sender behind them. -/
def entryBytes (entries : Option (List Nat)) : List Byte := (entries.getD []).map (BitVec.ofNat 8)

theorem status_payload (v : Status) :
    (OutFrame.status v).payload = (statusFields v).flatten ++ entryBytes v.entries := by
  have hcause : causeCode v.lockedCause = (v.lockedCause.map (·.code)).getD 0 := by cases v.lockedCause <;> rfl
  have hentries : ∀ es : List Nat, (es.flatMap fun e => natBytes 1 e) = es.map (BitVec.ofNat 8) :=
    fun es => (List.map_eq_flatMap).symm
  unfold OutFrame.payload Status.payload statusFields flagByte entryBytes
  simp only [hcause, hentries, List.flatten_cons, List.flatten_nil, List.append_nil, List.append_assoc]
  cases v.gauge <;> cases v.entries <;> rfl

/-- R181: field `k` of a STATUS payload stands at its place `i` with its width `n`. -/
theorem status_field {v : Status} {f : List Byte} {i n : Nat} (k : Nat) (h : (statusFields v)[k]? = some f)
    (hi : (statusWidths.take k).sum = i := by rfl) (hn : statusWidths[k]? = some n := by rfl) :
    ((OutFrame.status v).payload.drop i).take n = f := by
  have hwidth : f.length = n := by
    have hget := congrArg (·[k]?) (statusFields_widths v)
    simpa [List.getElem?_map, h, hn] using hget
  have hplace := slice_flatten h (entryBytes v.entries)
  rw [List.map_take, statusFields_widths, hi, hwidth] at hplace
  rw [status_payload, hplace]

theorem getD_of_slice {bs : List Byte} {i : Nat} {b : Byte} (h : (bs.drop i).take 1 = [b]) : bs.getD i 0 = b := by
  have hhead : (bs.drop i).head? = some b := by
    cases hd : bs.drop i <;> simp_all
  rw [List.getD_eq_getElem?_getD, ← List.head?_drop, hhead]
  rfl

/-- R181: a field of one byte. -/
theorem status_byte {v : Status} {i m : Nat} (k : Nat) (h : (statusFields v)[k]? = some (natBytes 1 m))
    (hm : m < 256) (hi : (statusWidths.take k).sum = i := by rfl) (hn : statusWidths[k]? = some 1 := by rfl) :
    ((OutFrame.status v).payload.getD i 0).toNat = m := by
  rw [getD_of_slice (status_field k h hi hn)]
  exact toNat_ofNat_byte hm

theorem status_length (v : Status) : (OutFrame.status v).payload.length = 40 + (v.entries.getD []).length := by
  rw [status_payload, List.length_append, List.length_flatten, statusFields_widths, entryBytes, List.length_map]
  rfl

theorem status_entries (v : Status) : (OutFrame.status v).payload.drop 40 = entryBytes v.entries := by
  rw [status_payload, List.drop_left' (by rw [List.length_flatten, statusFields_widths]; rfl)]

theorem entryBytes_toNat {es : List Nat} (h : ∀ e ∈ es, e < 256) : (entryBytes (some es)).map (·.toNat) = es := by
  rw [entryBytes, Option.getD_some, List.map_map]
  exact (List.map_congr_left fun e he => toNat_ofNat_byte (h e he)).trans (List.map_id' es)

theorem seqState_code_lt (q : SeqState) : q.code < 256 := by cases q <;> decide

theorem faultCause_code_lt (c : FaultCause) : c.code < 256 := by cases c <;> decide

theorem getD_map_lt {α : Type} {o : Option α} {f : α → Nat} (h : ∀ a, o = some a → f a < 256) :
    (o.map f).getD 0 < 256 := by
  cases o with
  | none => exact Nat.zero_lt_succ 255
  | some a => exact h a rfl

/-- R181: the presence field is a bit for each member. -/
theorem status_presence {v : Status} (hrise : v.presence.Pairwise (· < ·)) (hnode : ∀ n ∈ v.presence, n < 15)
    (n : Nat) :
    (((OutFrame.status v).payload.getD 38 0).toNat * 256 + ((OutFrame.status v).payload.getD 39 0).toNat).testBit n
      = decide (n ∈ v.presence) := by
  have hfield : slice (OutFrame.status v).payload 38 2 = natBytes 2 ((v.presence.map fun n => 2 ^ n).sum) :=
    status_field 22 rfl
  have hlen := status_length v
  have hsum : ((OutFrame.status v).payload.getD 38 0).toNat * 256 + ((OutFrame.status v).payload.getD 39 0).toNat
      = (v.presence.map fun n => 2 ^ n).sum := by
    have hnat := congrArg beNat hfield
    rw [beNat_natBytes 2 (presenceBits_lt hrise hnode), slice_two (by omega)] at hnat
    simpa [beNat] using hnat
  rw [hsum, presenceBits_testBit hrise]

/-- R181: the bytes of a STATUS payload. -/
theorem status_bytes {v : Status} (h : StatusFits v) :
    let bs := (OutFrame.status v).payload
    let at_ := fun i => (bs.getD i 0).toNat
    bs.length = (if v.inStep then 55 else 40)
      ∧ at_ 0 = v.role.code ∧ at_ 1 = v.state.code ∧ at_ 2 = v.phase
      ∧ (at_ 3).testBit 7 = v.latch ∧ (at_ 3).testBit 6 = v.driving ∧ (at_ 3).testBit 5 = v.lineLow
      ∧ (at_ 3).testBit 4 = v.lockedCause.isSome ∧ (at_ 3).testBit 3 = v.inStep ∧ (at_ 3).testBit 2 = v.standstill
      ∧ (at_ 3).testBit 1 = decide (v.extState = .measuring) ∧ (at_ 3).testBit 0 = v.gauge.isSome
      ∧ at_ 4 = (v.lockedCause.map (·.code)).getD 0 ∧ at_ 5 = v.further ∧ bs.getD 6 0 = v.epoch
      ∧ at_ 7 = v.capacity ∧ (bs.drop 8).take 4 = wordBytes v.index ∧ (bs.drop 12).take 4 = intBytes v.position
      ∧ (bs.drop 16).take 4 = intBytes v.velocity ∧ (bs.drop 20).take 4 = intBytes v.load
      ∧ at_ 24 = v.range.code ∧ at_ 25 = v.extState.code ∧ at_ 26 = (v.gauge.map (·.1)).getD 0
      ∧ (bs.drop 27).take 2 = natBytes 2 ((v.gauge.map (·.2)).getD 0)
      ∧ (bs.drop 29).take 4 = wordBytes v.leadIndex ∧ at_ 33 = v.mirrorAge
      ∧ at_ 34 = v.errCheck ∧ at_ 35 = v.errLength ∧ at_ 36 = v.errShort ∧ at_ 37 = v.lost
      ∧ (∀ n, (at_ 38 * 256 + at_ 39).testBit n = decide (n ∈ v.presence))
      ∧ (∀ es, v.entries = some es → (bs.drop 40).map (·.toNat) = es) := by
  obtain ⟨hphase, hfurther, hcapacity, hgauge, hage, hcheck, hlength, hshort, hlost, hrise, hnode, hstep, hstale⟩ := h
  intro bs at_
  have hflags : at_ 3 = (BitVec.ofNat 8 (flagByte v.latch v.driving v.lineLow v.lockedCause.isSome v.inStep
      v.standstill (v.extState == .measuring) v.gauge.isSome)).toNat :=
    congrArg BitVec.toNat (getD_of_slice (status_field 3 rfl))
  obtain ⟨h7, h6, h5, h4, h3, h2, h1, h0⟩ := flagByte_bits v.latch v.driving v.lineLow v.lockedCause.isSome v.inStep
      v.standstill (v.extState == .measuring) v.gauge.isSome
  rw [← hflags] at h7 h6 h5 h4 h3 h2 h1 h0
  refine ⟨?_, status_byte 0 rfl (by cases v.role <;> decide), status_byte 1 rfl (seqState_code_lt _),
    status_byte 2 rfl hphase, h7, h6, h5, h4, h3, h2, h1, h0,
    status_byte 4 rfl (getD_map_lt fun c _ => faultCause_code_lt c), status_byte 5 rfl hfurther,
    getD_of_slice (status_field 6 rfl), status_byte 7 rfl hcapacity, status_field 8 rfl, status_field 9 rfl,
    status_field 10 rfl, status_field 11 rfl, status_byte 12 rfl (by cases v.range <;> decide),
    status_byte 13 rfl (by cases v.extState <;> decide), status_byte 14 rfl (getD_map_lt hgauge), status_field 15 rfl,
    status_field 16 rfl, status_byte 17 rfl hage, status_byte 18 rfl hcheck, status_byte 19 rfl hlength,
    status_byte 20 rfl hshort, status_byte 21 rfl hlost, status_presence hrise hnode, fun es hes => ?_⟩
  · have hlen := status_length v
    cases hi : v.inStep with
    | true =>
      obtain ⟨es, hes, hcount, -⟩ := hstep hi
      simpa [hes, hcount] using hlen
    | false => simpa [hstale hi] using hlen
  · cases hi : v.inStep with
    | true =>
      obtain ⟨es', hes', -, hbyte⟩ := hstep hi
      obtain rfl : es' = es := Option.some.inj (hes'.symm.trans hes)
      rw [status_entries, hes, entryBytes_toNat hbyte]
    | false => simp [hstale hi] at hes

/-! ## What is read from a STATUS -/

/-- R181: of the bytes of a STATUS only these are used. -/
theorem parseStatus_iff (bs : List Byte) (v : StatusView) : parseStatus bs = some v ↔
    ((bs.length = 55 ∧ (bs.getD 3 0).toNat.testBit 3 = true ∧ v.entries = some ((bs.drop 40).map (·.toNat)))
        ∨ (bs.length = 40 ∧ (bs.getD 3 0).toNat.testBit 3 = false ∧ v.entries = none))
      ∧ v.capacity = (bs.getD 7 0).toNat ∧ v.epoch = bs.getD 6 0 := by
  obtain ⟨capacity, epoch, entries⟩ := v
  have hepoch : BitVec.ofNat 8 (bs.getD 6 0).toNat = bs.getD 6 0 := by simp
  simp only [parseStatus, beNat_slice_one, hepoch]
  cases hb : (bs.getD 3 0).toNat.testBit 3 with
  | true =>
    by_cases hl : bs.length = 55
    · simp [hl, and_comm, and_assoc, eq_comm]
    · simp [hl]
  | false =>
    by_cases hl : bs.length = 40
    · simp [hl, and_comm, and_assoc, eq_comm]
    · simp [hl]
end Sys2Proof.Proofs
end

section
namespace Sys2Proof.Proofs
open Sys2Proof.Machine Sys2Proof.Safety Sys2Proof.Laws

/-! ## What a STATUS does -/

theorem execStatusFrame_takes {f : RxFrame} {s : State} (h : Takes f s) :
    exec (.statusFrame f) s = .next (finish s (statusAct f (heard f s))) :=
  exec_frame_takes (c := .statusFrame f) rfl h

/-- R133: what a STATUS is built from is no part of what a command ends with. -/
theorem buildStatus_finish (old s : State) : buildStatus (finish old s) = buildStatus s := by
  simp [buildStatus, State.ownState, State.ownPhase, State.isFollow, State.capacity, State.lastIndex,
    State.lastPosition, Link.members]

theorem capacity_heard (f : RxFrame) (s : State) : (heard f s).capacity = s.capacity := by
  simp [State.capacity]

theorem configured_iff (s : State) : s.configured = true ↔ s.start.config ≠ none :=
  Option.isSome_iff_ne_none

theorem capacityDiffers_iff (v : StatusView) (s : State) :
    capacityDiffers v s = true ↔ s.start.config ≠ none ∧ v.capacity ≠ 0 ∧ v.capacity ≠ s.capacity := by
  simp [capacityDiffers, configured_iff, and_assoc]

theorem offeredForRecovery_iff (v : StatusView) (s : State) :
    offeredForRecovery v s = true ↔ s.budget.inStep = false ∧ (s.start.config = none ∨ v.capacity = s.capacity) := by
  simp [offeredForRecovery, State.configured]

section
variable {f : RxFrame} {v : StatusView} {s : State}

/-- R144: a STATUS with another capacity is a local fault. -/
theorem statusAct_differs (hv : parseStatus f.payload = some v) (hc : s.start.config ≠ none) (h0 : v.capacity ≠ 0)
    (hd : v.capacity ≠ s.capacity) : statusAct f s = report .configMismatch s := by
  rw [statusAct, hv]
  exact if_pos ((capacityDiffers_iff v s).2 ⟨hc, h0, hd⟩)

/-- R143: a STALE unit takes the table of an in-step sender. -/
theorem statusAct_recovers {es : List Nat} (hv : parseStatus f.payload = some v) (he : v.entries = some es)
    (hs : s.budget.inStep = false) (hc : s.start.config = none ∨ v.capacity = s.capacity) :
    statusAct f s = recover es v.epoch s := by
  have hsame : ¬capacityDiffers v s = true := fun hd => by
    obtain ⟨hconf, -, hne⟩ := (capacityDiffers_iff v s).1 hd
    exact hc.elim hconf hne
  simp only [statusAct, hv, if_neg hsame, he, if_pos ((offeredForRecovery_iff v s).2 ⟨hs, hc⟩)]

/-- R143, R144: a STATUS of no other capacity that is not offered for recovery has no effect. -/
theorem statusAct_leaves (hv : parseStatus f.payload = some v)
    (hc : s.start.config = none ∨ v.capacity = 0 ∨ v.capacity = s.capacity)
    (h : v.entries = none ∨ s.budget.inStep = true ∨ (s.start.config ≠ none ∧ v.capacity ≠ s.capacity)) :
    statusAct f s = s := by
  have hsame : ¬capacityDiffers v s = true := fun hd => by
    obtain ⟨hconf, h0, hne⟩ := (capacityDiffers_iff v s).1 hd
    exact hc.elim hconf fun hc => hc.elim h0 hne
  simp only [statusAct, hv, if_neg hsame]
  cases he : v.entries with
  | none => rfl
  | some es =>
    refine if_neg fun ho => ?_
    obtain ⟨hstale, hagree⟩ := (offeredForRecovery_iff v s).1 ho
    rcases h with h | h | ⟨hconf, hne⟩
    · simp [he] at h
    · simp [hstale] at h
    · exact hagree.elim hconf hne

end

/-- R143: the table adopted, entry 0 taken as 0. -/
theorem entry_of_adopted {b : Budget} {es : List Nat} (h : b.table = adoptedTable es) {k : Nat} (hk : k < 15) :
    b.entry k = if k = 0 then 0 else es.getD k 0 := by
  simp [Budget.entry, h, adoptedTable, hk]

/-- R143, R148: what an adoption writes, the unit in step from CONFIG on. -/
theorem adopt_sets (es : List Nat) (epoch : Byte) (s : State) :
    (adopt es epoch s).budget.table = adoptedTable es ∧ (adopt es epoch s).budget.epoch = epoch
      ∧ (adopt es epoch s).budget.inStep = s.start.config.isSome
      ∧ (s.start.config ≠ none → (adopt es epoch s).budget.coldTimer = none) := by
  refine ⟨by simp [adopt], by simp [adopt], by simp [adopt, State.configured], fun hc => ?_⟩
  simp [adopt, (configured_iff s).2 hc]

/-- R148: before CONFIG the judgment after an adoption places no GRANT. -/
theorem adopt_grant_unconfigured (es : List Nat) (epoch : Byte) {s : State} (hc : s.start.config = none)
    (hg : s.link.grantInFlight = none) : (adopt es epoch s).link.grant = none := by
  have hconf : s.configured = false := by simp [State.configured, hc]
  rw [adopt, judgeRequest_grant _ (by simpa using hg), if_pos (.inr (by simpa [State.configured] using hc))]

/-- R133: a STATUS that waits after a recovery is the one of the state that the command ends with. -/
theorem recover_finish_status (old : State) (es : List Nat) (epoch : Byte) {s : State} (hc : s.start.config ≠ none)
    (h : s.link.status ≠ none) : (finish old (recover es epoch s)).link.status
      = some (buildStatus (finish old (recover es epoch s))) := by
  obtain ⟨x, hx⟩ := Option.ne_none_iff_exists'.1 h
  have hr : (recover es epoch s).link.status = some (buildStatus (recover es epoch s)) := by
    rw [recover_status, if_pos ((configured_iff s).2 hc), hx]
    rfl
  rw [finish_status, hr, buildStatus_finish]
  exact ite_self _

theorem recorded_heard (c : FaultCause) (f : RxFrame) (s t : State) : Recorded c (heard f s) t ↔ Recorded c s t := by
  simp [Recorded, LockedBy, State.ownState, State.ownPhase, State.isFollow, State.lastIndex, State.lastPosition]

/-- R143: a recovery from the STATUS that has been heard. -/
theorem statusFrame_recovers {f : RxFrame} {v : StatusView} {es : List Nat} {s : State}
    (hv : parseStatus f.payload = some v) (hs : staysInStep f s = false) (he : v.entries = some es)
    (hc : s.start.config = none ∨ v.capacity = s.capacity) :
    let t := finish s (statusAct f (heard f s))
    (∀ k, 0 < k → k < 15 → t.budget.entry k = es.getD k 0) ∧ t.budget.entry 0 = 0
      ∧ t.budget.epoch = v.epoch ∧ t.budget.inStep = s.start.config.isSome ∧ t.stop = s.stop
      ∧ (s.start.config ≠ none → t.budget.coldTimer = none)
      ∧ (s.start.config = none → s.link.grantInFlight = none → t.link.grant = none)
      ∧ (s.start.config ≠ none → s.link.status ≠ none → t.link.status = some (buildStatus t))
      ∧ t.budget.requested = s.budget.requested := by
  have hact := statusAct_recovers (s := heard f s) hv he (by simpa using hs) (by simpa [capacity_heard] using hc)
  obtain ⟨htable, hepoch, hstep, hcold⟩ := adopt_sets es v.epoch (heard f s)
  intro t
  have ht : t = finish s (recover es v.epoch (heard f s)) := by rw [← hact]
  have hentry : ∀ {k}, k < 15 → t.budget.entry k = if k = 0 then 0 else es.getD k 0 :=
    fun hk => entry_of_adopted (by simpa [ht] using htable) hk
  refine ⟨fun k h0 hk => by rw [hentry hk, if_neg (by omega)], by rw [hentry (by omega), if_pos rfl],
    by simpa [ht] using hepoch, by simpa [ht] using hstep, by simp [ht], fun hconf => ?_, fun hconf hg => ?_,
    fun hconf hst => ?_, by simp [ht]⟩
  · simpa [ht] using hcold (by simpa using hconf)
  · simpa [ht] using adopt_grant_unconfigured es v.epoch (s := heard f s) (by simpa using hconf)
      (by simpa [Link.grantInFlight] using hg)
  · rw [ht]
    exact recover_finish_status s es v.epoch (by simpa using hconf) (by simpa using hst)

/-- R143: what a STATUS without effect leaves. -/
theorem finish_heard_budget (f : RxFrame) (s : State) :
    let t := finish s (heard f s)
    t.budget.table = s.budget.table ∧ t.budget.epoch = s.budget.epoch ∧ t.budget.inStep = staysInStep f s
      ∧ t.stop = s.stop := by
  simp

/-- Settles O53: the payload field by field (`status_bytes`) and what is read from it (`parseStatus_iff`); a STATUS is
reported (`statusAct_differs`), adopted (`statusFrame_recovers`) or left (`statusAct_leaves`). -/
theorem statusFrameRecoversTable : Obligations.StatusFrameRecoversTable := by
  unfold Obligations.StatusFrameRecoversTable
  refine ⟨fun v hv => status_bytes hv, parseStatus_iff, fun f s ht hn => ?_, fun f v s ht hv => ?_⟩
  · have hnone : statusAct f (heard f s) = heard f s := by rw [statusAct, hn]
    obtain ⟨t, he, hheader, hnotices, hlost, -⟩ := next_headerOnly (c := .statusFrame f) rfl ht hnone
    exact ⟨t, he, hheader, hnotices, hlost⟩
  · rw [execStatusFrame_takes ht, next_iff]
    obtain ⟨htable, hepoch, hstep, hstop⟩ := finish_heard_budget f s
    refine ⟨fun hc h0 hd => ?_, fun es hs he hc => statusFrame_recovers hv hs he hc, fun hc h0 hcap => ?_,
      fun hc hs => ?_⟩
    · rw [statusAct_differs hv (by simpa using hc) h0 (by rwa [capacity_heard])]
      have hrec := recorded_report .configMismatch (s := heard f s) (by simpa using ht.1)
      rw [recorded_heard] at hrec
      exact ⟨by simpa [Recorded] using hrec, by simp, by simp, by simp⟩
    · rw [statusAct_leaves hv (.inr (.inl h0))
        (.inr (.inr ⟨by simpa using hc, by rw [capacity_heard, h0]; exact hcap.symm⟩))]
      exact ⟨hstop, htable, hepoch, hstep⟩
    · rw [statusAct_leaves hv (by simpa [capacity_heard] using hc) (hs.symm.imp_right fun h => .inl (by simpa using h))]
      exact ⟨htable, hepoch, hstep, hstop⟩
end Sys2Proof.Proofs
end

section
namespace Sys2Proof.Proofs
open Sys2Proof.Machine Sys2Proof.Safety Sys2Proof.Laws

/-! ## The frame of every command -/

/-- Table 1: a block is the same in both states. -/
def SameBlock (s u : State) : Block → Prop
  | .lines => u.lines = s.lines
  | .clock => u.clock = s.clock
  | .start => u.start = s.start
  | .seq => u.seq = s.seq
  | .testRec => u.testRec = s.testRec
  | .follow => u.follow = s.follow
  | .travel => u.travel = s.travel
  | .pair => u.pair = s.pair
  | .load => u.load = s.load
  | .ext => u.ext = s.ext
  | .link => u.link = s.link
  | .budget => u.budget = s.budget
  | .stop => u.stop = s.stop
  | .recorder => u.recorder = s.recorder

/-- Nothing but these blocks and the count of open choices differs. -/
def FramedBy (bs : List Block) (s u : State) : Prop := u.pending = s.pending ∧ ∀ b, b ∉ bs → SameBlock s u b

theorem forall_block {p : Block → Prop} : (∀ b, p b) ↔
    p .lines ∧ p .clock ∧ p .start ∧ p .seq ∧ p .testRec ∧ p .follow ∧ p .travel ∧ p .pair ∧ p .load ∧ p .ext ∧ p .link
      ∧ p .budget ∧ p .stop ∧ p .recorder := by
  refine ⟨fun h => ⟨h _, h _, h _, h _, h _, h _, h _, h _, h _, h _, h _, h _, h _, h _⟩, ?_⟩
  rintro ⟨h1, h2, h3, h4, h5, h6, h7, h8, h9, h10, h11, h12, h13, h14⟩ b
  cases b <;> assumption

/-- R45, R133: what a command does before its end it leaves at its end, but for the drive port and the pending
STATUS. -/
theorem blockKept_finish {s u : State} {b : Block} (h : SameBlock s u b) (hb : b = .link → u.budget = s.budget) :
    BlockKept s (finish s u) b := by
  cases b
  case travel =>
    have ht : u.travel = s.travel := h
    simp only [BlockKept, finish_travel, forced_finish, ht]
    by_cases hf : forced u = true
    · exact .inr ⟨hf, by rw [if_pos hf]⟩
    · exact .inl (by rw [if_neg hf])
  case link =>
    have hl : u.link = s.link := h
    have hsame : finish s u = forceZero u := by rw [finish, rebuildStatus_same _ _ (hb rfl)]
    simpa [BlockKept, hsame] using hl
  all_goals simpa [BlockKept, SameBlock] using h

/-- R133: only a command that may change the link may change the budget unit. -/
theorem budget_notMem_mayChange {c : Instr} (h : Block.link ∉ mayChange c) : Block.budget ∉ mayChange c := by
  cases c <;> simp [mayChange, reportBlocks] at h ⊢

/-- R133: the STATUS that waits after a command that changed the budget is that of the new state. -/
theorem finish_status_fresh {s u : State} (h : budgetChanged s (finish s u) = true) :
    (finish s u).link.status = none ∨ (finish s u).link.status = some (buildStatus (finish s u)) := by
  have hc : budgetChanged s u = true := by simpa [budgetChanged] using h
  rw [finish_status, if_pos hc, buildStatus_finish]
  cases u.link.status <;> simp

theorem FramedBy.trans {bs : List Block} {s u w : State} (h : FramedBy bs s u) (hw : FramedBy bs u w) :
    FramedBy bs s w := by
  obtain ⟨hp, hb⟩ := h
  obtain ⟨hp', hb'⟩ := hw
  refine ⟨hp'.trans hp, fun b hn => ?_⟩
  have hu := hb b hn
  have hw := hb' b hn
  cases b <;> exact Eq.trans hw hu

/-- R125: what the content of a frame leaves, its reception leaves, but for the blocks of a report. -/
theorem framedBy_receive {bs : List Block} (f : RxFrame) {act : State → State} (hact : ∀ t, FramedBy bs t (act t))
    (hbs : reportBlocks ⊆ bs) (s : State) : FramedBy bs s (receive f act s) := by
  refine ⟨receive_pending f act (fun t => (hact t).1) s, fun b hb => ?_⟩
  cases b
  case lines => exact receive_lines f act (fun t => (hact t).2 _ hb) s
  case clock => exact receive_clock f act (fun t => (hact t).2 _ hb) s
  case start => exact receive_start f act (fun t => (hact t).2 _ hb) s
  case travel => exact receive_travel f act (fun t => (hact t).2 _ hb) s
  case pair => exact receive_pair f act (fun t => (hact t).2 _ hb) s
  all_goals exact absurd (hbs (by decide)) hb

/-- R125: a frame may be one with the own number, and so a fault report. -/
theorem reportBlocks_subset_mayChange {c : Instr} {f : RxFrame} (h : frameOf c = some f) :
    reportBlocks ⊆ mayChange c := by
  cases c
  case grantFrame | stopFrame | statusFrame | reportFrame | abort | reclaim => exact List.Subset.refl _
  case levelFrame | order => exact List.subset_cons_self _ _
  case config | clear | restart => exact fun b hb => by simp [mayChange, hb]
  all_goals simp [frameOf] at h

/-- R126, R127: the blocks that the content of a frame leaves. -/
theorem framedBy_frameAct {c : Instr} {f : RxFrame} (h : frameOf c = some f) (t : State) :
    FramedBy (mayChange c) t (frameAct c t) := by
  rw [FramedBy, forall_block]
  cases c
  case grantFrame | levelFrame | stopFrame | statusFrame | reportFrame | config | order | abort | clear | restart |
      reclaim =>
    simp [mayChange, reportBlocks, SameBlock, frameAct]
  all_goals simp [frameOf] at h

theorem framedBy_reportedLines (c : Instr) (s : State) :
    FramedBy (mayChange c) s (s.setLines (reportedLines c s.lines)) := by
  rw [FramedBy, forall_block]
  cases c <;> simp [mayChange, reportBlocks, SameBlock, reportedLines]

theorem framedBy_sampleTick (lines : Lines) (s : State) :
    FramedBy (mayChange (.sampleTick lines)) s (sampleTick lines s) := by
  have hpending : (sampleTick lines s).pending = s.pending := by
    rw [sampleTick_proj (·.pending) (by simp) (by simp) (by simp) (by simp) (by simp)]
    simp
  rw [FramedBy, forall_block]
  simp [mayChange, reportBlocks, hpending]

/-- Table 1: what a command does before its end leaves the blocks that it may not change. -/
theorem exec_framed (c : Instr) (s : State) : ∃ u, exec c s = .next (finish s u) ∧ FramedBy (mayChange c) s u := by
  by_cases hf : ∃ f, frameOf c = some f
  · obtain ⟨f, hf⟩ := hf
    exact ⟨_, exec_frame hf s, (framedBy_reportedLines c s).trans
      (framedBy_receive f (framedBy_frameAct hf) (reportBlocks_subset_mayChange hf) _)⟩
  · cases c <;> refine ⟨_, rfl, ?_⟩
    case grantFrame | levelFrame | stopFrame | statusFrame | config | order | abort | clear | restart | reclaim =>
      exact absurd ⟨_, rfl⟩ hf
    case sampleTick lines => exact framedBy_sampleTick lines s
    all_goals rw [FramedBy, forall_block]
    case powerOnReset strap => simp [mayChange, SameBlock, powerOn]
    all_goals simp [mayChange, reportBlocks, SameBlock]

/-- Settles O2: what a command does before its end keeps the blocks that it may not change (`exec_framed`), and its end
keeps them but for the drive port (`blockKept_finish`) and builds the STATUS that waits (`finish_status_fresh`). -/
theorem everyCommandCompletesWithItsFrame : Obligations.EveryCommandCompletesWithItsFrame := by
  unfold Obligations.EveryCommandCompletesWithItsFrame
  intro c s
  obtain ⟨u, he, hpending, hblocks⟩ := exec_framed c s
  rw [he, next_iff]
  refine ⟨by simpa using hpending, fun b hb => blockKept_finish (hblocks b hb) fun hlink => ?_, finish_status_fresh⟩
  exact hblocks .budget (budget_notMem_mayChange (hlink ▸ hb))
end Sys2Proof.Proofs
end

section
namespace Sys2Proof.Proofs
open Sys2Proof.Machine Sys2Proof.Safety Sys2Proof.Laws

/-! ## The claims of the station over an operation -/

/-- R136 to R138, R148: the claims of `t` come from those of `s` by what the budget unit may do while no frame of the
station's own starts or ends: the frame in flight stays, the claim lock stays with its GRANT or is set with a pending
raise, and no GRANT is placed before CONFIG. -/
structure ClaimsFollow (s t : State) : Prop where
  sending : t.link.line = .sending ↔ s.link.line = .sending
  flight : t.link.inFlight.isSome = s.link.inFlight.isSome
  grantFlight : t.link.grantInFlight = s.link.grantInFlight
  config : t.start.config = none → s.start.config = none
  lock : t.budget.lock = true → (s.budget.lock = true ∧ t.link.grant = s.link.grant) ∨ t.link.pendingRaise = true
  grant : t.link.grant = none ∨ t.link.grant = s.link.grant ∨ t.start.config ≠ none

/-- R114, R120, R137: the lock is backed, and a frame is in flight exactly while the station is SENDING. -/
def ClaimsSound (s : State) : Prop := LockBacked s ∧ FlightSound s

namespace ClaimsFollow

variable {s t u : State}

theorem of_same (h : t.link.line = s.link.line ∧ t.link.inFlight = s.link.inFlight ∧ t.link.grant = s.link.grant
    ∧ t.budget.lock = s.budget.lock ∧ t.start.config = s.start.config) : ClaimsFollow s t := by
  obtain ⟨hline, hflight, hgrant, hlock, hconfig⟩ := h
  exact {
    sending := by rw [hline]
    flight := by rw [hflight]
    grantFlight := by simp only [Link.grantInFlight, hflight]
    config := by simp [hconfig]
    lock := fun h => .inl ⟨hlock ▸ h, hgrant⟩
    grant := .inr (.inl hgrant) }

theorem refl (s : State) : ClaimsFollow s s := .of_same ⟨rfl, rfl, rfl, rfl, rfl⟩

theorem trans (h : ClaimsFollow s t) (h' : ClaimsFollow t u) : ClaimsFollow s u where
  sending := h'.sending.trans h.sending
  flight := h'.flight.trans h.flight
  grantFlight := h'.grantFlight.trans h.grantFlight
  config := fun hu => h.config (h'.config hu)
  lock := fun hu => by
    rcases h'.lock hu with ⟨ht, hg⟩ | hr
    · rcases h.lock ht with ⟨hs, hg'⟩ | hr
      · exact .inl ⟨hs, hg.trans hg'⟩
      · exact .inr (by rwa [pendingRaise_congr hg])
    · exact .inr hr
  grant := by
    rcases h'.grant with hn | hg | hc
    · exact .inl hn
    · rw [hg]
      exact h.grant.imp_right (Or.imp_right fun ht hu => ht (h'.config hu))
    · exact .inr (.inr hc)

/-- R138: the lock is cleared, and the slot is as it was or has been emptied. -/
theorem of_released (hline : t.link.line = s.link.line) (hflight : t.link.inFlight = s.link.inFlight)
    (hgrant : t.link.grant = none ∨ t.link.grant = s.link.grant) (hlock : t.budget.lock = false)
    (hconfig : t.start.config = s.start.config) : ClaimsFollow s t where
  sending := by rw [hline]
  flight := by rw [hflight]
  grantFlight := by simp only [Link.grantInFlight, hflight]
  config := by simp [hconfig]
  lock := by simp [hlock]
  grant := hgrant.imp_right .inl

/-! ### The invariants of the claims -/

theorem keeps_sound (h : ClaimsFollow s t) (hs : ClaimsSound s) : ClaimsSound t := by
  obtain ⟨hback, hflight⟩ := hs
  refine ⟨fun hl => ?_, by rwa [FlightSound, h.flight, h.sending]⟩
  rcases h.lock hl with ⟨hl', hg⟩ | hr
  · rw [h.grantFlight, pendingRaise_congr hg]
    exact hback hl'
  · exact .inl hr

theorem keeps_noGrant (h : ClaimsFollow s t) (hs : NoGrantBeforeConfig s) : NoGrantBeforeConfig t := fun ht => by
  obtain ⟨hgrant, hflight⟩ := hs (h.config ht)
  refine ⟨?_, h.grantFlight.trans hflight⟩
  rcases h.grant with hn | hg | hc
  · exact hn
  · exact hg.trans hgrant
  · exact absurd ht hc

/-! ### The budget unit -/

theorem dropGrant (s : State) : ClaimsFollow s (dropGrant s) := .of_released rfl rfl (.inl rfl) rfl rfl

theorem clearLock (s : State) : ClaimsFollow s (clearLock s) := .of_released rfl rfl (.inr rfl) rfl rfl

/-- R137, R139: the lock that a placement sets has its raise in the slot. -/
theorem placeGrant (raise : Bool) (h : s.start.config ≠ none) : ClaimsFollow s (placeGrant raise s) where
  sending := Iff.rfl
  flight := rfl
  grantFlight := rfl
  config := id
  lock := fun hl => .inr hl
  grant := .inr (.inr h)

theorem judgeRequest (s : State) : ClaimsFollow s (judgeRequest s) := by
  unfold Machine.judgeRequest
  by_cases hc : s.configured = true
  · have hconf := (configured_iff s).1 hc
    split_ifs
    · exact refl s
    · exact dropGrant s
    · exact absurd hc (by simp_all)
    · exact placeGrant false hconf
    · exact placeGrant true hconf
    · exact dropGrant s
  · split_ifs
    · exact refl s
    · exact dropGrant s
    · exact dropGrant s
    all_goals simp_all

theorem rejudge (s : State) : ClaimsFollow s (rejudge s) := by
  unfold Machine.rejudge
  split
  · exact refl s
  · exact judgeRequest s

/-- R136: a judgment after the budget unit has changed beside its lock. -/
theorem judgeBudget {b : Budget} (h : b.lock = s.budget.lock) : ClaimsFollow s (Machine.judgeRequest (s.setBudget b)) :=
  .trans (.of_same (t := s.setBudget b) ⟨rfl, rfl, rfl, h, rfl⟩) (judgeRequest _)

theorem requestUnits (n : Nat) (reason : GrantReason) (s : State) : ClaimsFollow s (requestUnits n reason s) :=
  judgeBudget rfl

theorem withdrawRaise (s : State) : ClaimsFollow s (withdrawRaise s) := judgeBudget rfl

theorem enterStale (s : State) : ClaimsFollow s (enterStale s) := by
  unfold Machine.enterStale
  split
  · refine .of_released rfl rfl ?_ rfl rfl
    cases hr : s.link.pendingRaise with
    | true => exact .inl rfl
    | false => exact .inr rfl
  · exact refl s

theorem judgeHeader (epoch : Byte) (inStep : Bool) (s : State) : ClaimsFollow s (judgeHeader epoch inStep s) := by
  have hheard : ClaimsFollow s (s.setBudget { s.budget with lastHeard := epoch }) := .of_same (by simp)
  unfold Machine.judgeHeader
  dsimp only
  split
  · exact hheard.trans (enterStale _)
  · exact hheard

theorem applyGrant (n units : Nat) (epoch : Byte) (s : State) : ClaimsFollow s (applyGrant n units epoch s) := by
  unfold Machine.applyGrant
  split
  · exact .of_same ⟨rfl, rfl, rfl, rfl, rfl⟩
  · exact enterStale s

theorem hearGrant (n units : Nat) (epoch : Byte) (s : State) : ClaimsFollow s (hearGrant n units epoch s) :=
  (applyGrant n units epoch s).trans ((clearLock _).trans (rejudge _))

theorem recover (entries : List Nat) (epoch : Byte) (s : State) : ClaimsFollow s (recover entries epoch s) := by
  have hadopt : ClaimsFollow s (adopt entries epoch s) := judgeBudget rfl
  unfold Machine.recover
  dsimp only
  split
  · exact hadopt.trans (.of_same (by simp))
  · exact hadopt

theorem coldStartDue (s : State) : ClaimsFollow s (coldStartDue s) := by
  unfold Machine.coldStartDue Machine.coldStart
  split_ifs
  · exact judgeBudget rfl
  · exact refl s
  · exact refl s

/-! ### The handling and the reports of a sample -/

theorem of_write {opens measures : Prop} (h : SampleWrite opens measures s t) : ClaimsFollow s t := by
  cases h with
  | requested n reason => exact requestUnits n reason s
  | withdrawn => exact withdrawRaise s
  | noticed k => exact .of_same (by simp)
  | collected => exact .of_same (by simp)
  | closed => exact .of_same (by simp)
  | noted g => exact .of_same (by simp)
  | measuring => exact .of_same (by simp)
  | opened => exact .of_same (by simp)
  | _ => exact .of_same ⟨rfl, rfl, rfl, rfl, rfl⟩

theorem of_run (h : SampleRun True True s t) : ClaimsFollow s t := by
  induction h with
  | refl => exact refl s
  | tail _ hst ih => exact ih.trans (of_write hst)

theorem report (c : FaultCause) (s : State) : ClaimsFollow s (report c s) := .of_run (SampleRun.report c)

theorem setLatch (s : State) : ClaimsFollow s (setLatch s) := .of_run SampleRun.setLatch

theorem pairSample (r : SampleRec) (s : State) : ClaimsFollow s (pairSample r s) := by
  unfold Machine.pairSample
  split
  · refine .trans (t := computeSkew r s) (.of_same (by simp))
      (.trans ?_ (.of_same (s := judgeAlarm (computeSkew r s)) (by simp)))
    unfold judgeAlarm
    split_ifs
    · exact refl _
    · exact .of_same (by simp)
    · exact .of_same (by simp)
    · exact refl _
  · exact refl s

theorem takenSample (v : LoadView) (s : State) : ClaimsFollow s (takenSample v s) := by
  have hcompleted : ClaimsFollow s (completeLoad v s) := by
    unfold completeLoad detectorNotices
    dsimp only
    split_ifs <;> exact .of_same (by simp)
  refine .trans ?_ (pairSample _ _)
  refine .trans ?_ (.of_same (s := takeMeasured v.record (completeLoad v s)) (by simp))
  refine hcompleted.trans ?_
  unfold takeMeasured
  split
  · exact .of_same (by simp)
  · exact refl _

theorem completeSample (reading : Int) (strain : Option Int) (s : State) :
    ClaimsFollow s (completeSample reading strain s) := by
  obtain ⟨n, hn⟩ := drawCheck_draws (Safety.takenSample (loadView reading strain s) s)
  have hdrawn : ClaimsFollow s (drawCheck (Safety.takenSample (loadView reading strain s) s)).2 :=
    hn ▸ (takenSample _ s).trans (.of_same ⟨rfl, rfl, rfl, rfl, rfl⟩)
  have hhanded := SampleRun.handSample (measures := True) (drawCheck (Safety.takenSample (loadView reading strain s) s)).1
    ((loadView reading strain s).yieldStep == .limit)
    { reading := strain.getD 0, peak := s.load.peak, inSpan := s.load.spanOpen }
    (loadView reading strain s).record (s := (drawCheck (Safety.takenSample (loadView reading strain s) s)).2)
  exact hdrawn.trans ((of_run (hhanded.mono (fun _ => trivial) id)).trans
    (of_run ((SampleRun.moveSample _ _ _).mono id fun _ => trivial)))

theorem loadConversionEnd (reading : Int) (s : State) : ClaimsFollow s (loadConversionEnd reading s) := by
  unfold Machine.loadConversionEnd
  split_ifs
  · exact .of_same ⟨rfl, rfl, rfl, rfl, rfl⟩
  · exact completeSample _ _ s
  · exact refl s

theorem strainConversionEnd (reading : Int) (s : State) : ClaimsFollow s (strainConversionEnd reading s) := by
  unfold Machine.strainConversionEnd
  split
  · split
    · exact refl s
    · refine .trans ?_ (completeSample _ _ _)
      unfold countSettling
      split
      · exact .of_same (by simp)
      · exact refl s
  · exact refl s

end ClaimsFollow
end Sys2Proof.Proofs
end

section
namespace Sys2Proof.Proofs
open Sys2Proof.Machine Sys2Proof.Safety Sys2Proof.Laws

namespace ClaimsFollow

variable {s t : State}

/-! ## The claims over the other events -/

theorem rangeDown (s : State) : ClaimsFollow s (rangeDown s) := .of_same (by simp)

theorem idleFollow (s : State) : ClaimsFollow s (idleFollow s) :=
  .trans (t := Machine.restFollow s) (.of_same (by simp)) (requestUnits _ _ _)

theorem followLossExpired (s : State) : ClaimsFollow s (followLossExpired s) := by
  unfold Machine.followLossExpired
  split
  · exact idleFollow s
  · exact refl s

theorem holdExpired (s : State) : ClaimsFollow s (holdExpired s) := by
  unfold Machine.holdExpired
  split
  · exact report _ s
  · exact refl s

theorem budgetExpired (s : State) : ClaimsFollow s (budgetExpired s) := by
  unfold Machine.budgetExpired
  split
  · exact report _ s
  · exact refl s

theorem endingExpired (s : State) : ClaimsFollow s (endingExpired s) := by
  unfold Machine.endingExpired
  split
  · exact report _ s
  · exact refl s

theorem settled (s : State) : ClaimsFollow s (settled s) := by
  unfold Machine.settled
  split
  · exact .trans (t := enterMeasuring s) (.of_same (by simp)) (.of_run SampleRun.reportMeasuring)
  · exact refl s

theorem tareJudged (s : State) : ClaimsFollow s (tareJudged s) := .of_run SampleRun.tareJudged

/-! ### The arm -/

theorem failAttach (k : ExtEventKind) (code : Nat) (c : FaultCause) (s : State) :
    ClaimsFollow s (failAttach k code c s) := by
  unfold Machine.failAttach attachEvent
  refine .trans (t := s.setExt s.ext.opening) (.of_same (by simp)) ?_
  split_ifs
  · exact .trans (.of_same (by simp)) (.of_run SampleRun.enterClaiming)
  · exact report c _
  · exact refl _

theorem seatFound (s : State) : ClaimsFollow s (seatFound s) := .of_same (by simp)

theorem armOut (s : State) : ClaimsFollow s (armOut s) := .of_same (by simp)

theorem seatLost (s : State) : ClaimsFollow s (seatLost s) := by
  unfold Machine.seatLost
  split
  · exact failAttach _ _ _ s
  · exact failAttach _ _ _ s
  · exact .of_run (SampleRun.switchover _)
  · exact refl s

theorem closeExpired (s : State) : ClaimsFollow s (closeExpired s) := by
  unfold Machine.closeExpired
  split
  · exact failAttach _ _ _ s
  · exact refl s

theorem identExpired (s : State) : ClaimsFollow s (identExpired s) := by
  unfold Machine.identExpired
  split
  · exact failAttach _ _ _ s
  · exact refl s

theorem openExpired (s : State) : ClaimsFollow s (openExpired s) := by
  unfold Machine.openExpired
  dsimp only
  split
  · refine .trans (t := s.setExt { s.ext with state := .jammed, openTimer := none, attachWaits := false })
      (.of_same (by simp)) ?_
    split
    · split
      · exact report _ _
      · exact refl _
    · exact refl _
  · exact refl s

theorem examineWord (w : BitVec 32) (s : State) : ClaimsFollow s (examineWord w s) := by
  have hwritten : ClaimsFollow s (writeIdRec w s) := .of_same (by simp)
  unfold Machine.examineWord
  split_ifs
  · exact failAttach _ _ _ s
  · exact hwritten.trans (failAttach _ _ _ _)
  · exact hwritten.trans (failAttach _ _ _ _)
  · exact hwritten.trans (.of_same (by simp))
  · exact refl s

/-! ### Start-up, the tick and the passing of time -/

theorem setLink {l : Link} (hline : l.line = s.link.line) (hflight : l.inFlight = s.link.inFlight)
    (hgrant : l.grant = s.link.grant) : ClaimsFollow s (s.setLink l) := .of_same ⟨hline, hflight, hgrant, rfl, rfl⟩

theorem placeStatus (s : State) : ClaimsFollow s (placeStatus s) := setLink rfl rfl rfl

theorem latchIfLow (s : State) : ClaimsFollow s (latchIfLow s) := by
  unfold Machine.latchIfLow
  split
  · exact setLatch s
  · exact refl s

theorem startIntervalEnd (lines : Lines) (s : State) : ClaimsFollow s (startIntervalEnd lines s) := by
  unfold Machine.startIntervalEnd
  dsimp only
  split
  · exact .of_same (by simp)
  · refine .trans ?_ (placeStatus _)
    refine .trans ?_ (setLink rfl rfl rfl)
    refine .trans ?_ (latchIfLow _)
    exact .of_same ⟨rfl, rfl, rfl, rfl, rfl⟩

theorem acceptConfig (c : Settings) (s : State) : ClaimsFollow s (acceptConfig c s) where
  sending := by simp [Machine.acceptConfig]
  flight := by simp [Machine.acceptConfig]
  grantFlight := by simp [Machine.acceptConfig, Link.grantInFlight]
  config := by simp [Machine.acceptConfig]
  lock := by simp [Machine.acceptConfig]; tauto
  grant := by simp [Machine.acceptConfig]

theorem takeConfig (payload : List Byte) (s : State) : ClaimsFollow s (takeConfig payload s) := by
  unfold Machine.takeConfig
  split
  · exact .of_same (by simp)
  · split
    · exact .of_same (by simp)
    · exact acceptConfig _ s

theorem takeStep (due : Bool) {act : State → State} (h : ∀ t, ClaimsFollow t (act t)) (s : State) :
    ClaimsFollow s (takeStep due act s) := by
  unfold Machine.takeStep
  split
  · exact (h s).trans (.of_same (by simp))
  · exact refl s

theorem dropMember (n : Nat) (s : State) : ClaimsFollow s (dropMember n s) := by
  unfold Machine.dropMember
  split_ifs
  · exact setLink rfl rfl rfl
  · exact refl s
  · exact refl s

theorem dropMembers (s : State) : ClaimsFollow s (dropMembers s) := by
  have hfold : ∀ (ns : List Nat) (t : State), ClaimsFollow t (ns.foldl (fun u n => Machine.dropMember n u) t) := by
    intro ns
    induction ns with
    | nil => exact refl
    | cons n ns ih => exact fun t => (dropMember n t).trans (ih _)
  exact hfold _ s

theorem settleTimers (s : State) : ClaimsFollow s (settleTimers s) :=
  (takeStep _ (fun t => startIntervalEnd _ t) s).trans ((takeStep _ closeExpired _).trans
    ((takeStep _ identExpired _).trans (takeStep _ openExpired _)))

theorem settleLines (s : State) : ClaimsFollow s (settleLines s) :=
  (takeStep _ seatFound s).trans ((takeStep _ seatLost _).trans (takeStep _ armOut _))

theorem settleCounts (s : State) : ClaimsFollow s (settleCounts s) :=
  takeStep _ (fun t => .trans (t := Machine.partnerLost (Machine.gateClose t)) (.of_same (by simp))
    ((dropMembers _).trans ((coldStartDue _).trans (.of_same (by simp))))) s

theorem settleSample (s : State) : ClaimsFollow s (settleSample s) :=
  takeStep _ (fun t => .trans (t := Machine.rangeDown (Machine.rangeSettled t)) (.of_same (by simp))
    ((tareJudged _).trans (.trans (t := Machine.takeGripsLow _) (.of_same (by simp)) (settled _)))) s

theorem settleTimeouts (s : State) : ClaimsFollow s (settleTimeouts s) :=
  takeStep _ (fun t => (holdExpired t).trans ((budgetExpired _).trans ((endingExpired _).trans
    (followLossExpired _)))) s

theorem levelTimer (s : State) : ClaimsFollow s (levelTimer s) := by
  unfold Machine.levelTimer placeLevel
  split
  · exact .of_same (by simp)
  · exact refl s

theorem statusTimer (s : State) : ClaimsFollow s (statusTimer s) := by
  unfold Machine.statusTimer
  split
  · exact .trans (t := s.setLink { s.link with statusTimer := some 0 }) (setLink rfl rfl rfl) (placeStatus _)
  · exact refl s

theorem settleAll (s : State) : ClaimsFollow s (settleAll s) :=
  (settleTimers s).trans ((settleCounts _).trans ((settleSample _).trans ((settleTimeouts _).trans
    ((settleLines _).trans ((levelTimer _).trans (statusTimer _))))))

theorem tickAges (s : State) : ClaimsFollow s (tickAges s) := by
  unfold Machine.tickAges Link.agePresence
  split <;> exact .of_same (by simp)

theorem examineAmplifier (s : State) : ClaimsFollow s (examineAmplifier s) := by
  unfold Machine.examineAmplifier
  split
  · exact .trans (.of_same (by simp)) (report _ _)
  · exact refl s

theorem sampleTick (lines : Lines) (s : State) : ClaimsFollow s (sampleTick lines s) := by
  have hcore : ClaimsFollow s (tickCore ((Machine.settleAll s).setLines lines)) :=
    (settleAll s).trans (.of_same (by simp))
  unfold Machine.sampleTick
  dsimp only
  split
  · exact hcore
  · exact hcore.trans ((tickAges _).trans (.trans (.of_same (by simp)) (examineAmplifier _)))

theorem passBitTime (s : State) : ClaimsFollow s (passBitTime s) :=
  .of_same (by rw [passBitTime_link]; simp)

/-! ### The line and received frames -/

theorem startBitSensed (s : State) : ClaimsFollow s (startBitSensed s) := by
  unfold Machine.startBitSensed
  split
  · rename_i hq
    exact ⟨by simp [hq], rfl, rfl, id, fun h => .inl ⟨h, rfl⟩, .inr (.inl rfl)⟩
  · exact refl s

/-- R114: the end of a reception, which no station that is SENDING comes to. -/
theorem endReception (h : s.link.line ≠ .sending) : ClaimsFollow s (s.setLink s.link.endReception) :=
  ⟨by simp [h], rfl, rfl, id, fun h => .inl ⟨h, rfl⟩, .inr (.inl rfl)⟩

theorem lineIdle (s : State) : ClaimsFollow s (lineIdle s) := by
  unfold Machine.lineIdle
  split
  · rename_i hr
    exact endReception (by simp [hr.1])
  · exact refl s

theorem notSending_of_takes (h : s.link.takes = true) : s.link.line ≠ .sending := by
  rintro hs
  simp [Link.takes, hs] at h

theorem receiveError (x : Taken) (s : State) : ClaimsFollow s (receiveError x s) := by
  unfold Machine.receiveError
  dsimp only
  split
  · rename_i htakes
    have hended := endReception (notSending_of_takes htakes)
    split
    · exact hended
    · refine hended.trans (.trans ?_ (enterStale _))
      cases judgeTaken x <;> exact .of_same ⟨rfl, rfl, rfl, rfl, rfl⟩
  · exact refl s

theorem receive (f : RxFrame) {act : State → State} (h : ∀ t, ClaimsFollow t (act t)) (s : State) :
    ClaimsFollow s (receive f act s) := by
  unfold Machine.receive examineHeader dispatchFrame
  dsimp only
  split
  · rename_i htakes
    have hended := endReception (notSending_of_takes htakes)
    split_ifs
    · exact hended
    · exact hended
    · exact hended.trans (report _ _)
    · exact hended.trans (.trans (.of_same (by simp)) ((judgeHeader _ _ _).trans (h _)))
  · exact refl s

theorem grantAct (f : RxFrame) (s : State) : ClaimsFollow s (grantAct f s) := by
  unfold Machine.grantAct
  split
  · split
    · exact hearGrant _ _ _ s
    · exact refl s
  · exact refl s

theorem statusAct (f : RxFrame) (s : State) : ClaimsFollow s (statusAct f s) := by
  unfold Machine.statusAct
  split
  · exact refl s
  · split
    · exact report _ s
    · split
      · exact refl s
      · split
        · exact recover _ _ s
        · exact refl s

theorem grantInFlight_congr {l m : Link} (h : m.inFlight = l.inFlight) : m.grantInFlight = l.grantInFlight := by
  simp only [Link.grantInFlight, h]

/-- R124, R166: a frame that is disowned is the same frame. -/
theorem grantInFlight_disown (l : Link) (p : OutFrame → Bool) (curve : Option Curve) :
    { l with curve, inFlight := l.disown p }.grantInFlight = l.grantInFlight := by
  unfold Link.grantInFlight Link.disown
  cases h : l.inFlight with
  | none => rfl
  | some i =>
    obtain ⟨frame, epoch, inStep, disowned⟩ := i
    cases frame <;> rfl

theorem acceptOrder (o : Order) (s : State) : ClaimsFollow s (acceptOrder o s) := by
  refine .trans (t := s.setLink { s.link with
    curve := none, inFlight := s.link.disown fun f => match f with | .curve _ => true | _ => false }) ?_ ?_
  · exact ⟨Iff.rfl, by simp [Link.disown], grantInFlight_disown _ _ _, id, fun h => .inl ⟨h, rfl⟩, .inr (.inl rfl)⟩
  · unfold Machine.acceptOrder
    exact .of_same (by simp <;> rfl)

theorem takeOrder (payload : List Byte) (s : State) : ClaimsFollow s (takeOrder payload s) := by
  unfold Machine.takeOrder
  split
  · exact .of_same (by simp)
  · split
    · exact .of_same (by simp)
    · exact acceptOrder _ s

theorem abortTest (s : State) : ClaimsFollow s (abortTest s) := by
  unfold Machine.abortTest
  split_ifs
  · exact refl s
  · exact .trans (t := abandonTare s) (.of_same (by simp)) (.of_run (SampleRun.enterEnding _ _))
  · exact .trans (.of_same (by simp)) (.of_run (SampleRun.enterEnding _ _))
  · exact refl s

theorem releasePort (s : State) : ClaimsFollow s (releasePort s) := by
  unfold Machine.releasePort
  split_ifs
  · exact report _ s
  · exact .of_same (by simp)
  · exact refl s

theorem clearStation (s : State) : ClaimsFollow s (clearStation s) := by
  have hstop : ClaimsFollow s (clearStop s) := by
    unfold clearStop
    dsimp only
    split
    · have hcleared : ClaimsFollow s (s.setStop { s.stop with record := none, further := 0, driving := false }) :=
        .of_same (by simp)
      exact (hcleared.trans (setLatch _)).trans (.of_same (by simp))
    · exact .of_same (by simp)
  exact hstop.trans (.trans (t := freshChecks (freeArm (clearSequencer (clearStop s))))
    (.of_same (by simp)) (releasePort _))

/-- R128, R147: the slot is emptied and the lock cleared before the units are given back. -/
theorem restartStation (s : State) : ClaimsFollow s (restartStation s) := by
  rw [restartStation_eq]
  refine .trans ?_ (releasePort _)
  refine .trans ?_ (requestUnits _ _ _)
  have hline : s.link.restart.line = s.link.line := rfl
  refine ⟨by simp [hline], by simp, .trans (grantInFlight_congr ?_) (grantInFlight_restart s.link), by simp,
    by simp [Machine.clearLock], by simp⟩
  simp

theorem loseUnits (s : State) : ClaimsFollow s (loseUnits s) := by
  have hdropped : ClaimsFollow s ((Machine.dropGrant (s.setBudget { s.budget with
      requested := 0, reason := .release })).setFollow
        { (Machine.dropGrant (s.setBudget { s.budget with requested := 0, reason := .release })).follow with
          asked := 0 }) := .of_released rfl rfl (.inl rfl) rfl rfl
  unfold Machine.loseUnits
  dsimp only
  split
  · exact hdropped.trans (report _ _)
  · exact hdropped

theorem reclaimNode (n : Nat) (epoch : Byte) (s : State) : ClaimsFollow s (reclaimNode n epoch s) := by
  have hcleared : ClaimsFollow s (Machine.clearLock (applyEntry n 0 epoch s)) :=
    .of_released rfl rfl (.inr rfl) rfl rfl
  unfold Machine.reclaimNode
  dsimp only
  split_ifs
  · exact hcleared.trans (loseUnits _)
  · exact hcleared.trans (rejudge _)
  · exact refl s

theorem reclaimAct (f : RxFrame) (s : State) : ClaimsFollow s (reclaimAct f s) := by
  unfold Machine.reclaimAct
  split
  · split
    · exact reclaimNode _ _ s
    · exact refl s
  · exact refl s

theorem frameAct {c : Instr} {f : RxFrame} (h : frameOf c = some f) (s : State) : ClaimsFollow s (frameAct c s) := by
  have hcond : ∀ (b : Prop) [Decidable b] (t : State), ClaimsFollow s t → ClaimsFollow s (if b then t else s) := by
    intro b _ t ht
    split
    · exact ht
    · exact refl s
  cases c
  case grantFrame g => exact grantAct g s
  case levelFrame g => exact .of_same (t := levelAct g s) (by simp)
  case stopFrame => exact setLatch s
  case statusFrame g => exact statusAct g s
  case reportFrame => exact refl s
  case config g => exact hcond _ _ (takeConfig _ s)
  case order g => exact hcond _ _ (takeOrder _ s)
  case abort g => exact hcond _ _ (abortTest s)
  case clear g _ => exact hcond _ _ (clearStation s)
  case restart g _ => exact hcond _ _ (restartStation s)
  case reclaim g => exact reclaimAct g s
  all_goals simp [frameOf] at h

end ClaimsFollow
end Sys2Proof.Proofs
end

section
namespace Sys2Proof.Proofs
open Sys2Proof.Machine Sys2Proof.Safety Sys2Proof.Laws

/-! ## The claims while a frame of the station's own starts or ends -/

/-- R117, R120: a GRANT that the arbiter has chosen is the one that waits. -/
theorem grant_of_chosen {s : State} {level : Nat} {g : GrantFrame} (h : arbiterChoice s = some (level, .grant g)) :
    s.link.grant = some g := by
  obtain ⟨k, -, hk⟩ := List.exists_of_findSome?_eq_some h
  split at hk
  · have hp : pendingFrame s k = some (.grant g) := by
      cases hp : pendingFrame s k <;> simp_all
    unfold pendingFrame at hp
    split at hp <;> simp_all
  · simp at hk

theorem grantInFlight_of_none {l : Link} (h : l.inFlight = none) : l.grantInFlight = none := by
  simp [Link.grantInFlight, h]

theorem grantInFlight_of_other {l : Link} {i : InFlight} (h : l.inFlight = some i) (hi : ∀ g, i.frame ≠ .grant g) :
    l.grantInFlight = none := by
  obtain ⟨frame, epoch, inStep, disowned⟩ := i
  unfold Link.grantInFlight
  rw [h]
  cases frame <;> simp_all

theorem leaveSlot_grant {x : OutFrame} (l : Link) (h : ∀ g, x ≠ .grant g) : (l.leaveSlot x).grant = l.grant := by
  cases x <;> simp_all [Link.leaveSlot]

/-- R118: what the arbiter does: nothing to the claims, the withdrawal of a raise without its lock, or the start of a
frame. -/
theorem frameStart_cases (quiet : Nat) (s : State) :
    ClaimsFollow s (frameStart quiet s)
      ∨ (s.link.line = .quiet ∧ ∃ level x, arbiterChoice (waited quiet s) = some (level, x)
          ∧ frameStart quiet s = startFrame x (waited quiet s)) := by
  have hwaited : ClaimsFollow s (waited quiet s) := .setLink rfl rfl rfl
  by_cases hq : s.link.line = .quiet
  · rw [frameStart_quiet quiet hq, arbitrate]
    split
    · exact .inl hwaited
    · rename_i level x hx
      split_ifs with hw hl
      · obtain ⟨g, -, -, hlock⟩ := (lockRefuses_iff _ _).1 hl
        have hdropped : ClaimsFollow (waited quiet s)
            ((waited quiet s).setLink { (waited quiet s).link with grant := none }) :=
          .of_released rfl rfl (.inl rfl) hlock rfl
        exact .inl (hwaited.trans (hdropped.trans (.judgeRequest _)))
      · exact .inr ⟨hq, level, x, hx, rfl⟩
      · exact .inl hwaited
  · rw [frameStart, if_neg hq]
    exact .inl (.refl s)

/-- R114, R120, R137: a raise that starts takes its claim with it into flight, and another frame leaves it waiting. -/
theorem startFrame_lockBacked {quiet level : Nat} {x : OutFrame} {s : State}
    (hx : arbiterChoice (waited quiet s) = some (level, x)) (hn : s.link.inFlight = none) (h : LockBacked s) :
    LockBacked (startFrame x (waited quiet s)) := fun hl => by
  have hraise : s.link.pendingRaise = true :=
    (h hl).resolve_right fun ⟨g, hg, _⟩ => by simp [grantInFlight_of_none hn] at hg
  by_cases hg : ∃ g, x = .grant g
  · obtain ⟨g, rfl⟩ := hg
    have hpending : s.link.grant = some g := grant_of_chosen hx
    exact .inr ⟨g, rfl, by simpa [Link.pendingRaise, hpending] using hraise⟩
  · push Not at hg
    have hkept : (startFrame x (waited quiet s)).link.grant = s.link.grant := leaveSlot_grant _ hg
    exact .inl (by rwa [pendingRaise_congr hkept])

theorem startFrame_noGrant {quiet level : Nat} {x : OutFrame} {s : State}
    (hx : arbiterChoice (waited quiet s) = some (level, x)) (h : NoGrantBeforeConfig s) :
    NoGrantBeforeConfig (startFrame x (waited quiet s)) := fun hc => by
  obtain ⟨hgrant, -⟩ := h hc
  have hother : ∀ g, x ≠ .grant g := by
    rintro g rfl
    have hpending : s.link.grant = some g := grant_of_chosen hx
    simp [hgrant] at hpending
  exact ⟨(leaveSlot_grant _ hother).trans hgrant, grantInFlight_of_other rfl hother⟩

theorem frameStart_sound (quiet : Nat) {s : State} (h : ClaimsSound s) : ClaimsSound (frameStart quiet s) := by
  rcases frameStart_cases quiet s with hfollow | ⟨hq, level, x, hx, he⟩
  · exact hfollow.keeps_sound h
  · obtain ⟨hl, hf⟩ := h
    have hn : s.link.inFlight = none := by
      simpa [FlightSound, hq] using hf
    rw [he]
    exact ⟨startFrame_lockBacked hx hn hl, by simp [FlightSound, startFrame]⟩

theorem frameStart_noGrant (quiet : Nat) {s : State} (h : NoGrantBeforeConfig s) :
    NoGrantBeforeConfig (frameStart quiet s) := by
  rcases frameStart_cases quiet s with hfollow | ⟨-, level, x, hx, he⟩
  · exact hfollow.keeps_noGrant h
  · rw [he]
    exact startFrame_noGrant hx h

/-! ### The end of an own frame -/

/-- R137: the end of a frame that is no GRANT leaves the lock with the raise that waits. -/
theorem claimsSound_ended {l : Link} {i : InFlight} {s : State} (hi : s.link.inFlight = some i)
    (hframe : ∀ g, i.frame ≠ .grant g) (hgrant : l.grant = s.link.grant) (hn : l.inFlight = none)
    (hline : l.line ≠ .sending) (h : LockBacked s) : ClaimsSound (s.setLink l) := by
  refine ⟨fun hl => ?_, by simp [FlightSound, hn, hline]⟩
  rcases h hl with hr | ⟨g, hg, -⟩
  · exact .inl ((pendingRaise_congr hgrant).trans hr)
  · simp [grantInFlight_of_other hi hframe] at hg

/-- R140: with its lock cleared a unit without a frame in flight has no claim to back. -/
theorem claimsSound_cleared {s : State} (hn : s.link.inFlight = none) (hline : s.link.line ≠ .sending) :
    ClaimsSound (clearLock s) :=
  ⟨fun hl => by simp [clearLock] at hl, by simp [FlightSound, clearLock, hn, hline]⟩

theorem ClaimsFollow.reportCompletion (i : InFlight) (s : State) : ClaimsFollow s (reportCompletion i s) := by
  unfold Machine.reportCompletion
  split
  iterate 3 exact .refl s
  · exact (applyGrant _ _ _ s).trans ((clearLock _).trans (judgeRequest _))
  · unfold noticeSent
    split_ifs
    · exact .refl s
    · exact .of_same (by simp)
    · exact .of_same (by simp)
  · exact .of_same (by simp)
  · exact .of_same (by simp)

theorem ClaimsFollow.reportAbandonment (i : InFlight) (s : State) : ClaimsFollow s (reportAbandonment i s) := by
  by_cases hg : ∃ g, i.frame = .grant g
  · obtain ⟨g, hg⟩ := hg
    rw [reportAbandonment_grant s hg]
    exact (clearLock s).trans (judgeRequest _)
  · push Not at hg
    obtain ⟨hline, -, hflight, -⟩ := returnFrame_fields s.link i
    rw [reportAbandonment_returns s hg]
    refine .setLink hline hflight ?_
    unfold Link.returnFrame
    split <;> (try split) <;> rfl

theorem frameComplete_sound {s : State} (h : ClaimsSound s) : ClaimsSound (frameComplete s) := by
  by_cases hs : s.link.line = .sending
  · cases hi : s.link.inFlight with
    | none => rwa [frameComplete, if_pos hs, hi]
    | some i =>
      rw [frameComplete_sending hs hi]
      by_cases hg : ∃ g, i.frame = .grant g
      · obtain ⟨g, hg⟩ := hg
        rw [reportCompletion_grant _ hg]
        exact (ClaimsFollow.judgeRequest _).keeps_sound (claimsSound_cleared (by simp [sentState]) (by simp [sentState]))
      · push Not at hg
        exact (ClaimsFollow.reportCompletion i _).keeps_sound
          (claimsSound_ended hi hg rfl rfl (by simp) h.1)
  · rwa [frameComplete, if_neg hs]

theorem frameAbandon_sound {s : State} (h : ClaimsSound s) : ClaimsSound (frameAbandon s) := by
  by_cases hs : s.link.line = .sending
  · cases hi : s.link.inFlight with
    | none => rwa [frameAbandon, if_pos hs, hi]
    | some i =>
      rw [frameAbandon_sending hs hi]
      by_cases hg : ∃ g, i.frame = .grant g
      · obtain ⟨g, hg⟩ := hg
        rw [reportAbandonment_grant _ hg]
        exact (ClaimsFollow.judgeRequest _).keeps_sound (claimsSound_cleared rfl (by simp [abandonedState]))
      · push Not at hg
        exact (ClaimsFollow.reportAbandonment i _).keeps_sound
          (claimsSound_ended hi hg rfl rfl (by simp) h.1)
  · rwa [frameAbandon, if_neg hs]

theorem frameComplete_noGrant {s : State} (h : NoGrantBeforeConfig s) : NoGrantBeforeConfig (frameComplete s) := by
  by_cases hs : s.link.line = .sending
  · cases hi : s.link.inFlight with
    | none => rwa [frameComplete, if_pos hs, hi]
    | some i =>
      rw [frameComplete_sending hs hi]
      exact (ClaimsFollow.reportCompletion i _).keeps_noGrant fun hc => ⟨(h hc).1, rfl⟩
  · rwa [frameComplete, if_neg hs]

theorem frameAbandon_noGrant {s : State} (h : NoGrantBeforeConfig s) : NoGrantBeforeConfig (frameAbandon s) := by
  by_cases hs : s.link.line = .sending
  · cases hi : s.link.inFlight with
    | none => rwa [frameAbandon, if_pos hs, hi]
    | some i =>
      rw [frameAbandon_sending hs hi]
      exact (ClaimsFollow.reportAbandonment i _).keeps_noGrant fun hc => ⟨(h hc).1, rfl⟩
  · rwa [frameAbandon, if_neg hs]

/-! ## Every command -/

theorem ClaimsFollow.finish (old s : State) : ClaimsFollow s (finish old s) := .of_same (by simp)

/-- Every command but power-on reset and those that start and end the station's own frames leaves claims that follow
from those before it. -/
theorem exec_claimsFollow (c : Instr) (s : State) :
    ((∃ strap, c = .powerOnReset strap) ∨ (∃ quiet, c = .frameStart quiet) ∨ c = .frameComplete ∨ c = .frameAbandon)
      ∨ Next (exec c s) (ClaimsFollow s) := by
  have hfinish : ∀ {t : State}, ClaimsFollow s t → Next (.next (Machine.finish s t)) (ClaimsFollow s) :=
    fun ht => ⟨_, rfl, ht.trans (.finish s _)⟩
  by_cases hf : ∃ f, frameOf c = some f
  · obtain ⟨f, hf⟩ := hf
    rw [exec_frame hf]
    exact .inr (hfinish (.trans (t := s.setLines (reportedLines c s.lines))
      (.of_same (by simp)) (.receive f (.frameAct hf) _)))
  cases c
  case powerOnReset strap => exact .inl (.inl ⟨strap, rfl⟩)
  case frameStart quiet => exact .inl (.inr (.inl ⟨quiet, rfl⟩))
  case frameComplete => exact .inl (.inr (.inr (.inl rfl)))
  case frameAbandon => exact .inl (.inr (.inr (.inr rfl)))
  all_goals right
  case startIntervalEnd lines => exact hfinish (.startIntervalEnd lines s)
  case sampleTick lines => exact hfinish (.sampleTick lines s)
  case gateClose => exact hfinish (.of_same (by simp))
  case encoderCount => exact hfinish (.of_same (by simp))
  case periodTimerStop => exact hfinish (.of_same (by simp))
  case loadConversionEnd x => exact hfinish (.loadConversionEnd x s)
  case strainConversionEnd x => exact hfinish (.strainConversionEnd x s)
  case rangeDown => exact hfinish (.of_same (by simp))
  case rangeSettleEnd => exact hfinish (.of_same (by simp))
  case tareAttemptJudged => exact hfinish (.tareJudged s)
  case gripsQualified => exact hfinish (.of_same (by simp))
  case holdTimeout => exact hfinish (.holdExpired s)
  case budgetTimeout => exact hfinish (.budgetExpired s)
  case endingTimeout => exact hfinish (.endingExpired s)
  case partnerLoss => exact hfinish (.of_same (by simp))
  case followLossTimeout => exact hfinish (.followLossExpired s)
  case levelTimer => exact hfinish (.levelTimer s)
  case statusTimer => exact hfinish (.statusTimer s)
  case presenceTimeout node => exact hfinish (.dropMember _ s)
  case coldStart => exact hfinish (.coldStartDue s)
  case settlingComplete => exact hfinish (.settled s)
  case armClosedHigh => exact hfinish (.trans (t := s.armClosedLine true) (.of_same (by simp)) (.seatFound _))
  case armClosedLow => exact hfinish (.trans (t := s.armClosedLine false) (.of_same (by simp)) (.seatLost _))
  case armOpenHigh => exact hfinish (.trans (t := s.armOpenLine true) (.of_same (by simp)) (.armOut _))
  case identWord w => exact hfinish (.examineWord w s)
  case extCloseTimeout => exact hfinish (.closeExpired s)
  case identTimeout => exact hfinish (.identExpired s)
  case extOpenTimeout => exact hfinish (.openExpired s)
  case stopLineFall low =>
    exact hfinish (.trans (t := s.setLines { s.lines with stopLow := low }) (.of_same (by simp)) (.setLatch _))
  case startBitSensed => exact hfinish (.startBitSensed s)
  case receiveError x => exact hfinish (.receiveError x s)
  case lineIdle => exact hfinish (.lineIdle s)
  case identStartBit => exact hfinish (.of_same (by simp))
  case reportFrame cls f =>
    refine hfinish ?_
    unfold reportFrame
    split_ifs with hk htakes
    · exact .receive f .refl s
    · exact .endReception (ClaimsFollow.notSending_of_takes htakes)
    · exact .refl s
  all_goals exact absurd ⟨_, rfl⟩ hf

/-- R148: power-on reset leaves no claim. -/
theorem powerOn_claims (strap : BitVec 16) (s : State) :
    (powerOn strap s).budget.lock = false ∧ (powerOn strap s).link = Link.reset := ⟨rfl, rfl⟩

theorem exec_claimsSound (c : Instr) {s : State} (h : ClaimsSound s) : Next (exec c s) ClaimsSound := by
  have hfinish : ∀ {t : State}, ClaimsSound t → Next (.next (Machine.finish s t)) ClaimsSound :=
    fun ht => ⟨_, rfl, (ClaimsFollow.finish s _).keeps_sound ht⟩
  rcases exec_claimsFollow c s with (⟨strap, rfl⟩ | ⟨quiet, rfl⟩ | rfl | rfl) | ⟨t, he, hfollow⟩
  · refine hfinish (t := powerOn strap s) ⟨fun hl => ?_, ?_⟩
    · simp [powerOn_claims] at hl
    · rw [FlightSound, (powerOn_claims strap s).2]
      decide
  · exact hfinish (frameStart_sound quiet h)
  · exact hfinish (frameComplete_sound h)
  · exact hfinish (frameAbandon_sound h)
  · exact ⟨t, he, hfollow.keeps_sound h⟩

theorem exec_noGrantBeforeConfig (c : Instr) {s : State} (h : NoGrantBeforeConfig s) :
    Next (exec c s) NoGrantBeforeConfig := by
  have hfinish : ∀ {t : State}, NoGrantBeforeConfig t → Next (.next (Machine.finish s t)) NoGrantBeforeConfig :=
    fun ht => ⟨_, rfl, (ClaimsFollow.finish s _).keeps_noGrant ht⟩
  rcases exec_claimsFollow c s with (⟨strap, rfl⟩ | ⟨quiet, rfl⟩ | rfl | rfl) | ⟨t, he, hfollow⟩
  · refine hfinish (t := powerOn strap s) fun _ => ?_
    rw [(powerOn_claims strap s).2]
    exact ⟨rfl, rfl⟩
  · exact hfinish (frameStart_noGrant quiet h)
  · exact hfinish (frameComplete_noGrant h)
  · exact hfinish (frameAbandon_noGrant h)
  · exact ⟨t, he, hfollow.keeps_noGrant h⟩

/-- What every command and the passing of a bit time keep, a step keeps. -/
theorem kept_by_step {P : State → Prop} (hqueue : ∀ {s : State} (rest : List Instr), P s → P (s.setPending rest))
    (hbit : ∀ {s : State}, P s → P (passBitTime s)) (hexec : ∀ (c : Instr) {s : State}, P s → Next (exec c s) P)
    {s t : State} (hs : P s) (h : step s = .next t) : P t := by
  rcases step_cases h with ⟨-, rfl⟩ | ⟨c, rest, -, hc⟩
  · exact hbit hs
  · obtain ⟨u, hu, hP⟩ := hexec c (hqueue rest hs)
    rw [hc, Host.Outcome.next.injEq] at hu
    rwa [hu]

/-- Settles O6: the claims of most operations follow from those before them (`exec_claimsFollow`); a frame that starts
takes its claim into flight (`startFrame_lockBacked`), and the end of a GRANT clears the lock before the next judgment
(`claimsSound_cleared`). -/
theorem claimLockStaysBacked : Obligations.ClaimLockStaysBacked := by
  unfold Obligations.ClaimLockStaysBacked
  refine ⟨fun s t hl hf h => ?_, fun s t hs h => ?_⟩
  · exact kept_by_step (P := ClaimsSound) (fun _ hs => hs) (fun hs => (ClaimsFollow.passBitTime _).keeps_sound hs)
      exec_claimsSound ⟨hl, hf⟩ h
  · exact kept_by_step (P := NoGrantBeforeConfig) (fun _ hs => hs)
      (fun hs => (ClaimsFollow.passBitTime _).keeps_noGrant hs) exec_noGrantBeforeConfig hs h

end Sys2Proof.Proofs
end

section
namespace Sys2Proof.Proofs
open Sys2Proof.Machine Sys2Proof.Safety Sys2Proof.Laws

/-! ## The cold start -/

/-- R145: the table of the cold start, entry by entry. -/
theorem entry_of_cold {b : Budget} {own units : Nat} (h : b.table = coldTable own units) {k : Nat} (hk : k < 15) :
    b.entry k = if k ≠ 0 ∧ k = own then units else 0 := by
  simp [Budget.entry, h, coldTable, hk]

theorem coldStart_sets {s : State} (ht : s.budget.coldTimer.isSome = true) (hs : s.budget.inStep = false) :
    (coldStart s).budget.table = coldTable s.start.number s.ownEntry ∧ (coldStart s).budget.epoch = s.budget.lastHeard
      ∧ (coldStart s).budget.inStep = true ∧ (coldStart s).budget.coldTimer = none := by
  rw [coldStart, if_pos (by simp [ht, hs])]
  simp

theorem exec_coldStart_due {s : State} {n : Nat} (ht : s.budget.coldTimer = some n) (hn : s.presenceTimeout ≤ n) :
    exec .coldStart s = .next (finish s (coldStart s)) := by
  have hdue : coldStartDue s = coldStart s := if_pos (by simpa [timerReached, ht] using hn)
  rw [← hdue]
  rfl

/-- Settles O54: the timer is due (`exec_coldStart_due`), and the judgment of the request that ends the cold start
leaves the table alone. -/
theorem coldStartKeepsOwnEntry : Obligations.ColdStartKeepsOwnEntry := by
  unfold Obligations.ColdStartKeepsOwnEntry
  intro s n ht hn hs
  obtain ⟨htable, hepoch, hstep, htimer⟩ := coldStart_sets (by simp [ht]) hs
  rw [exec_coldStart_due ht hn, next_iff]
  refine ⟨fun k hk => ?_, by simpa, by simpa, by simpa, by simp, by simp, by simp⟩
  have hcold : (finish s (coldStart s)).budget.table = coldTable s.start.number s.ownEntry := by simpa
  rw [entry_of_cold hcold hk]
  by_cases hown : k ≠ 0 ∧ k = s.start.number
  · rw [if_pos hown, if_pos hown, hown.2, State.ownEntry]
  · rw [if_neg hown, if_neg hown]

end Sys2Proof.Proofs
end

section
namespace Sys2Proof.Proofs
open Sys2Proof.Machine Sys2Proof.Safety Sys2Proof.Laws

/-! ## A GRANT of another station -/

/-! ### The header leaves the table, and the slot of a unit that stays in step -/

theorem entry_heard (f : RxFrame) (s : State) (n : Nat) : (heard f s).budget.entry n = s.budget.entry n := by
  simp [Budget.entry]

theorem setEntry_heard (f : RxFrame) (s : State) (n v : Nat) :
    (heard f s).budget.setEntry n v = s.budget.setEntry n v := by
  simp [Budget.setEntry]

theorem heard_grant_of_inStep {f : RxFrame} {s : State} (h : (heard f s).budget.inStep = true) :
    (heard f s).link.grant = s.link.grant := by
  unfold heard judgeHeader at h ⊢
  dsimp only at h ⊢
  split_ifs at h ⊢
  · rw [enterStale_stale] at h
    contradiction
  · simp [Link.endReception]

/-! ### The lock after a judgment -/

/-- R137, R139: a judgment that leaves the lock set has placed the raise, by a unit in step without a GRANT of its own
in flight. -/
theorem judgeRequest_locks {s : State} (h : s.budget.lock = false) (hl : (judgeRequest s).budget.lock = true) :
    s.link.grantInFlight = none ∧ s.budget.inStep = true
      ∧ (judgeRequest s).link.grant
          = some { units := s.budget.requested, reason := s.budget.reason, raise := true } := by
  unfold judgeRequest at hl ⊢
  split_ifs at hl ⊢ with hflight hmet hconf hless hfits
  · simp [h] at hl
  · simp [dropGrant] at hl
  · simp [dropGrant] at hl
  · simp [placeGrant] at hl
  · exact ⟨by simpa using hflight, (Bool.and_eq_true_iff.1 hfits).1, rfl⟩
  · simp [dropGrant] at hl

theorem rejudge_locks {s : State} (h : s.budget.lock = false) (hl : (rejudge s).budget.lock = true) :
    s.link.pendingRaise = false ∧ s.link.grantInFlight = none ∧ s.budget.inStep = true
      ∧ (rejudge s).link.grant = some { units := s.budget.requested, reason := s.budget.reason, raise := true } := by
  by_cases hr : s.link.pendingRaise = true
  · rw [rejudge, if_pos (by simp [hr, h]), h] at hl
    contradiction
  · have he : rejudge s = judgeRequest s := if_neg (by simp [hr])
    rw [he] at hl ⊢
    exact ⟨by simpa using hr, judgeRequest_locks h hl⟩

/-- R140, R141: a unit that is in step after another's GRANT has applied it, and its slot is as before. -/
theorem applyGrant_grant_of_inStep {n units : Nat} {epoch : Byte} {s : State}
    (h : (applyGrant n units epoch s).budget.inStep = true) :
    s.budget.inStep = true ∧ (applyGrant n units epoch s).link.grant = s.link.grant := by
  unfold applyGrant at h ⊢
  split_ifs at h ⊢
  · exact ⟨by simpa using h, by simp⟩
  · rw [enterStale_stale] at h
    contradiction

/-- R138: the lock after another's GRANT is that of a raise placed afresh: nothing of the station's own waited or was
in flight before. -/
theorem hearGrant_locks {f : RxFrame} {n units : Nat} {s : State}
    (hl : (hearGrant n units f.epoch (heard f s)).budget.lock = true) :
    s.link.pendingRaise = false ∧ s.link.grantInFlight = none
      ∧ (hearGrant n units f.epoch (heard f s)).link.grant
          = some { units := s.budget.requested, reason := s.budget.reason, raise := true } := by
  obtain ⟨hraise, hflight, hstep, hgrant⟩ :=
    rejudge_locks (s := clearLock (applyGrant n units f.epoch (heard f s))) rfl hl
  obtain ⟨hstep', hslot⟩ := applyGrant_grant_of_inStep (by simpa using hstep)
  have hkept : (clearLock (applyGrant n units f.epoch (heard f s))).link.grant = s.link.grant :=
    hslot.trans (heard_grant_of_inStep hstep')
  refine ⟨(pendingRaise_congr hkept).symm.trans hraise, ?_, by simpa [hearGrant] using hgrant⟩
  exact (ClaimsFollow.grantInFlight_congr (by simp)).symm.trans hflight

/-! ### The frame -/

theorem grantAct_hears {f : RxFrame} {units reason : Byte} (s : State) (h : f.sender ≠ 0)
    (hp : f.payload = [units, reason]) : grantAct f s = hearGrant f.sender.toNat units.toNat f.epoch s := by
  rw [grantAct, hp]
  exact if_pos (by simpa [fromStation] using h)

theorem exec_grantFrame_hears {f : RxFrame} {units reason : Byte} {s : State} (ht : Takes f s) (h : f.sender ≠ 0)
    (hp : f.payload = [units, reason]) :
    exec (.grantFrame f) s = .next (finish s (hearGrant f.sender.toNat units.toNat f.epoch (heard f s))) := by
  rw [exec_frame_takes (c := .grantFrame f) rfl ht, ← grantAct_hears _ h hp]
  rfl

/-- R127: the sender of a frame that the station takes, when it is not the cell computer, is a station number. -/
theorem sender_bounds {f : RxFrame} {s : State} (ht : Takes f s) (h : f.sender ≠ 0) :
    1 ≤ f.sender.toNat ∧ f.sender.toNat ≤ 14 := by
  obtain ⟨-, -, h15, -⟩ := ht
  bv_omega

theorem hearGrant_applied {f : RxFrame} {n units : Nat} {s : State} (h1 : 1 ≤ n) (h14 : n ≤ 14)
    (h : units ≤ s.budget.entry n ∨ (f.epoch = s.budget.epoch
      ∧ (s.start.config = none ∨ tableSum (s.budget.setEntry n units) ≤ s.capacity))) :
    let t := hearGrant n units f.epoch (heard f s)
    EntrySet n units s t ∧ t.budget.epoch = nextEpoch f s ∧ t.budget.inStep = staysInStep f s := by
  have happly : applyGrant n units f.epoch (heard f s) = applyEntry n units f.epoch (heard f s) :=
    applyGrant_applies (by simpa [entry_heard, setEntry_heard, capacity_heard] using h)
  unfold hearGrant
  rw [happly]
  exact ⟨entrySet_of_table h1 h14 (by simp [setEntry_heard]), by simp [nextEpoch], by simp⟩

theorem hearGrant_refused {f : RxFrame} {n units : Nat} {s : State} (hu : s.budget.entry n < units)
    (h : f.epoch ≠ s.budget.epoch
      ∨ (s.start.config ≠ none ∧ s.capacity < tableSum (s.budget.setEntry n units))) :
    let t := hearGrant n units f.epoch (heard f s)
    t.budget.table = s.budget.table ∧ t.budget.epoch = s.budget.epoch ∧ t.budget.inStep = false := by
  have hrefuse : applyGrant n units f.epoch (heard f s) = enterStale (heard f s) :=
    applyGrant_refuses (by simpa [entry_heard] using hu) (by simpa [setEntry_heard, capacity_heard] using h)
  unfold hearGrant
  rw [hrefuse]
  exact ⟨by simp, by simp, by simp⟩

/-- Settles O51: the GRANT is applied (`hearGrant_applied`) or refused (`hearGrant_refused`), and a lock that is set
afterwards is that of a raise placed afresh (`hearGrant_locks`). -/
theorem grantIsAppliedOrRefused : Obligations.GrantIsAppliedOrRefused := by
  unfold Obligations.GrantIsAppliedOrRefused
  intro f units reason s ht h0 hp
  obtain ⟨h1, h14⟩ := sender_bounds ht h0
  rw [exec_grantFrame_hears ht h0 hp, next_iff]
  refine ⟨by simp, by simp, by simp, fun hr => ?_, fun hg => ?_, fun hl => ?_, fun h => ?_, fun hu h => ?_⟩
  · by_contra hl
    obtain ⟨hnone, -, -⟩ := hearGrant_locks (by simpa using hl)
    simp [hr] at hnone
  · by_contra hl
    obtain ⟨-, hnone, -⟩ := hearGrant_locks (by simpa using hl)
    exact hg hnone
  · obtain ⟨-, -, hgrant⟩ := hearGrant_locks (by simpa using hl)
    simpa using hgrant
  · obtain ⟨hset, hepoch, hstep⟩ := hearGrant_applied h1 h14 h
    exact ⟨by simpa [EntrySet] using hset, by simpa using hepoch, by simpa using hstep⟩
  · obtain ⟨htable, hepoch, hstep⟩ := hearGrant_refused hu h
    exact ⟨by simpa using htable, by simpa using hepoch, by simpa using hstep⟩

end Sys2Proof.Proofs
end

section
namespace Sys2Proof.Proofs
open Sys2Proof.Machine Sys2Proof.Safety Sys2Proof.Laws

/-! ## A RECLAIM -/

/-! ### A station without units and without a claim -/

/-- R138, R146: the station holds no units, and nothing of its own waits with a GRANT or its lock. -/
structure Unclaimed (s : State) : Prop where
  entry : s.ownEntry = 0
  grant : s.link.grant = none
  lock : s.budget.lock = false

namespace Unclaimed

variable {s t : State}

theorem of_same (hs : Unclaimed s) (h : t.budget = s.budget ∧ t.start = s.start ∧ t.link.grant = s.link.grant) :
    Unclaimed t := by
  obtain ⟨hbudget, hstart, hgrant⟩ := h
  exact ⟨by rw [State.ownEntry, hbudget, hstart, ← State.ownEntry, hs.entry], hgrant.trans hs.grant,
    by rw [hbudget, hs.lock]⟩

/-- R136, R146: the request of 0 units is met at once, and places nothing. -/
theorem requestZero (hs : Unclaimed s) (reason : GrantReason) : Unclaimed (requestUnits 0 reason s) := by
  have hasked : Unclaimed (s.setBudget { s.budget with requested := 0, reason }) := ⟨hs.entry, hs.grant, hs.lock⟩
  cases hg : s.link.grantInFlight with
  | some g =>
    rw [requestUnits, judgeRequest, if_pos (by simp [hg])]
    exact hasked
  | none =>
    rw [requestUnits, judgeRequest_met (by simp [hg]) hasked.entry.symm]
    exact ⟨hs.entry, rfl, rfl⟩

theorem halted (hs : Unclaimed s) (q : SeqState) (o : TestOutcome) : Unclaimed (haltSequencer q o s) := by
  have hreq : Unclaimed (requestUnits 0 .release (gotoState q (openArm .stop (abandonTare s)))) :=
    (hs.of_same (by simp)).requestZero .release
  unfold haltSequencer
  dsimp only
  split
  · exact hreq.of_same (by simp)
  · exact hreq

theorem followHalted (hs : Unclaimed s) (q : SeqState) : Unclaimed (haltFollow q s) :=
  (hs.of_same (t := s.setFollow { s.follow with state := q, asked := 0, lossSamples := 0 }) (by simp)).requestZero
    .release

end Unclaimed

/-! ### A station on the move -/

theorem isTest_of_moving {s : State} (hf : s.isFollow = false) (h : s.moveKind ≠ .none) :
    s.seq.state.isTest = true := by
  contrapose! h
  rw [State.moveKind, if_neg (by simp [hf])]
  cases hq : s.seq.state <;> simp_all [SeqState.isTest]

theorem followActive_of_moving {s : State} (hf : s.isFollow = true) (h : s.moveKind ≠ .none) :
    s.follow.state.isFollowActive = true := by
  contrapose! h
  rw [State.moveKind, if_pos hf, if_neg h]

/-- R24, R68, R146: a station on the move that reports a local fault asks for 0 units, and has no claim if it had no
units. -/
theorem report_moving {c : FaultCause} {s : State} (hs : s.start.strapFault = false) (hm : s.moveKind ≠ .none)
    (hc : c.isCellStop = false) (h : Unclaimed s) :
    Unclaimed (report c s) ∧ (report c s).budget.requested = 0 := by
  have htaken : Unclaimed (pushNotice (faultNotice c s) (recordFault c s)) := h.of_same (by simp)
  cases hf : s.isFollow with
  | false =>
    have hrole : s.start.role ≠ .follow := by simpa [State.isFollow] using hf
    rw [report_local ⟨hs, hrole⟩ (isTest_of_moving hf hm) hc]
    exact ⟨htaken.halted _ _, by simp⟩
  | true =>
    rw [report_local_follow hs hf (followActive_of_moving hf hm) hc]
    exact ⟨htaken.followHalted _, by simp⟩

/-! ### The loss of the units -/

/-- R138, R142: what a station does that its own RECLAIM names, before it reports. -/
def unitsLost (s : State) : State :=
  (dropGrant (s.setBudget { s.budget with requested := 0, reason := .release })).setFollow { s.follow with asked := 0 }

theorem loseUnits_resting {s : State} (h : s.moveKind = .none) : loseUnits s = unitsLost s := by
  simp [loseUnits, h, unitsLost]

theorem loseUnits_moving {s : State} (h : s.moveKind ≠ .none) :
    loseUnits s = report .budgetRevoked (unitsLost s) := by
  simp [loseUnits, h, unitsLost]

@[simp] theorem unitsLost_keeps (s : State) :
    (unitsLost s).start = s.start ∧ (unitsLost s).seq = s.seq ∧ (unitsLost s).pair = s.pair
      ∧ (unitsLost s).load = s.load ∧ (unitsLost s).stop = s.stop ∧ (unitsLost s).follow.state = s.follow.state
      ∧ (unitsLost s).budget.table = s.budget.table ∧ (unitsLost s).budget.requested = 0 := by
  simp [unitsLost]

theorem unclaimed_unitsLost {s : State} (h : s.ownEntry = 0) : Unclaimed (unitsLost s) := ⟨h, rfl, rfl⟩

theorem moveKind_unitsLost (s : State) : (unitsLost s).moveKind = s.moveKind := by
  simp [State.moveKind, State.isFollow]

theorem recorded_unitsLost (c : FaultCause) (s t : State) : Recorded c (unitsLost s) t ↔ Recorded c s t := by
  simp [Recorded, LockedBy, State.ownState, State.ownPhase, State.isFollow, State.lastIndex, State.lastPosition]

/-- R138, R142: a station without its units keeps no claim, at rest and on the move. -/
theorem loseUnits_unclaimed {s : State} (hs : s.start.strapFault = false) (h : s.ownEntry = 0) :
    Unclaimed (loseUnits s) ∧ (loseUnits s).budget.requested = 0 := by
  by_cases hm : s.moveKind = .none
  · rw [loseUnits_resting hm]
    exact ⟨unclaimed_unitsLost h, by simp⟩
  · rw [loseUnits_moving hm]
    exact report_moving (by simpa) (by rwa [moveKind_unitsLost]) rfl (unclaimed_unitsLost h)

/-- R142, R153: a station on the move reports the loss of its units, and a test ends as FAULTED. -/
theorem loseUnits_reports {s : State} (old : State) (hs : s.start.strapFault = false) (hm : s.moveKind ≠ .none) :
    let t := finish old (loseUnits s)
    Recorded .budgetRevoked s t ∧ t.travel.applied = 0 ∧ (s.isFollow = false → EndsFaulted .budgetRevoked s t) := by
  have hs' : (unitsLost s).start.strapFault = false := by simpa
  have hrec : Recorded .budgetRevoked s (report .budgetRevoked (unitsLost s)) :=
    (recorded_unitsLost _ _ _).1 (recorded_report _ hs')
  rw [loseUnits_moving hm]
  refine ⟨by simpa [Recorded] using hrec, by rw [applied_finish, if_pos (report_forced _ _ hs')], fun hf => ?_⟩
  have hrole : s.start.role ≠ .follow := by simpa [State.isFollow] using hf
  have hends := endsFaulted_report (s := unitsLost s) (c := .budgetRevoked) old ⟨hs', by simpa⟩
    (by simpa using isTest_of_moving hf hm) rfl
  simpa only [EndsFaulted, recorded_unitsLost] using hends

/-! ### The frame -/

/-- R142: what a RECLAIM of station `n` does at every station. -/
def entryTaken (n : Nat) (f : RxFrame) (s : State) : State := clearLock (applyEntry n 0 f.epoch (heard f s))

theorem exec_reclaim_takes {f : RxFrame} {n : Byte} {s : State} (ht : Takes f s) (h0 : f.sender = 0)
    (hp : f.payload = [n]) :
    exec (.reclaim f) s = .next (finish s (reclaimNode n.toNat f.epoch (heard f s))) := by
  have hact : reclaimAct f (heard f s) = reclaimNode n.toNat f.epoch (heard f s) := by
    rw [reclaimAct, hp]
    exact if_pos h0
  rw [exec_frame_takes (c := .reclaim f) rfl ht, ← hact]
  rfl

theorem reclaimNode_own {n : Nat} {f : RxFrame} {s : State} (h1 : 1 ≤ n) (h14 : n ≤ 14) (h : n = s.start.number) :
    reclaimNode n f.epoch (heard f s) = loseUnits (entryTaken n f s) := by
  rw [reclaimNode, if_pos ⟨h1, h14⟩]
  exact if_pos (by simpa using h)

theorem reclaimNode_other {n : Nat} {f : RxFrame} {s : State} (h1 : 1 ≤ n) (h14 : n ≤ 14) (h : n ≠ s.start.number) :
    reclaimNode n f.epoch (heard f s) = rejudge (entryTaken n f s) := by
  rw [reclaimNode, if_pos ⟨h1, h14⟩]
  exact if_neg (by simpa using h)

theorem reclaimNode_none {n : Nat} {epoch : Byte} {s : State} (h : n = 0 ∨ 14 < n) : reclaimNode n epoch s = s :=
  if_neg (by omega)

@[simp] theorem entryTaken_keeps (n : Nat) (f : RxFrame) (s : State) :
    (entryTaken n f s).start = s.start ∧ (entryTaken n f s).seq = s.seq ∧ (entryTaken n f s).stop = s.stop
      ∧ (entryTaken n f s).follow = s.follow ∧ (entryTaken n f s).pair = s.pair ∧ (entryTaken n f s).load = s.load
      ∧ (entryTaken n f s).budget.requested = s.budget.requested := by
  simp [entryTaken]

theorem entryTaken_sets (n : Nat) (f : RxFrame) (s : State) :
    (entryTaken n f s).budget.table = s.budget.setEntry n 0 ∧ (entryTaken n f s).budget.epoch = nextEpoch f s
      ∧ (entryTaken n f s).budget.inStep = staysInStep f s := by
  simp [entryTaken, nextEpoch, setEntry_heard]

theorem moveKind_entryTaken (n : Nat) (f : RxFrame) (s : State) : (entryTaken n f s).moveKind = s.moveKind :=
  moveKind_congr (by simp) (by simp) (by simp) (by simp)

theorem recorded_entryTaken (c : FaultCause) (n : Nat) (f : RxFrame) (s t : State) :
    Recorded c (entryTaken n f s) t ↔ Recorded c s t := by
  simp [Recorded, LockedBy, State.ownState, State.ownPhase, State.isFollow, State.lastIndex, State.lastPosition]

/-- R142: the entry and the epoch, which neither the loss of the units nor the judgment of the request changes. -/
theorem reclaimed_sets {n : Nat} {f : RxFrame} {s t : State} (h1 : 1 ≤ n) (h14 : n ≤ 14)
    (htable : t.budget.table = (entryTaken n f s).budget.table)
    (hepoch : t.budget.epoch = (entryTaken n f s).budget.epoch)
    (hstep : t.budget.inStep = (entryTaken n f s).budget.inStep) :
    EntrySet n 0 s t ∧ t.budget.epoch = nextEpoch f s ∧ t.budget.inStep = staysInStep f s := by
  obtain ⟨hset, hnext, hstays⟩ := entryTaken_sets n f s
  exact ⟨entrySet_of_table h1 h14 (htable.trans hset), hepoch.trans hnext, hstep.trans hstays⟩

theorem ownEntry_entryTaken {n : Nat} {f : RxFrame} {s : State} (h1 : 1 ≤ n) (h14 : n ≤ 14)
    (h : n = s.start.number) : (entryTaken n f s).ownEntry = 0 := by
  obtain ⟨⟨hentry, -⟩, -⟩ := reclaimed_sets (f := f) (s := s) h1 h14 rfl rfl rfl
  simpa [State.ownEntry, ← h] using hentry

/-- Settles O60: a RECLAIM takes the entry (`reclaimed_sets`); the station that it names keeps no claim
(`loseUnits_unclaimed`) and on the move reports the loss (`loseUnits_reports`), and any other judges its request
again. -/
theorem reclaimTakesUnits : Obligations.ReclaimTakesUnits := by
  unfold Obligations.ReclaimTakesUnits
  intro f n s ht h0 hp
  rw [exec_reclaim_takes ht h0 hp, next_iff, next_iff]
  refine ⟨fun h1 h14 => ?_, fun hn => ?_⟩
  · by_cases hown : n.toNat = s.start.number
    · have hs : (entryTaken n.toNat f s).start.strapFault = false := by simpa using ht.1
      obtain ⟨hset, hepoch, hstep⟩ := reclaimed_sets (n := n.toNat) (f := f) (s := s)
        (t := finish s (loseUnits (entryTaken n.toNat f s))) h1 h14 (by simp) (by simp) (by simp)
      obtain ⟨hclaim, hreq⟩ := loseUnits_unclaimed hs (ownEntry_entryTaken h1 h14 hown)
      rw [reclaimNode_own h1 h14 hown]
      refine ⟨hset, hepoch, hstep, fun _ => ⟨by simpa, by simpa using hclaim.grant, by simpa using hclaim.lock,
        fun hm => ?_, fun hm => ?_⟩, fun h => absurd hown h⟩
      · rw [loseUnits_resting (by rwa [moveKind_entryTaken])]
        simp
      · obtain ⟨hrec, happlied, hends⟩ := loseUnits_reports s hs (by rwa [moveKind_entryTaken])
        refine ⟨(recorded_entryTaken _ _ _ _ _).1 hrec, happlied, fun hf => ?_⟩
        simpa only [EndsFaulted, recorded_entryTaken] using hends (by simpa [State.isFollow] using hf)
    · obtain ⟨hset, hepoch, hstep⟩ := reclaimed_sets (n := n.toNat) (f := f) (s := s)
        (t := finish s (rejudge (entryTaken n.toNat f s))) h1 h14 (by simp) (by simp) (by simp)
      rw [reclaimNode_other h1 h14 hown]
      exact ⟨hset, hepoch, hstep, fun h => absurd h hown, fun _ => ⟨by simp, by simp, by simp⟩⟩
  · rw [reclaimNode_none hn]
    simp

end Sys2Proof.Proofs
end

section
namespace Sys2Proof.Proofs
open Sys2Proof.Machine Sys2Proof.Safety Sys2Proof.Laws

/-! ## The stop latch and its answer -/

/-- R23: the latch enters SET in a state of the test sequencer that answers it. -/
theorem setLatch_test_halts {s : State} (hs : s.start.strapFault = false) (hl : s.stop.latch = false)
    (hf : s.isFollow = false)
    (h : s.seq.state ≠ .unconfigured ∧ s.seq.state ≠ .idle ∧ s.seq.state ≠ .stopped) :
    setLatch s = haltSequencer .stopped .stopped (s.setStop { s.stop with latch := true }) := by
  rw [setLatch_of_clear hs hl, stopOwn, if_neg (by simpa [State.isFollow] using hf)]
  exact stopSequencer_halts _ h

/-- R23: a test sequencer without an order in hand lets the latch enter SET and does nothing else. -/
theorem setLatch_test_stays {s : State} (hs : s.start.strapFault = false) (hl : s.stop.latch = false)
    (hf : s.isFollow = false)
    (h : s.seq.state = .unconfigured ∨ s.seq.state = .idle ∨ s.seq.state = .stopped) :
    setLatch s = s.setStop { s.stop with latch := true } := by
  rw [setLatch_of_clear hs hl, stopOwn, if_neg (by simpa [State.isFollow] using hf)]
  exact stopSequencer_stays _ h

/-- R68: the latch enters SET in a state of the follow sequencer that answers it. -/
theorem setLatch_follow_halts {s : State} (hs : s.start.strapFault = false) (hl : s.stop.latch = false)
    (hf : s.isFollow = true) (h : s.follow.state.isFollowActive = true ∨ s.follow.state = .faulted) :
    setLatch s = haltFollow .stopped (s.setStop { s.stop with latch := true }) := by
  rw [setLatch_of_clear hs hl, stopOwn, if_pos (by simpa [State.isFollow] using hf)]
  exact if_pos (by simpa using h)

/-- R23, R68, R150: what a command that ends with the setting of the latch leaves. -/
theorem stops_setLatch (old : State) {s : State} (hs : s.start.strapFault = false) :
    Stops s (finish old (setLatch s)) := by
  have hlatch := setLatch_sets s hs
  refine ⟨by simpa using hlatch, ?_, fun hl => ?_, fun hl hf h1 h2 h3 => ?_, fun hl hf h => ?_, fun hl hf h => ?_⟩
  · rw [applied_finish, if_pos (by simp [forced, hlatch])]
  · simp [setLatch_of_set hl]
  · rw [setLatch_test_halts hs hl hf ⟨h1, h2, h3⟩]
    have houtcome := haltSequencer_outcome .stopped .stopped (s.setStop { s.stop with latch := true })
    exact ⟨by simp, by simp, fun ht => by simpa [Outcome] using houtcome ht⟩
  · rw [setLatch_test_stays hs hl hf (by tauto)]
    simp
  · rw [setLatch_follow_halts hs hl hf (by rw [isFollowActive_iff]; tauto)]
    simp

/-- What the latch does is told by the stop and fault unit, the role and the two sequencers. -/
theorem stops_of_same {s u t : State} (h : Stops u t) (hstop : u.stop = s.stop) (hstart : u.start = s.start)
    (hseq : u.seq = s.seq) (hfollow : u.follow = s.follow) : Stops s t := by
  simpa only [Stops, State.isFollow, hstop, hstart, hseq, hfollow] using h

/-- Settles O12: both commands end with the setting of the latch (`stops_setLatch`). -/
theorem stopEdgeAndFrameSetLatch : Obligations.StopEdgeAndFrameSetLatch := by
  unfold Obligations.StopEdgeAndFrameSetLatch
  refine ⟨fun low s hs => ?_, fun f s ht => ?_⟩
  · refine ⟨finish s (stopLineFall low s), rfl, ?_, by simp [stopLineFall]⟩
    exact stops_setLatch s (s := s.setLines { s.lines with stopLow := low }) hs
  · refine ⟨finish s (receive f stopAct s), rfl, ?_⟩
    rw [receive_takes _ ht, stopAct]
    have hstops := stops_setLatch s (s := heard f s) (by simpa using ht.1)
    exact ⟨stops_of_same hstops (by simp) (by simp) (by simp) (by simp), by simp⟩

end Sys2Proof.Proofs
end

section
namespace Sys2Proof.Proofs
open Sys2Proof.Machine Sys2Proof.Safety Sys2Proof.Laws

/-! ## The notices of a report -/

/-- R123: a notice that finds the queue full is dropped and counted. -/
theorem pushNotice_full {s : State} (k : NoticeKind) (h : 8 ≤ s.link.notices.length) :
    pushNotice k s = s.setLink { s.link with lost := min 255 (s.link.lost + 1) } := by
  have h8 : ¬s.link.notices.length < noticeCapacity := Nat.not_lt.2 h
  simp [pushNotice, h8, succ255]

/-- R123: a notice joins a queue with room, and nothing else happens. -/
theorem pushNotice_room {s : State} (k : NoticeKind) (h : s.link.notices.length < 8) :
    pushNotice k s = s.setLink { s.link with notices := s.link.notices ++ [{ kind := k, index := s.lastIndex }] } := by
  have h8 : s.link.notices.length < noticeCapacity := h
  simp [pushNotice, h8]

/-- Between the two states the notice queue and its loss count are as they were, or one notice has come to them. -/
def QueuesAtMostOne (s t : State) : Prop :=
  (t.link.notices = s.link.notices ∧ t.link.lost = s.link.lost)
    ∨ ∃ k, t.link.notices = (pushNotice k s).link.notices ∧ t.link.lost = (pushNotice k s).link.lost

theorem QueuesAtMostOne.of_link {s t : State} (h : t.link = s.link) : QueuesAtMostOne s t := .inl (by simp [h])

/-- The queue reads nothing but the link unit and the latest sample. -/
theorem QueuesAtMostOne.of_same {s u t : State} (h : QueuesAtMostOne u t) (hn : u.link.notices = s.link.notices)
    (hl : u.link.lost = s.link.lost) (hlast : u.load.last = s.load.last) : QueuesAtMostOne s t := by
  refine h.imp (fun ⟨h1, h2⟩ => ⟨h1.trans hn, h2.trans hl⟩) fun ⟨k, h1, h2⟩ => ⟨k, h1.trans ?_, h2.trans ?_⟩
  all_goals
    unfold pushNotice
    rw [hn]
    split_ifs <;> simp [hn, hl, State.lastIndex, hlast]

theorem QueuesAtMostOne.continues {s t : State} (h : QueuesAtMostOne s t) : s.link.notices <+: t.link.notices := by
  rcases h with ⟨h, -⟩ | ⟨k, h, -⟩ <;> rw [h]
  exact noticesFollow_pushNotice k s

/-- R123: a full queue stays, and at most one notice is lost at it. -/
theorem QueuesAtMostOne.full {s t : State} (h : QueuesAtMostOne s t) (h8 : 8 ≤ s.link.notices.length) :
    t.link.notices = s.link.notices ∧ (t.link.lost = s.link.lost ∨ t.link.lost = min 255 (s.link.lost + 1)) := by
  rcases h with ⟨hn, hl⟩ | ⟨k, hn, hl⟩
  · exact ⟨hn, .inl hl⟩
  · rw [pushNotice_full k h8] at hn hl
    exact ⟨hn, .inr hl⟩

/-- R26: the end of a test has one notice. -/
theorem queuesAtMostOne_endTest (o : TestOutcome) (s : State) : QueuesAtMostOne s (endTest o s) := by
  have hpush : QueuesAtMostOne (writeRecord (fun t => { t with outcome := some o, endPhase := s.seq.phase }) s)
      (endTest o s) := .inr ⟨.testEnded o, by simp [endTest, closeSpan], by simp [endTest, closeSpan]⟩
  exact hpush.of_same (by simp [writeRecord]) (by simp [writeRecord]) (by simp [writeRecord])

theorem queuesAtMostOne_haltSequencer (q : SeqState) (o : TestOutcome) (s : State) :
    QueuesAtMostOne s (haltSequencer q o s) := by
  have hlink : (openArm .stop (abandonTare s)).link = s.link := by simp [openArm_quiet (c := .stop) _ rfl]
  unfold haltSequencer
  dsimp only
  split
  · exact (queuesAtMostOne_endTest o _).of_same (by simp [hlink]) (by simp [hlink]) (by simp [abandonTare])
  · exact .inl ⟨by simp [hlink], by simp [hlink]⟩

theorem queuesAtMostOne_haltFollow (q : SeqState) (s : State) : QueuesAtMostOne s (haltFollow q s) :=
  .inl ⟨by simp [haltFollow], by simp [haltFollow]⟩

theorem queuesAtMostOne_stopOwn (s : State) : QueuesAtMostOne s (stopOwn s) := by
  unfold stopOwn stopFollow stopSequencer
  split
  · split
    · exact queuesAtMostOne_haltFollow _ _
    · exact .of_link rfl
  · split
    case h_4 => exact queuesAtMostOne_haltSequencer _ _ _
    all_goals exact .of_link rfl

theorem queuesAtMostOne_faultOwn (s : State) : QueuesAtMostOne s (faultOwn s) := by
  unfold faultOwn faultFollow faultSequencer
  split
  · split
    · exact queuesAtMostOne_haltFollow _ _
    · exact .of_link rfl
  · split
    case h_5 => exact queuesAtMostOne_haltSequencer _ _ _
    all_goals exact .of_link rfl

theorem queuesAtMostOne_setLatch (s : State) : QueuesAtMostOne s (setLatch s) := by
  unfold setLatch
  split
  · exact .of_link rfl
  · exact (queuesAtMostOne_stopOwn _).of_same rfl rfl rfl

/-- R153: a report queues its FAULT notice first, and the answer of the sequencer at most one more. -/
theorem report_queues (c : FaultCause) {s : State} (hs : s.start.strapFault = false) :
    QueuesAtMostOne (pushNotice (faultNotice c s) s) (report c s) := by
  have hsame : QueuesAtMostOne (pushNotice (faultNotice c s) (recordFault c s)) (report c s) := by
    rw [report_eq c hs]
    split
    · exact (queuesAtMostOne_setLatch _).of_same rfl rfl rfl
    · exact queuesAtMostOne_faultOwn _
  have hlink : (pushNotice (faultNotice c s) (recordFault c s)).link = (pushNotice (faultNotice c s) s).link := by
    simp only [pushNotice, recordFault_keeps, State.lastIndex]
    split_ifs <;> rfl
  exact hsame.of_same (by rw [hlink]) (by rw [hlink]) (by simp)

theorem report_notices (c : FaultCause) {s : State} (hs : s.start.strapFault = false)
    (h : s.link.notices.length < 8) :
    ∃ more, (report c s).link.notices
      = s.link.notices ++ { kind := faultNotice c s, index := s.lastIndex } :: more := by
  obtain ⟨more, hmore⟩ := (report_queues c hs).continues
  exact ⟨more, by rw [← hmore, pushNotice_notices _ h, List.append_assoc, List.singleton_append]⟩

/-- R152, R153: the notice of the report that locks the record carries what it locks. -/
theorem faultNotice_unlocked (c : FaultCause) {s : State} (h : s.stop.record = none) :
    faultNotice c s = .fault c (some (s.lockedPart c)) := by
  simp [faultNotice, StopFault.locked, h]

theorem faultNotice_locked (c : FaultCause) {s : State} (h : s.stop.record ≠ none) :
    faultNotice c s = .fault c none := by
  simp [faultNotice, StopFault.locked, Option.isSome_iff_ne_none.2 h]

/-- R123: the notices of a report at a full queue are lost, that of the fault and at most one more. -/
theorem report_full (c : FaultCause) {s : State} (hs : s.start.strapFault = false)
    (h : 8 ≤ s.link.notices.length) :
    (report c s).link.notices = s.link.notices
      ∧ ((report c s).link.lost = min 255 (s.link.lost + 1) ∨ (report c s).link.lost = min 255 (s.link.lost + 2)) := by
  have hq := report_queues c hs
  rw [pushNotice_full _ h] at hq
  obtain ⟨hn, hl⟩ := hq.full h
  refine ⟨hn, hl.imp id fun hl => hl.trans ?_⟩
  show min 255 (min 255 (s.link.lost + 1) + 1) = _
  omega

/-! ## The class of a report -/

theorem isCellStop_iff (c : FaultCause) : c.isCellStop = true ↔ c.code < 16 := by
  cases c <;> simp [FaultCause.code, FaultCause.isCellStop]

/-- R153: a local fault does not drive the stop line and places no STOP frame. -/
theorem report_local_stop {c : FaultCause} {s : State} (hs : s.start.strapFault = false)
    (hc : c.isCellStop = false) :
    (report c s).stop.driving = s.stop.driving ∧ (report c s).stop.latch = s.stop.latch
      ∧ (report c s).link.stop = s.link.stop := by
  rw [report_eq c hs, if_neg (by simp [hc])]
  simp

/-- R24: the states of the test sequencer that a local fault leaves. -/
theorem faultSequencer_state (s : State) :
    (faultSequencer s).seq.state
      = if s.seq.state = .unconfigured ∨ s.seq.state = .idle ∨ s.seq.state = .stopped then s.seq.state
        else .faulted := by
  by_cases h : s.seq.state = .unconfigured ∨ s.seq.state = .idle ∨ s.seq.state = .stopped ∨ s.seq.state = .faulted
  · rw [faultSequencer_stays s h]
    split <;> tauto
  · push Not at h
    rw [faultSequencer_halts s h, if_neg (by tauto)]
    simp

/-- R68: the states of the follow sequencer that a local fault ends. -/
theorem faultFollow_state (s : State) :
    (faultFollow s).follow.state
      = if s.follow.state = .followClaim ∨ s.follow.state = .following ∨ s.follow.state = .held then .faulted
        else s.follow.state := by
  unfold faultFollow
  simp only [isFollowActive_iff]
  split <;> simp

theorem report_local_seq {c : FaultCause} {s : State} (hs : s.start.strapFault = false) (hc : c.isCellStop = false)
    (hf : s.isFollow = false) : (report c s).seq.state = (faultSequencer s).seq.state := by
  rw [report_eq c hs, if_neg (by simp [hc]), faultOwn, if_neg (by simpa [State.isFollow] using hf),
    faultSequencer_state, faultSequencer_state]
  simp

theorem report_local_followState {c : FaultCause} {s : State} (hs : s.start.strapFault = false)
    (hc : c.isCellStop = false) (hf : s.isFollow = true) :
    (report c s).follow.state = (faultFollow s).follow.state := by
  rw [report_eq c hs, if_neg (by simp [hc]), faultOwn, if_pos (by simpa [State.isFollow] using hf),
    faultFollow_state, faultFollow_state]
  simp

/-- Settles O11: the record by `recorded_report`, the notices by `report_notices` and `report_full`, and the answer by
the class of the cause. -/
theorem reportIsRecordedAndActsByClass : Obligations.ReportIsRecordedAndActsByClass := by
  unfold Obligations.ReportIsRecordedAndActsByClass
  refine ⟨fun c s hs => ⟨recorded_report c hs, fun h hr => ?_, fun h hr => ?_⟩,
    fun c s hs => ⟨fun hc => ?_, fun hc => ?_⟩,
    fun k s => ⟨pushNotice_room k, pushNotice_full k⟩, fun c s hs h => report_full c hs h⟩
  · obtain ⟨more, hmore⟩ := report_notices c hs h
    rw [faultNotice_unlocked c hr] at hmore
    exact ⟨s.lockedPart c, more, ⟨rfl, rfl, rfl, rfl, rfl, rfl⟩, hmore⟩
  · rw [← faultNotice_locked c hr]
    exact report_notices c hs h
  · obtain ⟨hlatch, hdriving, hframe⟩ := report_stops hs (isCellStop_of_code hc)
    exact ⟨hdriving, hlatch, hframe⟩
  · have hlocal : c.isCellStop = false := by
      rw [← Bool.not_eq_true, isCellStop_iff]
      omega
    obtain ⟨hdriving, hlatch, hframe⟩ := report_local_stop hs hlocal
    exact ⟨hdriving, hlatch, hframe, fun hf => (report_local_seq hs hlocal hf).trans (faultSequencer_state s),
      fun hf => (report_local_followState hs hlocal hf).trans (faultFollow_state s)⟩

end Sys2Proof.Proofs
end

section
namespace Sys2Proof.Proofs
open Sys2Proof.Machine Sys2Proof.Safety Sys2Proof.Laws

/-! ## CLEAR: the stop and fault unit, and the sequencer of the role -/

theorem setLatch_stop {s : State} (hs : s.start.strapFault = false) :
    (setLatch s).stop = { s.stop with latch := true } := by
  cases hl : s.stop.latch with
  | false => simp [setLatch_of_clear hs hl]
  | true =>
    rw [setLatch_of_set hl, ← hl]

/-- R156: the record is unlocked and the line released, and the latch has not been looked at. -/
def unlocked (s : State) : State := s.setStop { s.stop with record := none, further := 0, driving := false }

/-- R156: while the line is low the latch is set, and the CLEAR is refused. -/
theorem clearStop_low {s : State} (h : s.lines.stopLow = true) :
    clearStop s = pushNotice .clearRefused (setLatch (unlocked s)) := by
  simp [clearStop, unlocked, h]

/-- R156: a latch that is set already has been answered. -/
theorem clearStop_low_latched {s : State} (h : s.lines.stopLow = true) (hl : s.stop.latch = true) :
    clearStop s = pushNotice .clearRefused (unlocked s) := by
  rw [clearStop_low h, setLatch_of_set (s := unlocked s) hl]

/-- R156: a CLEAR that finds the line high. -/
theorem clearStop_high {s : State} (h : s.lines.stopLow = false) :
    clearStop s = s.setStop { latch := false, driving := false, record := none, further := 0 } := by
  simp [clearStop, h]

theorem clearStop_stop {s : State} (hs : s.start.strapFault = false) :
    (clearStop s).stop = { latch := s.lines.stopLow, driving := false, record := none, further := 0 } := by
  cases h : s.lines.stopLow with
  | false => simp [clearStop_high h]
  | true =>
    simp only [clearStop_low h, pushNotice_keeps, setLatch_stop (s := unlocked s) hs]
    simp [unlocked]

/-- R25, R68: a sequencer under a set latch stays. -/
theorem clearSequencer_latched {s : State} (h : s.stop.latch = true) : clearSequencer s = s := by
  simp [clearSequencer, h]

theorem clearSequencer_idles {s : State} (hl : s.stop.latch = false) (hr : s.stop.record = none)
    (hf : s.isFollow = false) (h : s.seq.state = .stopped ∨ s.seq.state = .faulted) :
    clearSequencer s = enterIdle s := by
  have hq : (s.seq.state == .stopped || s.seq.state == .faulted) = true := by simpa using h
  simp [clearSequencer, hl, StopFault.locked, hr, hf, hq]

theorem clearSequencer_followIdles {s : State} (hl : s.stop.latch = false) (hr : s.stop.record = none)
    (hf : s.isFollow = true) (h : s.follow.state = .stopped ∨ s.follow.state = .faulted) :
    clearSequencer s = restFollow s := by
  have hq : (s.follow.state == .stopped || s.follow.state == .faulted) = true := by simpa using h
  simp [clearSequencer, hl, StopFault.locked, hr, hf, hq]

/-- R106: the entry to IDLE opens the arm with a cause that has no notice. -/
theorem clearSequencer_notices (s : State) : (clearSequencer s).link.notices = s.link.notices := by
  unfold clearSequencer
  split_ifs <;> simp [openArm_quiet (c := .stop) s rfl]

/-! ## CLEAR: a jammed arm -/

theorem state_of_armStaysOrOpens {s t : State} (h : ArmStaysOrOpens s t) (hj : s.ext.state = .jammed) :
    t.ext.state = .jammed := by
  rcases h with ⟨he, -⟩ | ⟨he, -⟩
  · rw [he, hj]
  · rw [he, openArm_state, hj]
    rfl

theorem clearStop_jammed {s : State} (hj : s.ext.state = .jammed) : (clearStop s).ext.state = .jammed := by
  cases h : s.lines.stopLow with
  | false => rw [clearStop_high h]; exact hj
  | true =>
    simp only [clearStop_low h, pushNotice_keeps]
    exact state_of_armStaysOrOpens (setLatch_arm _) hj

theorem clearSequencer_jammed {s : State} (hj : s.ext.state = .jammed) : (clearSequencer s).ext.state = .jammed := by
  unfold clearSequencer
  split_ifs <;> simp [openArm_state, hj, ExtState.closes]

/-- R111: a jammed arm is found out where it is PARKED. -/
theorem freeArm_jammed {s : State} (hj : s.ext.state = .jammed) :
    (freeArm s).ext.state = if s.lines.armOpen then .parked else .jammed := by
  unfold freeArm
  cases ha : s.lines.armOpen <;> simp [hj]

/-! ## CLEAR: the drive port -/

/-- R51: a port that is not TRIPPED, or whose amplifier has recovered, is ACTIVE. -/
theorem releasePort_recovered {s : State} (h : s.travel.tripped = false ∨ s.lines.ampFault = false) :
    releasePort s
      = s.setTravel { s.travel with
          tripped := false, applied := if s.travel.tripped then 0 else s.travel.applied } := by
  unfold releasePort
  cases ht : s.travel.tripped with
  | false =>
    simp only [Bool.false_eq_true, if_false]
    rw [← ht]
    rfl
  | true => simp [show s.lines.ampFault = false by simpa [ht] using h]

/-- R51: a TRIPPED port whose amplifier fault line is still active. -/
theorem releasePort_faulty {s : State} (ht : s.travel.tripped = true) (ha : s.lines.ampFault = true) :
    releasePort s = report .driveFault s := by
  simp [releasePort, ht, ha]

/-- The port's answer at a station at rest leaves the rest alone. -/
theorem releasePort_rests {s : State} (hs : s.start.strapFault = false) (hr : s.stop.record = none) (h : Rests s) :
    (releasePort s).seq = s.seq ∧ (releasePort s).follow = s.follow ∧ (releasePort s).load = s.load
      ∧ (releasePort s).ext = s.ext := by
  unfold releasePort
  split_ifs
  · rw [report_rests hs hr rfl h]
    simp
  · simp
  · simp

/-- R150: a report under a set latch has its answer behind it. -/
theorem report_cell_settled {c : FaultCause} {s : State} (hs : s.start.strapFault = false)
    (hc : c.isCellStop = true) (hl : s.stop.latch = true) :
    (report c s).seq = s.seq ∧ (report c s).follow = s.follow := by
  obtain ⟨u, hu, ⟨he, -⟩ | ⟨-, -, h⟩ | ⟨-, h⟩⟩ := report_answered c hs
  · exact ⟨by rw [he, hu.seq], by rw [he, hu.follow]⟩
  · simp [hl] at h
  · simp [hc] at h

theorem releasePort_latched {s : State} (hs : s.start.strapFault = false) (hl : s.stop.latch = true) :
    (releasePort s).seq = s.seq ∧ (releasePort s).follow = s.follow := by
  unfold releasePort
  split_ifs
  · exact report_cell_settled hs rfl hl
  · simp
  · simp

/-- R51, R153: the fault of a port that stays TRIPPED locks the record that the release has unlocked. -/
theorem staysTripped_report {s : State} (old : State) (hs : s.start.strapFault = false)
    (ht : s.travel.tripped = true) (hr : s.stop.record = none) :
    StaysTripped (finish old (report .driveFault s))
      ∧ (finish old (report .driveFault s)).stop.record = some (s.lockedPart .driveFault) := by
  obtain ⟨hlatch, hdriving, hframe⟩ := report_stops hs (c := .driveFault) rfl
  obtain ⟨hrec, hfurther⟩ := report_record .driveFault s hs
  simp only [hr, Option.getD_none, Option.isSome_none, Bool.false_eq_true, if_false] at hrec hfurther
  have hzero : (finish old (report .driveFault s)).travel.applied = 0 := by
    rw [applied_finish, if_pos (report_forced _ s hs)]
  exact ⟨⟨by simpa using ht, hzero, by simpa using hlatch, by simpa using hdriving, by simpa using hfurther,
    by simpa using hframe, _, by simpa using hrec, rfl⟩, by simpa using hrec⟩

/-! ## CLEAR: all blocks -/

/-- R25, R60, R68, R85, R111, R156, R157: a CLEAR before the drive port acts. -/
def cleared (s : State) : State := freshChecks (freeArm (clearSequencer (clearStop s)))

theorem clearStation_eq (s : State) : clearStation s = releasePort (cleared s) := rfl

@[simp] theorem cleared_keeps (s : State) :
    (cleared s).start = s.start ∧ (cleared s).lines = s.lines ∧ (cleared s).travel.tripped = s.travel.tripped
      ∧ (cleared s).travel.counter = s.travel.counter ∧ (cleared s).load.nextIndex = s.load.nextIndex
      ∧ (cleared s).load.last = s.load.last ∧ (cleared s).load.overPrev = false
      ∧ (cleared s).pair.overLimit = false := by
  simp [cleared]
  simp [freshChecks]

theorem cleared_stop {s : State} (hs : s.start.strapFault = false) :
    (cleared s).stop = { latch := s.lines.stopLow, driving := false, record := none, further := 0 } := by
  simp [cleared, clearStop_stop hs]

/-- R156: a CLEAR under a low line whose latch is set already. -/
theorem cleared_low {s : State} (h : s.lines.stopLow = true) (hl : s.stop.latch = true) :
    (cleared s).seq = s.seq ∧ (cleared s).follow = s.follow
      ∧ (cleared s).link = (pushNotice .clearRefused (unlocked s)).link := by
  have hlatch : (clearStop s).stop.latch = true := by simp [clearStop_low_latched h hl, unlocked, hl]
  simp only [cleared, clearSequencer_latched hlatch]
  simp [clearStop_low_latched h hl, unlocked]

theorem cleared_high_notices {s : State} (h : s.lines.stopLow = false) :
    (cleared s).link.notices = s.link.notices := by
  simp [cleared, clearSequencer_notices, clearStop_high h]

/-- R25: a halted test sequencer rests. -/
theorem cleared_idles {s : State} (h : s.lines.stopLow = false) (hf : s.isFollow = false)
    (hq : s.seq.state = .stopped ∨ s.seq.state = .faulted) :
    (cleared s).seq.state = .idle ∧ (cleared s).seq.order = none ∧ (cleared s).seq.phase = 0
      ∧ (cleared s).load.rangeMode = .auto ∧ (cleared s).load.spanOpen = false ∧ (cleared s).ext.offset = 0
      ∧ (cleared s).travel.window = [] ∧ (cleared s).travel.regValue = 0 := by
  have hidle := clearSequencer_idles
    (s := s.setStop { latch := false, driving := false, record := none, further := 0 }) rfl rfl hf hq
  simp [cleared, clearStop_high h, hidle]

/-- R68: a halted follow sequencer rests. -/
theorem cleared_followIdles {s : State} (h : s.lines.stopLow = false) (hf : s.isFollow = true)
    (hq : s.follow.state = .stopped ∨ s.follow.state = .faulted) :
    (cleared s).follow = { state := .idle, share := 0, asked := 0, lossSamples := 0 }
      ∧ (cleared s).travel.regValue = 0 ∧ (cleared s).travel.window = [] := by
  have hidle := clearSequencer_followIdles
    (s := s.setStop { latch := false, driving := false, record := none, further := 0 }) rfl rfl hf hq
  simp [cleared, clearStop_high h, hidle, restFollow]

theorem cleared_jammed {s : State} (hj : s.ext.state = .jammed) :
    (cleared s).ext.state = if s.lines.armOpen then .parked else .jammed := by
  simp [cleared, freeArm_jammed (clearSequencer_jammed (clearStop_jammed hj))]

/-- R111: the port's answer does not move an arm that no command has closed. -/
theorem releasePort_arm {s : State} (h : s.ext.state.closes = false) :
    (releasePort s).ext.state = s.ext.state := by
  unfold releasePort
  split_ifs
  · exact (report_arm_of_open .driveFault h).1
  · simp
  · rfl

theorem isFollow_cleared (s : State) : (cleared s).isFollow = s.isFollow := by simp [State.isFollow]

/-- R51, R156: a CLEAR that the drive port answers with nothing or with ACTIVE. -/
theorem clearStation_recovered {s : State} (hs : s.start.strapFault = false)
    (h : s.travel.tripped = false ∨ s.lines.ampFault = false) :
    (clearStation s).stop = { latch := s.lines.stopLow, driving := false, record := none, further := 0 }
      ∧ (clearStation s).travel.tripped = false
      ∧ (s.lines.stopLow = true → s.stop.latch = true → s.link.notices.length < 8 →
          (clearStation s).link.notices = s.link.notices ++ [{ kind := .clearRefused, index := s.lastIndex }]) := by
  rw [clearStation_eq, releasePort_recovered (by simpa using h)]
  refine ⟨by simp [cleared_stop hs], by simp, fun hlow hl hroom => ?_⟩
  obtain ⟨-, -, hlink⟩ := cleared_low hlow hl
  simp only [setTravel_fields, hlink]
  exact pushNotice_notices (s := unlocked s) _ hroom

/-- R51, R156: a CLEAR that the drive port answers with the fault anew. -/
theorem clearStation_faulty {s : State} (old : State) (hs : s.start.strapFault = false)
    (ht : s.travel.tripped = true) (ha : s.lines.ampFault = true) :
    StaysTripped (finish old (clearStation s))
      ∧ (s.lines.stopLow = false → s.link.notices.length < 8 → ∃ r more,
          (finish old (clearStation s)).stop.record = some r
            ∧ (finish old (clearStation s)).link.notices
              = s.link.notices ++ { kind := .fault .driveFault (some r), index := s.lastIndex } :: more) := by
  have hrec : (cleared s).stop.record = none := by simp [cleared_stop hs]
  rw [clearStation_eq, releasePort_faulty (by simpa) (by simpa)]
  obtain ⟨hstays, hlocked⟩ := staysTripped_report old (s := cleared s) (by simpa) (by simpa) hrec
  refine ⟨hstays, fun hhigh hroom => ⟨(cleared s).lockedPart .driveFault, ?_⟩⟩
  have hnotices := cleared_high_notices hhigh
  obtain ⟨more, hmore⟩ := report_notices .driveFault (s := cleared s) (by simpa) (by rwa [hnotices])
  rw [faultNotice_unlocked _ hrec, hnotices] at hmore
  exact ⟨more, hlocked, by simpa [State.lastIndex] using hmore⟩

/-- R51: after a release from TRIPPED the drive port is at zero. -/
theorem clearStation_applied (old : State) {s : State} (hs : s.start.strapFault = false)
    (ht : s.travel.tripped = true) : (finish old (clearStation s)).travel.applied = 0 := by
  rw [clearStation_eq]
  cases ha : s.lines.ampFault with
  | true =>
    rw [releasePort_faulty (by simpa) (by simpa), applied_finish, if_pos (report_forced _ _ (by simpa))]
  | false =>
    rw [releasePort_recovered (.inr (by simpa))]
    exact applied_finish_of_zero _ (by simp [ht])

/-- R25, R51: the port's answer leaves the rest of the test sequencer alone. -/
theorem clearStation_idles {s : State} (hs : s.start.strapFault = false) (h : s.lines.stopLow = false)
    (hf : s.isFollow = false) (hq : s.seq.state = .stopped ∨ s.seq.state = .faulted) :
    (clearStation s).seq.state = .idle ∧ (clearStation s).seq.order = none ∧ (clearStation s).seq.phase = 0
      ∧ (clearStation s).load.rangeMode = .auto ∧ (clearStation s).load.spanOpen = false
      ∧ (clearStation s).ext.offset = 0 ∧ (clearStation s).travel.window = []
      ∧ (clearStation s).travel.regValue = 0 := by
  have hidle := cleared_idles h hf hq
  have hrests : Rests (cleared s) := ⟨fun _ => hidle.1, fun hn => by simp [isFollow_cleared, hf] at hn⟩
  obtain ⟨hseq, -, hload, hext⟩ := releasePort_rests (by simpa) (by simp [cleared_stop hs]) hrests
  simp [clearStation_eq, hseq, hload, hext, hidle]

theorem clearStation_followIdles {s : State} (hs : s.start.strapFault = false) (h : s.lines.stopLow = false)
    (hf : s.isFollow = true) (hq : s.follow.state = .stopped ∨ s.follow.state = .faulted) :
    (clearStation s).follow = { state := .idle, share := 0, asked := 0, lossSamples := 0 }
      ∧ (clearStation s).travel.regValue = 0 ∧ (clearStation s).travel.window = [] := by
  have hidle := cleared_followIdles h hf hq
  have hrests : Rests (cleared s) :=
    ⟨fun hn => by simp [isFollow_cleared, hf] at hn, fun _ => by rw [hidle.1]⟩
  obtain ⟨-, hfollow, -⟩ := releasePort_rests (by simpa) (by simp [cleared_stop hs]) hrests
  simp [clearStation_eq, hfollow, hidle]

theorem clearStation_jammed {s : State} (hj : s.ext.state = .jammed) :
    (clearStation s).ext.state = if s.lines.armOpen then .parked else .jammed := by
  have harm := cleared_jammed hj
  have hopen : (cleared s).ext.state.closes = false := by
    rw [harm]
    split <;> rfl
  rw [clearStation_eq, releasePort_arm hopen, harm]

/-- R25, R156: a refused CLEAR leaves the sequencers alone. -/
theorem clearStation_low {s : State} (hs : s.start.strapFault = false) (h : s.lines.stopLow = true)
    (hl : s.stop.latch = true) : (clearStation s).seq = s.seq ∧ (clearStation s).follow = s.follow := by
  obtain ⟨hseq, hfollow, -⟩ := cleared_low h hl
  obtain ⟨hseq', hfollow'⟩ := releasePort_latched (s := cleared s) (by simpa) (by simp [cleared_stop hs, h])
  exact ⟨by rw [clearStation_eq, hseq', hseq], by rw [clearStation_eq, hfollow', hfollow]⟩

theorem exec_clear_takes {f : RxFrame} {lines : Lines} {s : State} (ht : Takes f s) (h0 : f.sender = 0)
    (hd : f.dest.toNat = s.start.number ∨ f.dest = 15) (hp : f.payload = []) :
    exec (.clear f lines) s = .next (finish s (clearStation (heard f (s.setLines lines)))) := by
  have hto : toOwnOrAll f (heard f (s.setLines lines)) = true := by simpa [toOwnOrAll, h0] using hd
  rw [exec_frame_takes (c := .clear f lines) rfl ht]
  simp [frameAct, clearAct, hto, hp, reportedLines]

/-- Settles O58: the station is cleared (`cleared`) before the drive port answers, and the answer is nothing, ACTIVE
again, or the fault anew. -/
theorem clearReleasesStop : Obligations.ClearReleasesStop := by
  unfold Obligations.ClearReleasesStop
  intro f lines s ht h0 hd hp
  rw [exec_clear_takes ht h0 hd hp, next_iff]
  have hs : (heard f (s.setLines lines)).start.strapFault = false := by simpa using ht.1
  have hfollow : (heard f (s.setLines lines)).isFollow = s.isFollow := by simp [State.isFollow]
  refine ⟨fun h => ?_, fun htrip ha => ?_, by simp, by simp [clearStation_eq], by simp [clearStation_eq],
    by simp [clearStation_eq], by simp [clearStation_eq], by simp, fun h => clearStation_applied s hs (by simpa),
    fun h hf hq => ?_, fun h hf hq => ?_, fun hj => ?_, fun h hl => ?_⟩
  · obtain ⟨hstop, htripped, hnotices⟩ := clearStation_recovered hs (by simpa using h)
    exact ⟨by simp [hstop], by simp [hstop], by simp [hstop], by simp [hstop], by simpa using htripped,
      by simpa [State.lastIndex] using hnotices⟩
  · simpa [State.lastIndex] using clearStation_faulty s hs (by simpa using htrip) (by simpa using ha)
  · simp [clearStation_idles hs (by simpa using h) (hfollow.trans hf) (by simpa using hq)]
  · simp [clearStation_followIdles hs (by simpa using h) (hfollow.trans hf) (by simpa using hq)]
  · simp [clearStation_jammed (s := heard f (s.setLines lines)) (by simpa using hj)]
  · simp [clearStation_low hs (by simpa using h) (by simpa using hl)]

end Sys2Proof.Proofs
end

section
namespace Sys2Proof.Proofs
open Sys2Proof.Machine Sys2Proof.Safety Sys2Proof.Laws

/-! ## What is set in the stop and fault unit stays set -/

theorem StopGrows.trans {s t u : State} (h : StopGrows s t) (h' : StopGrows t u) : StopGrows s u := by
  obtain ⟨hrec, hlatch, hdriving⟩ := h
  obtain ⟨hrec', hlatch', hdriving'⟩ := h'
  exact ⟨fun k hk => hrec' k (hrec k hk), fun hl => hlatch' (hlatch hl), fun hd => hdriving' (hdriving hd)⟩

/-- A report from a state with the same stop and fault unit. -/
theorem stopGrows_reportFrom (c : FaultCause) {s u : State} (h : u.stop = s.stop) : StopGrows s (report c u) :=
  (StopGrows.of_eq h).trans (report_stopGrows c u)

theorem stopGrows_setLatch (s : State) : StopGrows s (setLatch s) := by
  refine ⟨fun k hk => by simpa using hk, fun hl => ?_, fun hd => by simpa using hd⟩
  rw [setLatch_of_set hl, hl]

theorem stopGrows_finish (old s : State) : StopGrows s (finish old s) := .of_eq (by simp)

/-! ### The sample -/

/-- R5, R101: the handling of a sample reports nothing but what the first check finds. -/
theorem stopGrows_handledIn {checked ended : Bool} {x : ExtView} {r : SampleRec} {s t : State}
    (h : HandledIn checked ended x r s t) : StopGrows s t := by
  obtain ⟨n, m, h⟩ := h
  have hfirst : StopGrows s (checkFirst checked r (s.setFree n)) :=
    (StopGrows.of_eq rfl).trans (reportRun_checkFirst checked r (s.setFree n)).stopGrows
  refine hfirst.trans (.of_eq ?_)
  rcases h with ⟨-, rfl⟩ | ⟨-, rfl | rfl⟩ <;> simp

theorem stopGrows_handSample (checked ended : Bool) (x : ExtView) (r : SampleRec) (s : State) :
    StopGrows s (handSample checked x r ended s) := by
  unfold handSample
  split
  · exact .of_eq (by simp)
  · have hgrips : StopGrows s (takeGripsUnreported s) := .of_eq (by simp)
    exact hgrips.trans (stopGrows_handledIn (handledIn_testSample checked ended x r _ _))

theorem stopGrows_completeSample (reading : Int) (strain : Option Int) (s : State) :
    StopGrows s (completeSample reading strain s) := by
  obtain ⟨n, hn⟩ := drawCheck_draws (takenSample (loadView reading strain s) s)
  have hdrawn : StopGrows s (drawCheck (takenSample (loadView reading strain s) s)).2 := by
    rw [hn]
    exact .of_eq (by simp [takenSample])
  exact hdrawn.trans ((stopGrows_handSample _ _ _ _ _).trans (reportRun_moveSample _ _ _ _).stopGrows)

theorem stopGrows_loadConversionEnd (reading : Int) (s : State) : StopGrows s (loadConversionEnd reading s) := by
  unfold loadConversionEnd
  split_ifs
  · exact .of_eq rfl
  · exact stopGrows_completeSample _ _ s
  · exact .of_eq rfl

theorem stopGrows_strainConversionEnd (reading : Int) (s : State) : StopGrows s (strainConversionEnd reading s) := by
  unfold strainConversionEnd
  split
  · split
    · exact .of_eq rfl
    · exact (StopGrows.of_eq (by simp)).trans (stopGrows_completeSample _ _ _)
  · exact .of_eq rfl

/-! ### The timeouts -/

theorem stopGrows_holdExpired (s : State) : StopGrows s (holdExpired s) := by
  unfold holdExpired
  split
  · exact report_stopGrows _ s
  · exact .of_eq rfl

theorem stopGrows_budgetExpired (s : State) : StopGrows s (budgetExpired s) := by
  unfold budgetExpired
  split
  · exact report_stopGrows _ s
  · exact .of_eq rfl

theorem stopGrows_endingExpired (s : State) : StopGrows s (endingExpired s) := by
  unfold endingExpired
  split
  · exact report_stopGrows _ s
  · exact .of_eq rfl

/-! ### The arm -/

/-- R98: an attach that fails reports at most one fault. -/
theorem stopGrows_failAttach (k : ExtEventKind) (code : Nat) (c : FaultCause) (s : State) :
    StopGrows s (failAttach k code c s) := by
  unfold failAttach attachEvent
  split_ifs
  · exact .of_eq (by simp)
  · exact stopGrows_reportFrom c (by simp)
  · exact .of_eq (by simp)

theorem stopGrows_seatLost (s : State) : StopGrows s (seatLost s) := by
  unfold seatLost
  split
  · exact stopGrows_failAttach _ _ _ s
  · exact stopGrows_failAttach _ _ _ s
  · exact .of_eq (by simp)
  · exact .of_eq rfl

theorem stopGrows_closeExpired (s : State) : StopGrows s (closeExpired s) := by
  unfold closeExpired
  split
  · exact stopGrows_failAttach _ _ _ s
  · exact .of_eq rfl

theorem stopGrows_identExpired (s : State) : StopGrows s (identExpired s) := by
  unfold identExpired
  split
  · exact stopGrows_failAttach _ _ _ s
  · exact .of_eq rfl

theorem stopGrows_openExpired (s : State) : StopGrows s (openExpired s) := by
  unfold openExpired
  split
  · dsimp only
    split
    · split
      · exact stopGrows_reportFrom _ (by simp)
      · exact .of_eq (by simp)
    · exact .of_eq (by simp)
  · exact .of_eq rfl

theorem stopGrows_examineWord (w : BitVec 32) (s : State) : StopGrows s (examineWord w s) := by
  have hwritten : StopGrows s (writeIdRec w s) := .of_eq (by simp)
  unfold examineWord
  split_ifs
  · exact stopGrows_failAttach _ _ _ s
  · exact hwritten.trans (stopGrows_failAttach _ _ _ _)
  · exact hwritten.trans (stopGrows_failAttach _ _ _ _)
  · exact .of_eq (by simp)
  · exact .of_eq rfl

/-! ### Start-up and the tick -/

theorem stopGrows_latchIfLow (s : State) : StopGrows s (latchIfLow s) := by
  unfold latchIfLow
  split
  · exact stopGrows_setLatch s
  · exact .of_eq rfl

theorem stopGrows_startIntervalEnd (lines : Lines) (s : State) : StopGrows s (startIntervalEnd lines s) := by
  unfold startIntervalEnd
  dsimp only
  split
  · exact .of_eq rfl
  · have hplaced : ∀ l u, StopGrows u (placeStatus (State.setLink u l)) := fun _ _ => .of_eq rfl
    refine .trans ?_ (hplaced _ _)
    refine .trans ?_ (stopGrows_latchIfLow _)
    exact .of_eq rfl

theorem stopGrows_takeStep (due : Bool) {act : State → State} (h : ∀ t, StopGrows t (act t)) (s : State) :
    StopGrows s (takeStep due act s) := by
  unfold takeStep
  split
  · exact (h s).trans (.of_eq (by simp))
  · exact .of_eq rfl

theorem stopGrows_settleTimers (s : State) : StopGrows s (settleTimers s) :=
  (stopGrows_takeStep _ (fun t => stopGrows_startIntervalEnd _ t) s).trans
    ((stopGrows_takeStep _ stopGrows_closeExpired _).trans
      ((stopGrows_takeStep _ stopGrows_identExpired _).trans (stopGrows_takeStep _ stopGrows_openExpired _)))

theorem stopGrows_settleCounts (s : State) : StopGrows s (settleCounts s) :=
  stopGrows_takeStep _ (fun _ => .of_eq (by simp)) s

theorem stopGrows_settleSample (s : State) : StopGrows s (settleSample s) :=
  stopGrows_takeStep _ (fun t => (StopGrows.of_eq (t := rangeDown (rangeSettled t)) (by simp)).trans
    ((tareJudged_stopGrows _).trans (.of_eq (by simp)))) s

theorem stopGrows_settleTimeouts (s : State) : StopGrows s (settleTimeouts s) :=
  stopGrows_takeStep _ (fun t => (stopGrows_holdExpired t).trans ((stopGrows_budgetExpired _).trans
    ((stopGrows_endingExpired _).trans (.of_eq (by simp))))) s

theorem stopGrows_settleLines (s : State) : StopGrows s (settleLines s) :=
  (stopGrows_takeStep _ (fun _ => .of_eq (by simp)) s).trans
    ((stopGrows_takeStep _ stopGrows_seatLost _).trans (stopGrows_takeStep _ (fun _ => .of_eq (by simp)) _))

theorem stopGrows_settleAll (s : State) : StopGrows s (settleAll s) :=
  (stopGrows_settleTimers s).trans ((stopGrows_settleCounts _).trans ((stopGrows_settleSample _).trans
    ((stopGrows_settleTimeouts _).trans ((stopGrows_settleLines _).trans
      (.of_eq (t := statusTimer (levelTimer _)) (by simp))))))

theorem stopGrows_examineAmplifier (s : State) : StopGrows s (examineAmplifier s) := by
  unfold examineAmplifier
  split
  · exact stopGrows_reportFrom _ (by simp)
  · exact .of_eq rfl

theorem stopGrows_sampleTick (lines : Lines) (s : State) : StopGrows s (sampleTick lines s) := by
  have hcore : StopGrows s (tickCore ((settleAll s).setLines lines)) :=
    (stopGrows_settleAll s).trans (.of_eq (by simp))
  unfold sampleTick
  dsimp only
  split
  · exact hcore
  · exact hcore.trans (.trans (.of_eq (by simp)) (stopGrows_examineAmplifier _))

/-! ### The frames -/

/-- R114, R125, R132: the content of a frame is acted on in the state that has heard it, or not at all. -/
theorem receive_heard_or_grows (f : RxFrame) (act : State → State) (s : State) :
    receive f act s = act (heard f s)
      ∨ (StopGrows s (receive f act s) ∧ (receive f act s).start = s.start) := by
  by_cases ht : Takes f s
  · exact .inl (receive_takes act ht)
  · right
    unfold receive examineHeader
    dsimp only
    split_ifs with htakes hstrap h15 hown
    · exact ⟨.of_eq rfl, rfl⟩
    · exact ⟨.of_eq rfl, rfl⟩
    · exact ⟨stopGrows_reportFrom _ rfl, by simp⟩
    · exact absurd ⟨by simpa using hstrap, htakes, h15, hown⟩ ht
    · exact ⟨.of_eq rfl, rfl⟩

theorem stopGrows_receive (f : RxFrame) {act : State → State} (h : ∀ t, StopGrows t (act t)) (s : State) :
    StopGrows s (receive f act s) := by
  rcases receive_heard_or_grows f act s with he | ⟨hg, -⟩
  · rw [he]
    exact (StopGrows.of_eq (by simp)).trans (h _)
  · exact hg

theorem stopGrows_statusAct (f : RxFrame) (s : State) : StopGrows s (statusAct f s) := by
  unfold statusAct
  split
  · exact .of_eq rfl
  · split
    · exact report_stopGrows _ s
    · split
      · exact .of_eq rfl
      · split
        · exact .of_eq (by simp)
        · exact .of_eq rfl

theorem stopGrows_loseUnits (s : State) : StopGrows s (loseUnits s) := by
  unfold loseUnits
  dsimp only
  split
  · exact stopGrows_reportFrom _ (by simp)
  · exact .of_eq (by simp)

theorem stopGrows_reclaimAct (f : RxFrame) (s : State) : StopGrows s (reclaimAct f s) := by
  unfold reclaimAct reclaimNode
  split
  · split_ifs
    · exact (StopGrows.of_eq (by simp)).trans (stopGrows_loseUnits _)
    · exact .of_eq (by simp)
    · exact .of_eq rfl
    · exact .of_eq rfl
  · exact .of_eq rfl

/-- R150, R152: the content of a frame that may unlock nothing. -/
theorem stopGrows_frameAct {c : Instr} (h : Unlocks c = false) (s : State) : StopGrows s (frameAct c s) := by
  cases c <;> simp only [frameAct]
  case stopFrame f => exact stopGrows_setLatch s
  case statusFrame f => exact stopGrows_statusAct f s
  case reclaim f => exact stopGrows_reclaimAct f s
  case clear | restart => simp [Unlocks] at h
  all_goals exact .of_eq (by simp)

/-! ### Every command -/

theorem exec_stopGrows {c : Instr} (h : Unlocks c = false) (s : State) : Next (exec c s) (StopGrows s) := by
  have hfinish : ∀ {t : State}, StopGrows s t → Next (.next (finish s t)) (StopGrows s) :=
    fun ht => ⟨_, rfl, ht.trans (stopGrows_finish s _)⟩
  by_cases hf : ∃ f, frameOf c = some f
  · obtain ⟨f, hf⟩ := hf
    rw [exec_frame hf]
    exact hfinish (.trans (t := s.setLines (reportedLines c s.lines)) (.of_eq rfl)
      (stopGrows_receive f (stopGrows_frameAct h) _))
  by_cases hb : Block.stop ∈ mayChange c
  · cases c
    case startIntervalEnd lines => exact hfinish (stopGrows_startIntervalEnd lines s)
    case sampleTick lines => exact hfinish (stopGrows_sampleTick lines s)
    case loadConversionEnd x => exact hfinish (stopGrows_loadConversionEnd x s)
    case strainConversionEnd x => exact hfinish (stopGrows_strainConversionEnd x s)
    case tareAttemptJudged => exact hfinish (tareJudged_stopGrows s)
    case holdTimeout => exact hfinish (stopGrows_holdExpired s)
    case budgetTimeout => exact hfinish (stopGrows_budgetExpired s)
    case endingTimeout => exact hfinish (stopGrows_endingExpired s)
    case armClosedLow => exact hfinish (stopGrows_seatLost (s.armClosedLine false))
    case identWord w => exact hfinish (stopGrows_examineWord w s)
    case extCloseTimeout => exact hfinish (stopGrows_closeExpired s)
    case identTimeout => exact hfinish (stopGrows_identExpired s)
    case extOpenTimeout => exact hfinish (stopGrows_openExpired s)
    case stopLineFall low => exact hfinish (stopGrows_setLatch (s.setLines { s.lines with stopLow := low }))
    case powerOnReset => simp [Unlocks] at h
    case reportFrame cls f =>
      refine hfinish ?_
      unfold reportFrame
      split_ifs
      · exact stopGrows_receive f (fun _ => .of_eq rfl) s
      · exact .of_eq rfl
      · exact .of_eq rfl
    case grantFrame | levelFrame | stopFrame | statusFrame | config | order | abort | clear | restart | reclaim =>
      exact absurd ⟨_, rfl⟩ hf
    all_goals simp [mayChange] at hb
  · obtain ⟨u, he, -, hblocks⟩ := exec_framed c s
    rw [he]
    exact hfinish (.of_eq (hblocks .stop hb))

/-- R156: a RESTART unlocks the record, and the latch stays. -/
theorem restartAct_latch (f : RxFrame) {s : State} (h : s.stop.latch = true) : (restartAct f s).stop.latch = true := by
  obtain ⟨-, hlatch, -⟩ : StopGrows (restarted s) (releasePort (restarted s)) := by
    unfold releasePort
    split_ifs
    · exact report_stopGrows _ _
    · exact .of_eq (by simp)
    · exact .of_eq rfl
  unfold restartAct
  split
  · rw [restartStation_eq]
    exact hlatch (by simpa using h)
  · exact h

theorem exec_restart_latch (f : RxFrame) (lines : Lines) {s : State} (h : s.stop.latch = true) :
    Next (exec (.restart f lines) s) fun t => t.stop.latch = true := by
  rw [exec_frame (c := .restart f lines) rfl, next_iff]
  rcases receive_heard_or_grows f (restartAct f) (s.setLines lines) with he | ⟨⟨-, hlatch, -⟩, -⟩
  · simpa [frameAct, reportedLines, he] using restartAct_latch f (s := heard f (s.setLines lines)) (by simpa using h)
  · simpa [frameAct, reportedLines] using hlatch h

/-! ## The configuration and the strap word -/

/-- R172, R178: what CONFIG and the strap word have fixed is the same in both states. -/
def SameStation (s t : State) : Prop :=
  t.start.config = s.start.config ∧ t.start.strapWord = s.start.strapWord ∧ t.start.number = s.start.number
    ∧ t.start.role = s.start.role ∧ t.start.partner = s.start.partner ∧ t.start.strapFault = s.start.strapFault

theorem SameStation.of_start {s t : State} (h : t.start = s.start) : SameStation s t := by
  simp [SameStation, h]

/-- R174: the end of the start interval changes the interval alone. -/
theorem startIntervalEnd_station (lines : Lines) (s : State) : SameStation s (startIntervalEnd lines s) := by
  unfold startIntervalEnd
  dsimp only
  split <;> simp [SameStation]

theorem sampleTick_station (lines : Lines) (s : State) : SameStation s (sampleTick lines s) := by
  have hstart : (sampleTick lines s).start = (settleAll s).start := by
    rw [sampleTick_proj (·.start) (by simp) (by simp) (by simp) (by simp) (by simp)]
    simp
  simp [SameStation, hstart]

/-- R178: a configured station refuses every CONFIG. -/
theorem configAct_configured (f : RxFrame) {s : State} (h : s.start.config.isSome = true) :
    (configAct f s).start = s.start := by
  unfold configAct takeConfig
  split <;> simp [State.configured, h]

theorem receive_configAct_start (f : RxFrame) {s : State} (h : s.start.config.isSome = true) :
    (receive f (configAct f) s).start = s.start := by
  rcases receive_heard_or_grows f (configAct f) s with he | ⟨-, hstart⟩
  · rw [he, configAct_configured f (by simpa using h)]
    simp
  · exact hstart

/-- R172, R178: after CONFIG nothing but a power-on reset changes what is fixed. -/
theorem exec_sameStation {c : Instr} {s : State} (hc : ∀ w, c ≠ .powerOnReset w) (h : s.start.config.isSome = true) :
    Next (exec c s) (SameStation s) := by
  have hfinish : ∀ {t : State}, SameStation s t → Next (.next (finish s t)) (SameStation s) :=
    fun ht => ⟨_, rfl, by simpa [SameStation] using ht⟩
  by_cases hb : Block.start ∈ mayChange c
  · cases c
    case powerOnReset w => exact absurd rfl (hc w)
    case startIntervalEnd lines => exact hfinish (startIntervalEnd_station lines s)
    case sampleTick lines => exact hfinish (sampleTick_station lines s)
    case config f => exact hfinish (.of_start (receive_configAct_start f h))
    all_goals simp [mayChange, reportBlocks] at hb
  · obtain ⟨u, he, -, hblocks⟩ := exec_framed c s
    rw [he]
    exact hfinish (.of_start (hblocks .start hb))

/-- Settles O9: every command but those named lets the stop and fault unit grow only (`exec_stopGrows`), a RESTART
leaves the latch (`exec_restart_latch`), and the station stays what it is (`exec_sameStation`). -/
theorem onlyNamedCommandsRelease : Obligations.OnlyNamedCommandsRelease := by
  unfold Obligations.OnlyNamedCommandsRelease
  refine ⟨fun c s r hc hr => ?_, fun c s hc hl => ?_, fun c s k hc hk => ?_⟩
  · obtain ⟨t, he, hrec, -⟩ := exec_stopGrows hc s
    exact ⟨t, he, hrec r hr⟩
  · by_cases hu : Unlocks c = false
    · obtain ⟨t, he, -, hlatch, -⟩ := exec_stopGrows hu s
      exact ⟨t, he, hlatch hl⟩
    · cases c
      case restart f lines => exact exec_restart_latch f lines hl
      case powerOnReset | clear => simp [ClearsLatch] at hc
      all_goals simp [Unlocks] at hu
  · obtain ⟨t, he, hconfig, hfixed⟩ := exec_sameStation (s := s) hc (by simp [hk])
    exact ⟨t, he, hconfig.trans hk, hfixed⟩

end Sys2Proof.Proofs
end

section
namespace Sys2Proof.Proofs
open Sys2Proof.Machine Sys2Proof.Safety Sys2Proof.Laws

/-! ## The curve over an operation -/

/-- R161 to R164: the store and the counts of `t` are those of `s`, the same frame is in flight, and the CURVE slot is
as it was or has taken the oldest samples of the store while no CURVE frame of the station's own was in flight. -/
structure CurveFollows (s t : State) : Prop where
  store : t.recorder.store = s.recorder.store
  offered : t.recorder.offered = s.recorder.offered
  lost : t.recorder.lost = s.recorder.lost
  sent : t.recorder.sent = s.recorder.sent
  decCount : t.recorder.decCount = s.recorder.decCount
  flight : t.link.inFlight = s.link.inFlight
  slot : t.link.curve = s.link.curve
    ∨ (s.link.curveInFlight = false ∧ ∃ c, t.link.curve = some c ∧ c.samples <+: s.recorder.store)

theorem curveInFlight_congr {l m : Link} (h : m.inFlight = l.inFlight) : m.curveInFlight = l.curveInFlight := by
  simp only [Link.curveInFlight, h]

theorem curveInFlight_of_curve {l : Link} {i : InFlight} {c : Curve} (h : l.inFlight = some i)
    (hc : i.frame = .curve c) : l.curveInFlight = true := by
  obtain ⟨frame, epoch, inStep, disowned⟩ := i
  obtain rfl : frame = .curve c := hc
  simp [Link.curveInFlight, h]

theorem curveInFlight_of_other {l : Link} {i : InFlight} (h : l.inFlight = some i) (hc : ∀ c, i.frame ≠ .curve c) :
    l.curveInFlight = false := by
  obtain ⟨frame, epoch, inStep, disowned⟩ := i
  unfold Link.curveInFlight
  rw [h]
  cases frame <;> simp_all

namespace CurveFollows

variable {s t u : State}

theorem of_same (h : t.recorder.store = s.recorder.store ∧ t.recorder.offered = s.recorder.offered
    ∧ t.recorder.lost = s.recorder.lost ∧ t.recorder.sent = s.recorder.sent
    ∧ t.recorder.decCount = s.recorder.decCount ∧ t.link.inFlight = s.link.inFlight
    ∧ t.link.curve = s.link.curve) : CurveFollows s t := by
  obtain ⟨hstore, hoffered, hlost, hsent, hcount, hflight, hslot⟩ := h
  exact ⟨hstore, hoffered, hlost, hsent, hcount, hflight, .inl hslot⟩

theorem of_units (hrecorder : t.recorder = s.recorder) (hlink : t.link = s.link) : CurveFollows s t :=
  .of_same (by simp [hrecorder, hlink])

theorem refl (s : State) : CurveFollows s s := .of_units rfl rfl

theorem trans (h : CurveFollows s t) (h' : CurveFollows t u) : CurveFollows s u where
  store := h'.store.trans h.store
  offered := h'.offered.trans h.offered
  lost := h'.lost.trans h.lost
  sent := h'.sent.trans h.sent
  decCount := h'.decCount.trans h.decCount
  flight := h'.flight.trans h.flight
  slot := by
    rcases h'.slot with he | ⟨hfree, hplaced⟩
    · rw [he]
      exact h.slot
    · rw [curveInFlight_congr h.flight] at hfree
      rw [h.store] at hplaced
      exact .inr ⟨hfree, hplaced⟩

/-- R163, R164: the account reads nothing but the counts, and a frame placed afresh carries the oldest samples. -/
theorem keeps_sound (h : CurveFollows s t) (hs : CurveSound s) : CurveSound t := by
  obtain ⟨haccount, hpending, hflying⟩ := hs
  refine ⟨by rwa [CurveAccount, h.store, h.offered, h.lost, h.sent], fun c hc => ?_, fun i c hi hc hd => ?_⟩
  · rw [CarriesOldest, h.store, curveInFlight_congr h.flight]
    rcases h.slot with he | ⟨hfree, k, hk, holdest⟩
    · exact hpending c (he ▸ hc)
    · obtain rfl : k = c := by simpa [hk] using hc
      exact ⟨holdest, hfree⟩
  · rw [CarriesOldest, h.store]
    exact hflying i c (h.flight ▸ hi) hc hd

theorem noticed (k : NoticeKind) (s : State) : CurveFollows s (pushNotice k s) := .of_same (by simp)

/-! ### The record unit -/

/-- R164: a placement takes an empty slot, and only while no CURVE frame is in flight. -/
theorem judgeCurve (s : State) : CurveFollows s (judgeCurve s) := by
  unfold Machine.judgeCurve
  split
  · rename_i hdue
    simp only [curveDue, Bool.and_eq_true, Bool.not_eq_true'] at hdue
    obtain ⟨⟨-, hfree⟩, -⟩ := hdue
    exact ⟨rfl, rfl, rfl, rfl, rfl, rfl, .inr ⟨hfree, _, rfl, List.take_prefix _ _⟩⟩
  · exact refl s

theorem closeCollection (s : State) : CurveFollows s (closeCollection s) := by
  unfold Machine.closeCollection
  split
  · exact refl s
  · exact .trans (.of_same (by simp)) (judgeCurve _)

theorem endTest (o : TestOutcome) (s : State) : CurveFollows s (endTest o s) := by
  refine .trans ?_ ((noticed _ _).trans ((closeCollection _).trans (.of_units rfl rfl)))
  exact .of_units rfl rfl

/-! ### The stop latch and the fault report -/

theorem haltSequencer (q : SeqState) (o : TestOutcome) (s : State) : CurveFollows s (haltSequencer q o s) := by
  unfold Machine.haltSequencer
  dsimp only
  split
  · exact .trans (.of_same (by simp)) (endTest o _)
  · exact .of_same (by simp)

theorem stopOwn (s : State) : CurveFollows s (stopOwn s) := by
  unfold Machine.stopOwn stopSequencer
  split
  · exact .of_same (by simp)
  · split
    case h_4 => exact haltSequencer _ _ s
    all_goals exact refl s

theorem faultOwn (s : State) : CurveFollows s (faultOwn s) := by
  unfold Machine.faultOwn faultSequencer
  split
  · exact .of_same (by simp)
  · split
    case h_5 => exact haltSequencer _ _ s
    all_goals exact refl s

theorem setLatch (s : State) : CurveFollows s (setLatch s) := by
  unfold Machine.setLatch
  split
  · exact refl s
  · exact .trans (t := s.setStop { s.stop with latch := true }) (.of_units rfl rfl) (stopOwn _)

theorem report (c : FaultCause) (s : State) : CurveFollows s (report c s) := by
  have hnoticed : CurveFollows s (pushNotice (faultNotice c s) (recordFault c s)) := .of_same (by simp)
  unfold Machine.report stopCell
  dsimp only
  split_ifs
  · exact refl s
  · exact hnoticed.trans (.trans (.of_same (by simp)) (setLatch _))
  · exact hnoticed.trans (faultOwn _)

/-- A report from a state in which the curve is as it was. -/
theorem reportFrom (c : FaultCause) (h : CurveFollows s t) : CurveFollows s (Machine.report c t) := h.trans (report c t)

/-! ### The reports of a sample -/

theorem takeGripsLow (s : State) : CurveFollows s (takeGripsLow s) := by
  unfold Machine.takeGripsLow
  split
  · exact .of_same (by simp [dropGrips])
  · exact refl s

theorem enterAttaching (s : State) : CurveFollows s (enterAttaching s) := by
  have hgoto : CurveFollows s (gotoState .attaching s) := .of_units rfl rfl
  unfold Machine.enterAttaching
  dsimp only
  split
  · exact hgoto.trans (.of_same (by simp))
  · exact hgoto.trans (.of_units rfl rfl)
  · exact hgoto.reportFrom _
  · exact hgoto

theorem tareJudged (s : State) : CurveFollows s (tareJudged s) := by
  unfold Machine.tareJudged
  split
  · exact refl s
  · split
    · refine .trans ?_ (takeGripsLow _)
      unfold judgeTare tareSucceeded
      dsimp only
      split_ifs
      · refine .trans ?_ (enterAttaching _)
        exact .of_units rfl rfl
      · exact .of_same (by simp)
      · exact .of_units rfl rfl
      · exact report _ s
    · exact refl s

theorem of_reportStep (h : ReportStep s t) : CurveFollows s t := by
  cases h with
  | reported c => exact report c s
  | judged => exact tareJudged s
  | measured => exact .of_same (by simp)
  | entered => exact .of_same (by simp)
  | remembered => exact .of_same (by simp)
  | drawn n => exact .of_units rfl rfl
  | regulated q r => exact .of_same (by simp)

theorem of_reportRun (h : ReportRun s t) : CurveFollows s t :=
  h.keeps (P := CurveFollows s) (fun hst hs => hs.trans (of_reportStep hst)) (refl s)

/-! ### The handling of a sample -/

theorem holdOrAdvance (s : State) : CurveFollows s (holdOrAdvance s) := by
  unfold Machine.holdOrAdvance
  split <;> exact .of_same (by simp)

theorem beginPhase (r : SampleRec) (s : State) : CurveFollows s (beginPhase r s) := by
  cases hp : s.curPhase with
  | none => simpa [Machine.beginPhase, hp] using refl s
  | some p =>
    have hbegun : CurveFollows s (beginRegulator p r (pushNotice (.phaseBegun s.seq.phase)
        (s.setSeq { s.seq with phaseTime := 0, refValue := endQuantity s p.endKind r, phaseBegun := true }))) :=
      .of_same (by simp)
    rw [beginPhase_of_phase r hp]
    refine .trans ?_ (holdOrAdvance _)
    dsimp only [phaseStarted]
    split
    · exact hbegun.trans (.of_same (by simp))
    · exact hbegun

theorem enterDone (s : State) : CurveFollows s (enterDone s) :=
  .trans (t := requestUnits 0 .release (openArm .testEnd (gotoState .done s))) (.of_same (by simp)) (endTest _ _)

theorem nextPhase (r : SampleRec) (s : State) : CurveFollows s (nextPhase r s) := by
  unfold Machine.nextPhase
  dsimp only
  split
  · exact .of_same (by simp)
  · split
    · exact .trans (.of_same (by simp)) (beginPhase r _)
    · exact .of_same (by simp)

theorem returnStep (r : SampleRec) (s : State) : CurveFollows s (returnStep r s) := by
  unfold Machine.returnStep
  split
  · exact refl s
  · split_ifs
    · exact enterDone s
    · exact refl s
    · exact .of_units rfl rfl
    · exact refl s

theorem endingStep (r : SampleRec) (s : State) : CurveFollows s (endingStep r s) := by
  unfold Machine.endingStep
  split_ifs
  · exact .trans (.of_same (by simp)) (returnStep r _)
  · exact enterDone s
  · exact .of_units rfl rfl
  · exact refl s

theorem endOnSample (o : TestOutcome) (r : SampleRec) (s : State) : CurveFollows s (endOnSample o r s) := by
  unfold Machine.endOnSample
  dsimp only
  split
  · exact .trans (.of_same (by simp)) (endingStep r _)
  · exact .of_same (by simp)

theorem endPhase (r : SampleRec) (s : State) : CurveFollows s (endPhase r s) := by
  have hnext : CurveFollows s (Machine.nextPhase r (removalMade s)) := by
    refine .trans ?_ (nextPhase r _)
    unfold removalMade
    split
    · exact .of_same (by simp)
    · exact refl s
  rw [endPhase_eq]
  split_ifs
  · exact hnext.trans (endingStep r _)
  · exact hnext
  · exact hnext

theorem claimingSample (r : SampleRec) (s : State) : CurveFollows s (claimingSample r s) := by
  unfold Machine.claimingSample startPhaseOne
  split_ifs
  · exact .trans (.of_same (by simp)) (beginPhase r _)
  · exact .of_units rfl rfl
  · exact refl s

theorem runningSample (r : SampleRec) (ended : Bool) (s : State) : CurveFollows s (runningSample r ended s) := by
  unfold Machine.runningSample
  split_ifs
  · exact endOnSample _ r s
  · exact endPhase r s
  · exact holdOrAdvance s

theorem heldSample (r : SampleRec) (s : State) : CurveFollows s (heldSample r s) := by
  have hrun : CurveFollows s (enterRunning (pushNotice .holdEnded s)) := .of_same (by simp)
  unfold Machine.heldSample resume
  dsimp only
  split_ifs
  · exact endOnSample _ r s
  · exact hrun
  · exact hrun.trans (beginPhase r _)
  · exact .of_units rfl rfl
  · exact refl s

theorem handleSample (r : SampleRec) (ended : Bool) (s : State) : CurveFollows s (handleSample r ended s) := by
  have hcount : CurveFollows s (countSample s) := .of_units rfl rfl
  unfold Machine.handleSample
  dsimp only
  split
  · exact hcount.trans (claimingSample r _)
  · exact hcount.trans (runningSample r ended _)
  · exact hcount.trans (heldSample r _)
  · exact hcount.trans (endingStep r _)
  · exact hcount.trans (returnStep r _)
  · exact hcount

theorem handledIn {checked ended : Bool} {x : ExtView} {r : SampleRec} (h : HandledIn checked ended x r s t) :
    CurveFollows s t := by
  obtain ⟨n, m, h⟩ := h
  have hfirst : CurveFollows s (checkFirst checked r (s.setFree n)) :=
    .trans (t := s.setFree n) (.of_units rfl rfl) (of_reportRun (reportRun_checkFirst checked r _))
  have hdrawn : CurveFollows s ((checkFirst checked r (s.setFree n)).setFree m) := hfirst.trans (.of_units rfl rfl)
  have hexamined : ∀ u : State, CurveFollows u (examineSample x r u) := fun u => .of_same (by simp)
  rcases h with ⟨-, rfl⟩ | ⟨-, rfl | rfl⟩
  · exact hfirst.trans (handleSample r ended _)
  · exact hdrawn.trans ((hexamined _).trans (handleSample r ended _))
  · exact hdrawn.trans ((handleSample r ended _).trans (hexamined _))

theorem followLead (m : Level) (s : State) : CurveFollows s (followLead m s) := by
  unfold Machine.followLead
  split
  case h_9 | h_10 | h_11 | h_14 | h_15 => exact .of_units rfl rfl
  case h_12 | h_13 => split <;> exact .of_units rfl rfl
  all_goals exact .of_same (by simp)

theorem followActive (s : State) : CurveFollows s (followActive s) := by
  have hshare : ∀ m, CurveFollows s (updateShare m s) := by
    intro m
    unfold updateShare
    split_ifs
    · exact .of_units rfl rfl
    · exact .of_same (by simp)
    · exact refl s
  unfold Machine.followActive
  split
  · exact .of_units rfl rfl
  · split
    · exact .of_units rfl rfl
    · exact (hshare _).trans (followLead _ _)

theorem followSample (s : State) : CurveFollows s (followSample s) := by
  unfold Machine.followSample
  split
  · split
    · exact .trans (t := followTo .followClaim s) (.of_units rfl rfl) (followActive _)
    · exact refl s
  case h_5 => exact refl s
  all_goals exact followActive s

theorem handSample (checked ended : Bool) (x : ExtView) (r : SampleRec) (s : State) :
    CurveFollows s (handSample checked x r ended s) := by
  unfold Machine.handSample
  split
  · exact followSample s
  · have hgrips : CurveFollows s (takeGripsUnreported s) := .of_same (by simp)
    exact hgrips.trans (handledIn (handledIn_testSample checked ended x r _ _))

theorem pairSample (r : SampleRec) (s : State) : CurveFollows s (pairSample r s) := by
  have halarm : ∀ u : State, CurveFollows u (judgeAlarm u) := by
    intro u
    unfold judgeAlarm
    split_ifs <;> exact .of_same (by simp)
  unfold Machine.pairSample
  split
  · exact .trans (t := computeSkew r s) (.of_same (by simp)) ((halarm _).trans (.of_same (by simp)))
  · exact refl s

/-- R74: what comes after the store has taken its sample leaves the store alone. -/
theorem completeSample (reading : Int) (strain : Option Int) (s : State) :
    CurveFollows (takenSample (loadView reading strain s) s) (completeSample reading strain s) := by
  obtain ⟨n, hn⟩ := drawCheck_draws (takenSample (loadView reading strain s) s)
  have hdrawn : CurveFollows (takenSample (loadView reading strain s) s)
      (drawCheck (takenSample (loadView reading strain s) s)).2 := by
    rw [hn]
    exact .of_units rfl rfl
  exact hdrawn.trans ((handSample _ _ _ _ _).trans (of_reportRun (reportRun_moveSample _ _ _ _)))

end CurveFollows
end Sys2Proof.Proofs
end

section
namespace Sys2Proof.Proofs
open Sys2Proof.Machine Sys2Proof.Safety Sys2Proof.Laws

/-! ## The sample that is offered -/

theorem curveEligible_iff (s : State) : curveEligible s = true ↔ Eligible s := by
  simp [curveEligible, Eligible, and_assoc, or_assoc]

theorem offerSample_ineligible {s : State} (r : SampleRec) (h : ¬Eligible s) : offerSample r s = s := by
  rw [offerSample, if_neg (by rwa [curveEligible_iff])]

/-- R161: an eligible sample whose turn it is not only advances the decimation. -/
theorem offerSample_skipped {s : State} (r : SampleRec) (h : Eligible s) (hd : s.recorder.decCount ≠ 0) :
    (offerSample r s).recorder
      = { s.recorder with decCount := nextDecimation s.decimation s.recorder.decCount } := by
  rw [offerSample, if_pos ((curveEligible_iff s).2 h), if_neg hd]
  rfl

/-- Assumption 36: at the largest count nothing moves. -/
theorem offerSample_atLimit {s : State} (r : SampleRec) (hd : s.recorder.decCount = 0)
    (ho : 4294967295 ≤ s.recorder.offered) : offerSample r s = s := by
  simp [offerSample, hd, Nat.not_lt_of_le ho]

theorem offerSample_offered {s : State} (r : SampleRec) (h : Eligible s) (hd : s.recorder.decCount = 0)
    (ho : s.recorder.offered < 4294967295) : offerSample r s = storeSample r s := by
  rw [offerSample, if_pos ((curveEligible_iff s).2 h), if_pos hd, if_pos ho]

theorem storeSample_joins {s : State} {r : SampleRec} (h : HasRoom s.recorder r) :
    storeSample r s = judgeCurve (s.setRecorder { s.recorder with
      offered := s.recorder.offered + 1
      store := s.recorder.store ++ [r]
      decCount := nextDecimation s.decimation s.recorder.decCount }) :=
  if_pos ((hasRoomFor_iff _ _).2 h)

theorem storeSample_loses {s : State} {r : SampleRec} (h : ¬HasRoom s.recorder r) :
    storeSample r s = s.setRecorder { s.recorder with
      offered := s.recorder.offered + 1
      lost := s.recorder.lost + 1
      decCount := nextDecimation s.decimation s.recorder.decCount } :=
  if_neg (by rwa [hasRoomFor_iff])

/-- R161 to R163, assumption 36: what the sample `r`, completed in `s`, has done to store and counts by `t`. -/
def SampleOffered (r : SampleRec) (s t : State) : Prop :=
  (¬Eligible s → t.recorder.offered = s.recorder.offered ∧ t.recorder.lost = s.recorder.lost
      ∧ t.recorder.store = s.recorder.store ∧ t.recorder.decCount = s.recorder.decCount)
    ∧ (Eligible s → s.recorder.decCount ≠ 0 → t.recorder.offered = s.recorder.offered
        ∧ t.recorder.lost = s.recorder.lost ∧ t.recorder.store = s.recorder.store)
    ∧ (Eligible s → s.recorder.decCount = 0 → s.recorder.offered < 4294967295 → HasRoom s.recorder r →
        t.recorder.offered = s.recorder.offered + 1 ∧ t.recorder.store = s.recorder.store ++ [r]
          ∧ t.recorder.lost = s.recorder.lost)
    ∧ (Eligible s → s.recorder.decCount = 0 → s.recorder.offered < 4294967295 → ¬HasRoom s.recorder r →
        t.recorder.offered = s.recorder.offered + 1 ∧ t.recorder.store = s.recorder.store
          ∧ t.recorder.lost = s.recorder.lost + 1)
    ∧ (Eligible s → s.recorder.decCount = 0 → 4294967295 ≤ s.recorder.offered →
        t.recorder.offered = s.recorder.offered ∧ t.recorder.lost = s.recorder.lost
          ∧ t.recorder.store = s.recorder.store ∧ t.recorder.decCount = s.recorder.decCount)
    ∧ (∀ o, Eligible s → s.seq.order = some o → s.recorder.decCount ≠ 0 ∨ s.recorder.offered < 4294967295 →
        t.recorder.decCount = if o.decimation ≤ s.recorder.decCount + 1 then 0 else s.recorder.decCount + 1)
    ∧ t.recorder.sent = s.recorder.sent

theorem SampleOffered.of_follows {r : SampleRec} {s t u : State} (h : SampleOffered r s t) (hf : CurveFollows t u) :
    SampleOffered r s u := by
  rw [SampleOffered, hf.store, hf.offered, hf.lost, hf.sent, hf.decCount]
  exact h

/-- R161: eligibility and decimation read the role, the sequencer and the record unit. -/
theorem SampleOffered.of_source {r : SampleRec} {s u t : State} (h : SampleOffered r u t) (hstart : u.start = s.start)
    (hseq : u.seq = s.seq) (hrecorder : u.recorder = s.recorder) : SampleOffered r s t := by
  simpa [SampleOffered, Eligible, State.isFollow, hstart, hseq, hrecorder] using h

/-- R161: an eligible sample that the largest count does not stop advances the decimation. -/
theorem offerSample_decCount {s : State} (r : SampleRec) (h : Eligible s)
    (hn : s.recorder.decCount ≠ 0 ∨ s.recorder.offered < 4294967295) :
    (offerSample r s).recorder.decCount = nextDecimation s.decimation s.recorder.decCount := by
  by_cases hd : s.recorder.decCount = 0
  · rw [offerSample_offered r h hd (hn.resolve_left (absurd hd))]
    by_cases hroom : HasRoom s.recorder r
    · simp [storeSample_joins hroom]
    · simp [storeSample_loses hroom]
  · rw [offerSample_skipped r h hd]

theorem offerSample_offers (r : SampleRec) (s : State) : SampleOffered r s (offerSample r s) := by
  refine ⟨fun h => ?_, fun h hd => ?_, fun h hd ho hroom => ?_, fun h hd ho hroom => ?_, fun _ hd ho => ?_,
    fun o h hq hn => ?_, by simp⟩
  · simp [offerSample_ineligible r h]
  · simp [offerSample_skipped r h hd]
  · simp [offerSample_offered r h hd ho, storeSample_joins hroom]
  · simp [offerSample_offered r h hd ho, storeSample_loses hroom]
  · simp [offerSample_atLimit r hd ho]
  · rw [offerSample_decCount r h hn]
    simp [State.decimation, hq, nextDecimation]

/-- R74, R161: the load channel and the extensometer pair, which take the sample first, change nothing that the record
unit reads, and what comes after it leaves the store and the counts. -/
theorem completeSample_offers (reading : Int) (strain : Option Int) (s : State) :
    SampleOffered (loadView reading strain s).record s (completeSample reading strain s) := by
  have hoffered : SampleOffered (loadView reading strain s).record s (takenSample (loadView reading strain s) s) := by
    refine .of_follows (.of_source (offerSample_offers (loadView reading strain s).record
      (takeMeasured (loadView reading strain s).record (completeLoad (loadView reading strain s) s))) ?_ ?_ ?_) ?_
    · simp
    · simp
    · simp
    · exact .pairSample _ _
  exact hoffered.of_follows (.completeSample reading strain s)

/-- Settles O41: the completed sample is offered as `offerSample_offers` says, with the record that the load channel has
made of it (`completeSample_load`). -/
theorem samplesAreOffered : Obligations.SamplesAreOffered := by
  unfold Obligations.SamplesAreOffered
  intro c s hc
  obtain ⟨reading, strain, u, hu, he⟩ := exec_completes hc
  have hsame : u.start = s.start ∧ u.seq = s.seq ∧ u.recorder = s.recorder := by
    rcases hu with rfl | ⟨y, rfl⟩ <;> simp
  obtain ⟨hstart, hseq, hrecorder⟩ := hsame
  obtain ⟨-, -, -, hlast, -⟩ := completeSample_load reading strain u
  rw [he, next_iff]
  refine ⟨(loadView reading strain u).record, by simpa using hlast, ?_⟩
  exact ((completeSample_offers reading strain u).of_source hstart hseq hrecorder).of_follows (.of_same (by simp))

end Sys2Proof.Proofs
end

section
namespace Sys2Proof.Proofs
open Sys2Proof.Machine Sys2Proof.Safety Sys2Proof.Laws

namespace CurveFollows

variable {s t : State}

/-! ## The curve over the other events -/

theorem reportIf (b : Prop) [Decidable b] (c : FaultCause) (s : State) :
    CurveFollows s (if b then Machine.report c s else s) := by
  split
  · exact report c s
  · exact refl s

theorem followLossExpired (s : State) : CurveFollows s (followLossExpired s) := by
  unfold Machine.followLossExpired
  split
  · exact .of_same (by simp)
  · exact refl s

/-! ### The arm -/

theorem failAttach (k : ExtEventKind) (code : Nat) (c : FaultCause) (s : State) :
    CurveFollows s (failAttach k code c s) := by
  have hopening : CurveFollows s (s.setExt s.ext.opening) := .of_units rfl rfl
  unfold Machine.failAttach attachEvent
  split_ifs
  · exact hopening.trans (.of_same (by simp))
  · exact hopening.reportFrom c
  · exact hopening

theorem seatLost (s : State) : CurveFollows s (seatLost s) := by
  unfold Machine.seatLost
  split
  · exact failAttach _ _ _ s
  · exact failAttach _ _ _ s
  · exact .of_same (by simp)
  · exact refl s

theorem closeExpired (s : State) : CurveFollows s (closeExpired s) := by
  unfold Machine.closeExpired
  split
  · exact failAttach _ _ _ s
  · exact refl s

theorem identExpired (s : State) : CurveFollows s (identExpired s) := by
  unfold Machine.identExpired
  split
  · exact failAttach _ _ _ s
  · exact refl s

theorem openExpired (s : State) : CurveFollows s (openExpired s) := by
  have hjammed : CurveFollows s (s.setExt { s.ext with state := .jammed, openTimer := none, attachWaits := false }) :=
    .of_units rfl rfl
  unfold Machine.openExpired
  dsimp only
  split
  · split
    · exact hjammed.trans (reportIf _ _ _)
    · exact hjammed
  · exact refl s

theorem examineWord (w : BitVec 32) (s : State) : CurveFollows s (examineWord w s) := by
  have hwritten : CurveFollows s (writeIdRec w s) := .of_units rfl rfl
  unfold Machine.examineWord
  split_ifs
  · exact failAttach _ _ _ s
  · exact hwritten.trans (failAttach _ _ _ _)
  · exact hwritten.trans (failAttach _ _ _ _)
  · exact hwritten.trans (.of_units rfl rfl)
  · exact refl s

/-! ### Start-up, the tick and the passing of time -/

/-- A link unit with the same CURVE slot and the same frame in flight. -/
theorem setLink {l : Link} (hflight : l.inFlight = s.link.inFlight) (hslot : l.curve = s.link.curve) :
    CurveFollows s (s.setLink l) := .of_same ⟨rfl, rfl, rfl, rfl, rfl, hflight, hslot⟩

theorem startIntervalEnd (lines : Lines) (s : State) : CurveFollows s (startIntervalEnd lines s) := by
  unfold Machine.startIntervalEnd
  dsimp only
  split
  · exact .of_units rfl rfl
  · refine .trans ?_ (setLink rfl rfl)
    refine .trans ?_ (setLink rfl rfl)
    unfold latchIfLow
    split
    · refine .trans ?_ (setLatch _)
      exact .of_units rfl rfl
    · exact .of_units rfl rfl

theorem dropMember (n : Nat) (s : State) : CurveFollows s (dropMember n s) := by
  unfold Machine.dropMember
  split_ifs
  · exact setLink rfl rfl
  · exact refl s
  · exact refl s

theorem dropMembers (s : State) : CurveFollows s (dropMembers s) := by
  unfold Machine.dropMembers
  generalize List.range 15 = ns
  induction ns generalizing s with
  | nil => exact refl s
  | cons n ns ih => exact (dropMember n s).trans (ih _)

theorem coldStartDue (s : State) : CurveFollows s (coldStartDue s) := by
  unfold Machine.coldStartDue
  split
  · exact .of_same (by simp)
  · exact refl s

theorem levelTimer (s : State) : CurveFollows s (levelTimer s) := by
  unfold Machine.levelTimer
  split
  · exact .trans (t := s.setPair { s.pair with levelTimer := some 0 }) (.of_units rfl rfl) (setLink rfl rfl)
  · exact refl s

theorem statusTimer (s : State) : CurveFollows s (statusTimer s) := by
  unfold Machine.statusTimer
  split
  · exact .trans (t := s.setLink { s.link with statusTimer := some 0 }) (setLink rfl rfl) (setLink rfl rfl)
  · exact refl s

theorem takeStep (due : Bool) {act : State → State} (h : ∀ t, CurveFollows t (act t)) (s : State) :
    CurveFollows s (takeStep due act s) := by
  unfold Machine.takeStep
  split
  · exact (h s).trans (.of_same (by simp))
  · exact refl s

theorem settleTimers (s : State) : CurveFollows s (settleTimers s) :=
  (takeStep _ (fun t => startIntervalEnd _ t) s).trans ((takeStep _ closeExpired _).trans
    ((takeStep _ identExpired _).trans (takeStep _ openExpired _)))

theorem settleCounts (s : State) : CurveFollows s (settleCounts s) :=
  takeStep _ (fun t => .trans (t := Machine.partnerLost (Machine.gateClose t)) (.of_same (by simp))
    ((dropMembers _).trans ((coldStartDue _).trans (.of_same (by simp))))) s

theorem settleSample (s : State) : CurveFollows s (settleSample s) :=
  takeStep _ (fun t => .trans (t := Machine.rangeDown (Machine.rangeSettled t)) (.of_same (by simp))
    ((tareJudged _).trans ((takeGripsLow _).trans (.of_same (by simp))))) s

theorem settleTimeouts (s : State) : CurveFollows s (settleTimeouts s) :=
  takeStep _ (fun t => (reportIf _ _ t).trans ((reportIf _ _ _).trans ((reportIf _ _ _).trans
    (followLossExpired _)))) s

theorem settleLines (s : State) : CurveFollows s (settleLines s) :=
  (takeStep _ (fun _ => .of_same (by simp)) s).trans
    ((takeStep _ seatLost _).trans (takeStep _ (fun _ => .of_same (by simp)) _))

theorem settleAll (s : State) : CurveFollows s (settleAll s) :=
  (settleTimers s).trans ((settleCounts _).trans ((settleSample _).trans ((settleTimeouts _).trans
    ((settleLines _).trans ((levelTimer _).trans (statusTimer _))))))

theorem tickAges (s : State) : CurveFollows s (tickAges s) := by
  unfold Machine.tickAges Link.agePresence
  split <;> exact .of_same (by simp)

theorem examineAmplifier (s : State) : CurveFollows s (examineAmplifier s) := by
  unfold Machine.examineAmplifier
  split
  · refine .trans ?_ (report _ _)
    exact .of_units rfl rfl
  · exact refl s

theorem sampleTick (lines : Lines) (s : State) : CurveFollows s (sampleTick lines s) := by
  have hcore : CurveFollows s (tickCore ((Machine.settleAll s).setLines lines)) :=
    (settleAll s).trans (.of_same (by simp))
  unfold Machine.sampleTick
  dsimp only
  split
  · exact hcore
  · exact hcore.trans ((tickAges _).trans (.trans (.of_same (by simp)) (examineAmplifier _)))

theorem passBitTime (s : State) : CurveFollows s (passBitTime s) :=
  .of_same (by rw [passBitTime_link]; simp)

/-! ### The line and the content of frames -/

theorem startBitSensed (s : State) : CurveFollows s (startBitSensed s) := by
  unfold Machine.startBitSensed
  split
  · exact setLink rfl rfl
  · exact refl s

theorem lineIdle (s : State) : CurveFollows s (lineIdle s) := by
  unfold Machine.lineIdle
  split
  · exact setLink rfl rfl
  · exact refl s

theorem receiveError (x : Taken) (s : State) : CurveFollows s (receiveError x s) := by
  have hended : CurveFollows s (s.setLink s.link.endReception) := setLink rfl rfl
  have hstale : ∀ u : State, CurveFollows u (enterStale u) := fun u => .of_same (by simp)
  unfold Machine.receiveError
  dsimp only
  split_ifs
  · exact hended
  · refine hended.trans (.trans ?_ (hstale _))
    cases judgeTaken x <;> exact setLink rfl rfl
  · exact refl s

theorem grantAct (f : RxFrame) (s : State) : CurveFollows s (grantAct f s) := by
  unfold Machine.grantAct
  split
  · split
    · exact .of_same (by simp)
    · exact refl s
  · exact refl s

theorem statusAct (f : RxFrame) (s : State) : CurveFollows s (statusAct f s) := by
  unfold Machine.statusAct
  split
  · exact refl s
  · split
    · exact report _ s
    · split
      · exact refl s
      · split
        · exact .of_same (by simp)
        · exact refl s

theorem takeConfig (payload : List Byte) (s : State) : CurveFollows s (takeConfig payload s) := by
  unfold Machine.takeConfig
  split
  · exact .of_same (by simp)
  · split
    · exact .of_same (by simp)
    · exact .of_same (by simp [acceptConfig])

theorem releasePort (s : State) : CurveFollows s (releasePort s) := by
  unfold Machine.releasePort
  split_ifs
  · exact report _ s
  · exact .of_units rfl rfl
  · exact refl s

theorem clearStation (s : State) : CurveFollows s (clearStation s) := by
  have hstop : CurveFollows s (clearStop s) := by
    unfold clearStop
    dsimp only
    split
    · refine .trans ?_ ((setLatch _).trans (noticed _ _))
      exact .of_units rfl rfl
    · exact .of_units rfl rfl
  exact hstop.trans (.trans (t := freshChecks (freeArm (clearSequencer (clearStop s))))
    (.of_same (by simp)) (releasePort _))

theorem loseUnits (s : State) : CurveFollows s (loseUnits s) := by
  unfold Machine.loseUnits
  dsimp only
  split
  · exact .trans (.of_same (by simp)) (report _ _)
  · exact .of_same (by simp)

theorem reclaimAct (f : RxFrame) (s : State) : CurveFollows s (reclaimAct f s) := by
  unfold Machine.reclaimAct reclaimNode
  dsimp only
  split
  · split_ifs
    · exact .trans (.of_same (by simp)) (loseUnits _)
    · exact .of_same (by simp)
    · exact refl s
    · exact refl s
  · exact refl s

end CurveFollows
end Sys2Proof.Proofs
end

section
namespace Sys2Proof.Proofs
open Sys2Proof.Machine Sys2Proof.Safety Sys2Proof.Laws

/-! ## The curve of an offered sample -/

/-- R163: a sample that is lost, or that only advances the decimation, leaves the store. -/
theorem curveSound_setRecorder {u : Recorder} {s : State} (hstore : u.store = s.recorder.store)
    (haccount : u.sent + u.store.length + u.lost = u.offered) (h : CurveSound s) : CurveSound (s.setRecorder u) := by
  obtain ⟨-, hpending, hflying⟩ := h
  refine ⟨haccount, fun c hc => ?_, fun i c hi hc hd => ?_⟩
  · simpa [CarriesOldest, hstore] using hpending c hc
  · simpa [CarriesOldest, hstore] using hflying i c hi hc hd

/-- R164: the oldest samples of a store are those of the store to which a sample has come. -/
theorem curveSound_joined {u : Recorder} {r : SampleRec} {s : State} (hstore : u.store = s.recorder.store ++ [r])
    (haccount : u.sent + u.store.length + u.lost = u.offered) (h : CurveSound s) : CurveSound (s.setRecorder u) := by
  obtain ⟨-, hpending, hflying⟩ := h
  have hlonger : ∀ c, CarriesOldest c s → CarriesOldest c (s.setRecorder u) := fun c hc => by
    simpa [CarriesOldest, hstore] using hc.trans (List.prefix_append _ _)
  refine ⟨haccount, fun c hc => ?_, fun i c hi hc hd => hlonger c (hflying i c hi hc hd)⟩
  obtain ⟨holdest, hfree⟩ := hpending c hc
  exact ⟨hlonger c holdest, hfree⟩

theorem curveSound_storeSample (r : SampleRec) {s : State} (h : CurveSound s) : CurveSound (storeSample r s) := by
  have haccount : s.recorder.sent + s.recorder.store.length + s.recorder.lost = s.recorder.offered := h.1
  by_cases hroom : HasRoom s.recorder r
  · rw [storeSample_joins hroom]
    refine (CurveFollows.judgeCurve _).keeps_sound (curveSound_joined rfl ?_ h)
    simp only [List.length_append, List.length_singleton]
    omega
  · rw [storeSample_loses hroom]
    refine curveSound_setRecorder rfl ?_ h
    dsimp only
    omega

theorem curveSound_offerSample (r : SampleRec) {s : State} (h : CurveSound s) : CurveSound (offerSample r s) := by
  unfold offerSample
  split_ifs
  · exact curveSound_storeSample r h
  · exact h
  · exact curveSound_setRecorder rfl h.1 h
  · exact h

theorem CurveFollows.completeLoad (v : LoadView) (s : State) : CurveFollows s (completeLoad v s) := by
  unfold Machine.completeLoad detectorNotices
  dsimp only
  split_ifs <;> exact .of_same (by simp)

theorem curveSound_completeSample (reading : Int) (strain : Option Int) {s : State} (h : CurveSound s) :
    CurveSound (completeSample reading strain s) := by
  have hmeasured : ∀ (r : SampleRec) (u : State), CurveFollows u (takeMeasured r u) := fun r u => .of_same (by simp)
  have hbefore := ((CurveFollows.completeLoad (loadView reading strain s) s).trans
    (hmeasured (loadView reading strain s).record _)).keeps_sound h
  have hoffered := curveSound_offerSample (loadView reading strain s).record hbefore
  exact ((CurveFollows.pairSample _ _).trans (.completeSample reading strain s)).keeps_sound hoffered

theorem curveSound_loadConversionEnd (reading : Int) {s : State} (h : CurveSound s) :
    CurveSound (loadConversionEnd reading s) := by
  unfold loadConversionEnd
  split_ifs
  · exact h
  · exact curveSound_completeSample _ _ h
  · exact h

theorem curveSound_strainConversionEnd (reading : Int) {s : State} (h : CurveSound s) :
    CurveSound (strainConversionEnd reading s) := by
  unfold strainConversionEnd
  split
  · split
    · exact h
    · refine curveSound_completeSample _ _ (CurveFollows.keeps_sound (.of_same ?_) h)
      simp
  · exact h

/-! ## The curve that is given up -/

/-- R164, R166, R171: the CURVE slot is empty, and every CURVE frame in flight is disowned. -/
def CurveGivenUp (s : State) : Prop :=
  s.link.curve = none ∧ ∀ i c, s.link.inFlight = some i → i.frame = .curve c → i.disowned = true

/-- R166, R171: a station that has given its curve up has no frame in hand that could carry other samples. -/
theorem curveSound_of_givenUp {s : State} (h : CurveGivenUp s)
    (haccount : s.recorder.sent + s.recorder.store.length + s.recorder.lost = s.recorder.offered) : CurveSound s := by
  obtain ⟨hslot, hdisowned⟩ := h
  refine ⟨haccount, fun c hc => by simp [hslot] at hc, fun i c hi hc hd => ?_⟩
  simp [hdisowned i c hi hc] at hd

/-- R166, R171: a block that disowns every CURVE frame disowns the one in flight. -/
theorem disowned_of_disown {l : Link} {p : OutFrame → Bool} {i : InFlight} {c : Curve}
    (hp : ∀ c, p (.curve c) = true) (hi : l.disown p = some i) (hc : i.frame = .curve c) : i.disowned = true := by
  obtain ⟨j, -, rfl⟩ := Option.map_eq_some_iff.1 hi
  have hframe : j.frame = .curve c := hc
  simp [hframe, hp]

theorem curveSound_acceptOrder (o : Order) (s : State) : CurveSound (acceptOrder o s) := by
  obtain ⟨-, -, hrecorder, hslot, -⟩ := acceptOrder_sets o s
  refine curveSound_of_givenUp ⟨hslot, fun i c hi hc => ?_⟩ (by simp [hrecorder, Recorder.reset])
  simp only [acceptOrder, setTestRec_fields, setSeq_fields, setLink_fields, setRecorder_fields, setLoad_fields,
    pushNotice_fields, setPair_fields, setExt_fields] at hi
  exact disowned_of_disown (fun _ => rfl) hi hc

theorem curveSound_takeOrder (payload : List Byte) {s : State} (h : CurveSound s) :
    CurveSound (takeOrder payload s) := by
  have hrefused : ∀ k, CurveSound (pushNotice k s) := fun k => (CurveFollows.noticed k s).keeps_sound h
  unfold takeOrder
  split
  · exact hrefused _
  · split
    · exact hrefused _
    · exact curveSound_acceptOrder _ s

theorem curveSound_restartStation (s : State) : CurveSound (restartStation s) := by
  rw [restartStation_eq]
  refine (CurveFollows.releasePort _).keeps_sound (curveSound_of_givenUp ⟨by simp, fun i c hi hc => ?_⟩ ?_)
  · simp only [restarted, Link.restart, setStop_fields, setLink_fields, restartMotion_keeps, requestUnits_fields,
      clearLock_keeps, setLoad_fields, setRecorder_fields, restartSequencer_fields, dropPair_keeps, setExt_fields] at hi
    exact disowned_of_disown (fun _ => rfl) hi hc
  · simp [Recorder.reset]

theorem curveSound_powerOn (strap : BitVec 16) (s : State) : CurveSound (powerOn strap s) := by
  obtain ⟨-, -, hreset, -⟩ := resetMeetsInvariants
  exact hreset

/-! ## The station's own frames -/

/-- R117, R120: a CURVE that the arbiter has chosen is the one that waits. -/
theorem curve_of_chosen {s : State} {level : Nat} {c : Curve} (h : arbiterChoice s = some (level, .curve c)) :
    s.link.curve = some c := by
  obtain ⟨k, -, hk⟩ := List.exists_of_findSome?_eq_some h
  split at hk
  · have hp : pendingFrame s k = some (.curve c) := by
      cases hp : pendingFrame s k <;> simp_all
    unfold pendingFrame at hp
    split at hp <;> simp_all
  · simp at hk

theorem leaveSlot_curve {x : OutFrame} (l : Link) (h : ∀ c, x ≠ .curve c) : (l.leaveSlot x).curve = l.curve := by
  cases x <;> simp_all [Link.leaveSlot]

/-- R120, R164: a CURVE frame that starts takes its samples from the slot into flight, and another frame leaves it
waiting. -/
theorem curveSound_startFrame {level : Nat} {x : OutFrame} {s : State} (hx : arbiterChoice s = some (level, x))
    (h : CurveSound s) : CurveSound (startFrame x s) := by
  obtain ⟨haccount, hpending, -⟩ := h
  refine ⟨haccount, fun c hc => ?_, fun i c hi hc _ => ?_⟩
  · have hother : ∀ k, x ≠ .curve k := by
      rintro k rfl
      simp [startFrame, Link.leaveSlot] at hc
    have hwaits : (startFrame x s).link.curve = s.link.curve := leaveSlot_curve _ hother
    exact ⟨(hpending c (hwaits ▸ hc)).1, curveInFlight_of_other rfl hother⟩
  · obtain rfl : { frame := x, epoch := s.budget.epoch, inStep := s.budget.inStep, disowned := false } = i := by
      simpa [startFrame] using hi
    obtain rfl : x = .curve c := hc
    exact (hpending c (curve_of_chosen hx)).1

theorem curveSound_frameStart (quiet : Nat) {s : State} (h : CurveSound s) : CurveSound (frameStart quiet s) := by
  by_cases hq : s.link.line = .quiet
  · have hwaited : CurveSound (waited quiet s) := (CurveFollows.setLink rfl rfl).keeps_sound h
    rw [frameStart_quiet quiet hq, arbitrate]
    split
    · exact hwaited
    · rename_i level x hx
      split_ifs
      · exact CurveFollows.keeps_sound (.of_same (by simp [withdrawChosen])) hwaited
      · exact curveSound_startFrame hx hwaited
      · exact hwaited
  · rwa [frameStart, if_neg hq]

/-- R164: while a CURVE frame is in flight the slot is empty. -/
theorem curve_none_of_flight {s : State} {i : InFlight} {c : Curve} (h : CurveSound s) (hi : s.link.inFlight = some i)
    (hc : i.frame = .curve c) : s.link.curve = none := by
  obtain ⟨-, hpending, -⟩ := h
  cases hs : s.link.curve with
  | none => rfl
  | some k =>
    obtain ⟨-, hfree⟩ := hpending k hs
    simp [curveInFlight_of_curve hi hc] at hfree

theorem oldest_of_flight {s : State} {i : InFlight} {c : Curve} (h : CurveSound s) (hi : s.link.inFlight = some i)
    (hc : i.frame = .curve c) (hd : i.disowned = false) : CarriesOldest c s := by
  obtain ⟨-, -, hflying⟩ := h
  exact hflying i c hi hc hd

/-- R114: the end of a frame, before anything is done with it, leaves no frame in flight. -/
theorem curveSound_ended {l : Link} {s : State} (hflight : l.inFlight = none) (hslot : l.curve = s.link.curve)
    (h : CurveSound s) : CurveSound (s.setLink l) := by
  obtain ⟨haccount, hpending, -⟩ := h
  refine ⟨haccount, fun c hc => ⟨(hpending c (hslot ▸ hc)).1, by simp [Link.curveInFlight, hflight]⟩,
    fun i c hi => by simp [hflight] at hi⟩

/-- R163, R165: the samples that a CURVE frame of the current test has carried go from the samples held to the samples
sent. -/
theorem curveSound_curveComplete {k : Nat} {s : State} (disowned : Bool) (hslot : s.link.curve = none)
    (hflight : s.link.inFlight = none) (hk : disowned = false → k ≤ s.recorder.store.length) (h : CurveSound s) :
    CurveSound (curveComplete k disowned s) := by
  refine (CurveFollows.judgeCurve _).keeps_sound ?_
  cases disowned with
  | true => exact h
  | false =>
    have hle : k ≤ s.recorder.store.length := hk rfl
    have haccount : s.recorder.sent + s.recorder.store.length + s.recorder.lost = s.recorder.offered := h.1
    refine curveSound_of_givenUp ⟨hslot, fun i c hi => by simp [hflight] at hi⟩ ?_
    simp only [Bool.false_eq_true, if_false, setRecorder_fields, List.length_drop]
    omega

theorem CurveFollows.noticeSent (disowned : Bool) (s : State) : CurveFollows s (noticeSent disowned s) := by
  unfold Machine.noticeSent
  split_ifs
  · exact .refl s
  · exact .setLink rfl rfl
  · exact .setLink rfl rfl

theorem curveSound_frameComplete {s : State} (h : CurveSound s) : CurveSound (frameComplete s) := by
  by_cases hs : s.link.line = .sending
  · cases hi : s.link.inFlight with
    | none => rwa [frameComplete, if_pos hs, hi]
    | some i =>
      have hended : CurveSound (sentState s) := curveSound_ended rfl rfl h
      rw [frameComplete_sending hs hi]
      unfold reportCompletion
      split
      case h_5 => exact (CurveFollows.noticeSent _ _).keeps_sound hended
      case h_7 c hc =>
        have hslot : s.link.curve = none := curve_none_of_flight h hi hc
        refine curveSound_curveComplete (s := sentState s) i.disowned hslot rfl (fun hd => ?_) hended
        exact (oldest_of_flight h hi hc hd).length_le
      all_goals exact CurveFollows.keeps_sound (.of_same (by simp)) hended
  · rwa [frameComplete, if_neg hs]

/-- R121: only a CURVE frame that is not disowned comes back to the CURVE slot. -/
theorem returnFrame_curve_kept {l : Link} {i : InFlight} (h : ∀ c, i.frame = .curve c → i.disowned = true) :
    (l.returnFrame i).curve = l.curve := by
  unfold Link.returnFrame
  split
  case h_4 => split <;> rfl
  case h_5 c hc => rw [if_pos (h c hc)]
  all_goals rfl

/-- R121, R165: a CURVE frame that is not disowned goes back to its slot with the samples that it carried. -/
theorem curveSound_returned {l : Link} {i : InFlight} {c : Curve} {s : State} (hflight : s.link.inFlight = some i)
    (hc : i.frame = .curve c) (hd : i.disowned = false) (hslot : l.curve = some c) (hnone : l.inFlight = none)
    (h : CurveSound s) : CurveSound (s.setLink l) := by
  have holdest : CarriesOldest c s := oldest_of_flight h hflight hc hd
  refine ⟨h.1, fun k hk => ⟨?_, by simp [Link.curveInFlight, hnone]⟩, fun j k hj => by simp [hnone] at hj⟩
  obtain rfl : c = k := by simpa [hslot] using hk
  exact holdest

theorem curveSound_frameAbandon {s : State} (h : CurveSound s) : CurveSound (frameAbandon s) := by
  by_cases hs : s.link.line = .sending
  · cases hi : s.link.inFlight with
    | none => rwa [frameAbandon, if_pos hs, hi]
    | some i =>
      have hended : CurveSound (abandonedState s) := curveSound_ended rfl rfl h
      obtain ⟨-, -, hflight, -⟩ := returnFrame_fields (abandonedState s).link i
      rw [frameAbandon_sending hs hi]
      by_cases hback : ∃ c, i.frame = .curve c ∧ i.disowned = false
      · obtain ⟨c, hc, hd⟩ := hback
        obtain ⟨-, -, -, -, hslot, -⟩ := returnFrame_slots (abandonedState s).link i
        have hempty : s.link.curve = none := curve_none_of_flight h hi hc
        rw [reportAbandonment_returns _ (by simp [hc])]
        exact curveSound_returned (s := s) hi hc hd (hslot c hc hd hempty) hflight h
      · have hkept : ∀ c, i.frame = .curve c → i.disowned = true := fun c hc => by
          by_contra hd
          exact hback ⟨c, hc, by simpa using hd⟩
        unfold reportAbandonment
        split
        · exact CurveFollows.keeps_sound (.of_same (by simp)) hended
        · exact (CurveFollows.setLink hflight (returnFrame_curve_kept hkept)).keeps_sound hended
  · rwa [frameAbandon, if_neg hs]

/-! ## Every command -/

/-- R125: reception ends, its header is judged, and a report or the content of the frame comes after it. -/
theorem curveSound_receive (f : RxFrame) {act : State → State} (h : ∀ t, CurveSound t → CurveSound (act t))
    {s : State} (hs : CurveSound s) : CurveSound (receive f act s) := by
  have hended : CurveFollows s (s.setLink s.link.endReception) := .setLink rfl rfl
  unfold receive examineHeader dispatchFrame
  dsimp only
  split_ifs
  · exact hended.keeps_sound hs
  · exact hended.keeps_sound hs
  · exact (hended.reportFrom _).keeps_sound hs
  · exact h _ ((hended.trans (.of_same (by simp))).keeps_sound hs)
  · exact hs

theorem curveSound_frameAct {c : Instr} {f : RxFrame} (hf : frameOf c = some f) {s : State} (h : CurveSound s) :
    CurveSound (frameAct c s) := by
  have hkeeps : ∀ (b : Prop) [Decidable b] {t : State}, (b → CurveSound t) → CurveSound (if b then t else s) := by
    intro b _ t ht
    split_ifs with hb
    · exact ht hb
    · exact h
  cases c
  case grantFrame g => exact (CurveFollows.grantAct g s).keeps_sound h
  case levelFrame g => exact CurveFollows.keeps_sound (.of_same (t := levelAct g s) (by simp)) h
  case stopFrame => exact (CurveFollows.setLatch s).keeps_sound h
  case statusFrame g => exact (CurveFollows.statusAct g s).keeps_sound h
  case reportFrame => exact h
  case config g => exact hkeeps _ fun _ => (CurveFollows.takeConfig _ s).keeps_sound h
  case order g => exact hkeeps _ fun _ => curveSound_takeOrder _ h
  case abort g => exact hkeeps _ fun _ => CurveFollows.keeps_sound (.of_same (t := abortTest s) (by simp)) h
  case clear g _ => exact hkeeps _ fun _ => (CurveFollows.clearStation s).keeps_sound h
  case restart g _ => exact hkeeps _ fun _ => curveSound_restartStation s
  case reclaim g => exact (CurveFollows.reclaimAct g s).keeps_sound h
  all_goals simp [frameOf] at hf

/-- R163, R164: every command keeps the account of the curve and the frame in hand. -/
theorem exec_curveSound (c : Instr) {s : State} (h : CurveSound s) : Next (exec c s) CurveSound := by
  have hfinish : ∀ {t : State}, CurveSound t → Next (.next (finish s t)) CurveSound :=
    fun {t} ht => ⟨_, rfl, CurveFollows.keeps_sound (.of_same (s := t) (by simp)) ht⟩
  have hfollows : ∀ {t : State}, CurveFollows s t → Next (.next (finish s t)) CurveSound :=
    fun ht => hfinish (ht.keeps_sound h)
  have hlines : ∀ lines, CurveFollows s (s.setLines lines) := fun _ => .of_units rfl rfl
  by_cases hf : ∃ f, frameOf c = some f
  · obtain ⟨f, hf⟩ := hf
    rw [exec_frame hf]
    exact hfinish (curveSound_receive f (fun _ => curveSound_frameAct hf) ((hlines _).keeps_sound h))
  by_cases hb : Block.link ∈ mayChange c ∨ Block.recorder ∈ mayChange c
  · cases c
    case powerOnReset strap => exact hfinish (curveSound_powerOn strap s)
    case startIntervalEnd lines => exact hfollows (.startIntervalEnd lines s)
    case sampleTick lines => exact hfollows (.sampleTick lines s)
    case loadConversionEnd x => exact hfinish (curveSound_loadConversionEnd x h)
    case strainConversionEnd x => exact hfinish (curveSound_strainConversionEnd x h)
    case tareAttemptJudged => exact hfollows (.tareJudged s)
    case holdTimeout => exact hfollows (.reportIf _ _ s)
    case budgetTimeout => exact hfollows (.reportIf _ _ s)
    case endingTimeout => exact hfollows (.reportIf _ _ s)
    case followLossTimeout => exact hfollows (.followLossExpired s)
    case levelTimer => exact hfollows (.levelTimer s)
    case statusTimer => exact hfollows (.statusTimer s)
    case presenceTimeout node => exact hfollows (.dropMember _ s)
    case coldStart => exact hfollows (.coldStartDue s)
    case settlingComplete => exact hfollows (.of_same (by simp))
    case armClosedLow => exact hfollows ((hlines _).trans (.seatLost _))
    case identWord w => exact hfollows (.examineWord w s)
    case extCloseTimeout => exact hfollows (.closeExpired s)
    case identTimeout => exact hfollows (.identExpired s)
    case extOpenTimeout => exact hfollows (.openExpired s)
    case stopLineFall low => exact hfollows ((hlines _).trans (.setLatch _))
    case startBitSensed => exact hfollows (.startBitSensed s)
    case receiveError x => exact hfollows (.receiveError x s)
    case lineIdle => exact hfollows (.lineIdle s)
    case frameStart quiet => exact hfinish (curveSound_frameStart quiet h)
    case frameComplete => exact hfinish (curveSound_frameComplete h)
    case frameAbandon => exact hfinish (curveSound_frameAbandon h)
    case reportFrame cls f =>
      refine hfinish ?_
      unfold reportFrame
      split_ifs
      · exact curveSound_receive f (fun _ ht => ht) h
      · exact (CurveFollows.setLink rfl rfl).keeps_sound h
      · exact h
    case grantFrame | levelFrame | stopFrame | statusFrame | config | order | abort | clear | restart | reclaim =>
      exact absurd ⟨_, rfl⟩ hf
    all_goals simp [mayChange] at hb
  · obtain ⟨hl, hr⟩ := not_or.1 hb
    obtain ⟨u, he, -, hblocks⟩ := exec_framed c s
    rw [he]
    exact hfollows (.of_units (hblocks .recorder hr) (hblocks .link hl))

/-- Settles O5: most operations leave the store and the counts, and place no frame but one of the oldest samples
(`CurveFollows`). A sample that is offered is counted where it goes (`curveSound_offerSample`); a frame that starts,
completes or is abandoned takes its samples with it (`curveSound_startFrame`, `curveSound_curveComplete`,
`curveSound_returned`); an ORDER and a RESTART give the curve up (`curveSound_of_givenUp`). -/
theorem curveAccountHoldsOverSteps : Obligations.CurveAccountHoldsOverSteps := by
  unfold Obligations.CurveAccountHoldsOverSteps
  intro s t hs h
  exact kept_by_step (P := CurveSound) (fun _ hs => hs) (fun hs => (CurveFollows.passBitTime _).keeps_sound hs)
    exec_curveSound hs h

end Sys2Proof.Proofs
end
